-- ==== Sys2Proof/Word.lean ====
section
/-! DEFINITION. The plain value types of the model: bytes, digests, pool masks, the index types of pools, bands, channels and
accounts, and the two containers of fixed size (Four: one value for each pool or band; Table: one value for each index below n). -/

namespace Sys2Proof

/-- One byte of a payload, of the image or of a reply (R215). -/
abbrev Byte := BitVec 8

/-- A 32-bit pool digest or plan digest (R221). -/
abbrev Digest := BitVec 32

/-- A set of pools 0..3, pool p in bit p (R217, R222). -/
abbrev PoolMask := BitVec 4

/-- Pool number 0..3 (R29). -/
abbrev PoolId := Fin 4

/-- Tariff band 0..3 (00_scope.md, section 5). -/
abbrev Band := Fin 4

/-- Meter channel number 0..7 (R77). -/
abbrev ChannelId := Fin 8

/-- Account index 0..15 (R53). -/
abbrev AccountId := Fin 16

/-- The pool lies in the set. -/
def PoolMask.has (m : PoolMask) (p : PoolId) : Bool := m.getLsbD p.val

/-- The set with one pool added. -/
def PoolMask.add (m : PoolMask) (p : PoolId) : PoolMask := m ||| (1#4 <<< p.val)

/-- The pools of a set, ascending. -/
def PoolMask.pools (m : PoolMask) : List PoolId := [0, 1, 2, 3].filter (fun p => m.has p)

/-- One value for each of four pools or bands. -/
structure Four (α : Type) where
  p0 : α
  p1 : α
  p2 : α
  p3 : α
deriving DecidableEq, Repr

namespace Four
variable {α β : Type}

def fill (a : α) : Four α := ⟨a, a, a, a⟩

def ofFn (f : Fin 4 → α) : Four α := ⟨f 0, f 1, f 2, f 3⟩

def get (t : Four α) (i : Fin 4) : α :=
  match i with
  | 0 => t.p0
  | 1 => t.p1
  | 2 => t.p2
  | 3 => t.p3

def set (t : Four α) (i : Fin 4) (a : α) : Four α :=
  match i with
  | 0 => { t with p0 := a }
  | 1 => { t with p1 := a }
  | 2 => { t with p2 := a }
  | 3 => { t with p3 := a }

def modify (t : Four α) (i : Fin 4) (f : α → α) : Four α := t.set i (f (t.get i))

def map (t : Four α) (f : α → β) : Four β := ⟨f t.p0, f t.p1, f t.p2, f t.p3⟩

def toList (t : Four α) : List α := [t.p0, t.p1, t.p2, t.p3]

end Four

/-- One value for each index below n; the length is carried with the rows. -/
structure Table (n : Nat) (α : Type) where
  rows : List α
  len : rows.length = n
deriving DecidableEq, Repr

namespace Table
variable {n : Nat} {α β : Type}

def fill (n : Nat) (a : α) : Table n α := ⟨List.replicate n a, List.length_replicate⟩

def ofFn (f : Fin n → α) : Table n α := ⟨List.ofFn f, List.length_ofFn⟩

def get (t : Table n α) (i : Fin n) : α := t.rows[i.val]'(by rw [t.len]; exact i.isLt)

def set (t : Table n α) (i : Fin n) (a : α) : Table n α :=
  ⟨t.rows.set i.val a, by rw [List.length_set, t.len]⟩

def modify (t : Table n α) (i : Fin n) (f : α → α) : Table n α := t.set i (f (t.get i))

def map (t : Table n α) (f : α → β) : Table n β := ⟨t.rows.map f, by rw [List.length_map, t.len]⟩

end Table

/-- Every account index, ascending. -/
def allAccounts : List AccountId := [0, 1, 2, 3, 4, 5, 6, 7, 8, 9, 10, 11, 12, 13, 14, 15]

/-- Every channel number, ascending. -/
def allChannels : List ChannelId := [0, 1, 2, 3, 4, 5, 6, 7]

/-- Every pool number, ascending. -/
def allPools : List PoolId := [0, 1, 2, 3]

end Sys2Proof
end

