-- ==== Sys2Proof/Syntax.lean ====
section
/-! DEFINITION. The commands of the block: one constructor of Instr for each row of spec/opcode_table.json, in the table's
order. The table gives no row operands; the operands here are what the event carries from outside into the node (a channel
number, sensor readings, the bits on the line, the bytes of the image, the interval whose time runs out), log entry 2. -/

namespace Sys2Proof

/-- The level of a tamper contact as a sample finds it (R77, R91). -/
inductive Contact
  | isOpen
  | isClosed
deriving DecidableEq, Repr

/-- The receive pool class whose head a SUMMARY is taken from: CURRENT or LATE (R169). -/
inductive SummaryClass
  | current
  | late
deriving DecidableEq, Repr

/-- The two checks of R147 that are made in the middle of a frame. -/
inductive MidFrameError
  | fillViolation
  | lengthOutOfRange
deriving DecidableEq, Repr

/-- The commands (spec/opcode_table.json). -/
inductive Instr
  /-- POWER_ON (R212). -/
  | powerOn
  /-- RESET_ASSERTED (R212). -/
  | resetAsserted
  /-- RESET_TAKES_EFFECT (R212). -/
  | resetTakesEffect
  /-- RESET_RELEASED (R212). -/
  | resetReleased
  /-- SUPPLY_LOST (R212). -/
  | supplyLost
  /-- LOAD_COMPLETE (R211): the bytes of the configuration memory whose transfers were acknowledged, from byte 0; fewer than
  339 say that a transfer stayed unacknowledged after its retries (R210, check 1). -/
  | loadComplete (bytes : List Byte)
  /-- SUPPLY_WARN_ASSERTED (R213). -/
  | supplyWarnAsserted
  /-- SUPPLY_WARN_DEASSERTED (R213). -/
  | supplyWarnDeasserted
  /-- PULSE_INPUT (R80) on a channel. -/
  | pulseInput (ch : ChannelId)
  /-- SAMPLE (R81) of a channel: the supply-side and return-side readings in 0.01 degree steps, and the tamper contact. -/
  | sample (ch : ChannelId) (supply : Int) (ret : Int) (contact : Contact)
  /-- TAMPER_EDGE (R92) on a channel. -/
  | tamperEdge (ch : ChannelId)
  /-- LINE_IDLE (R141). -/
  | lineIdle
  /-- LINE_STUCK (R146). -/
  | lineStuck
  /-- FRAME_START (R142). -/
  | frameStart
  /-- CONTENTION_LOST (R143). -/
  | contentionLost
  /-- COLLISION_ERROR (R144). -/
  | collisionError
  /-- FRAME_ENDED (R145). -/
  | frameEnded
  /-- OFFER_LIST_ENTRY (R151). -/
  | offerListEntry
  /-- CONDITION_OFFER (R191). -/
  | conditionOffer
  /-- REPLY_OFFER (R202). -/
  | replyOffer
  /-- FRAME_RECEIVED (R147): the levels read on the line in each bit time from the start bit on, fill bits included; true is
  recessive. Beyond the list the line is recessive. -/
  | frameReceived (bits : List Bool)
  /-- OWN_EXPIRY (R107). -/
  | ownExpiry
  /-- FOUNDING (R119). -/
  | founding
  /-- SEND_TIME_EXPIRY (R11) of the record with this interval number. -/
  | sendTimeExpiry (k : Nat)
  /-- GATHER_EXPIRY (R16) of the record with this interval number. -/
  | gatherExpiry (k : Nat)
  /-- TAKE_CLOSE (R109). -/
  | takeClose
  /-- TAKE_SUMMARY (R17) from the head of a class. -/
  | takeSummary (cls : SummaryClass)
  /-- TAKE_RECALL (R23). -/
  | takeRecall
  /-- TAKE_ANNOUNCE (R129). -/
  | takeAnnounce
  /-- STATEMENT_QUERY (R203). -/
  | statementQuery
  /-- CLOSING_QUERY (R203). -/
  | closingQuery
  /-- POOL_QUERY (R204). -/
  | poolQuery
  /-- ROSTER_QUERY (R137). -/
  | rosterQuery
  /-- COUNTERS_QUERY (R205). -/
  | countersQuery
  /-- CONDITIONS_QUERY (R196). -/
  | conditionsQuery
  /-- CHECK_QUERY (R182). -/
  | checkQuery
  /-- CUT (R60). -/
  | cut
  /-- RELEASE (R66). -/
  | release
  /-- ACK (R193). -/
  | ack
  /-- REJOIN (R194). -/
  | rejoin
  /-- CLEAR_CHECK (R181). -/
  | clearCheck
  /-- UNDEFINED_REQUEST (R200). -/
  | undefinedRequest
  /-- COMPUTE_JOB_START (R42). -/
  | computeJobStart
  /-- COMPUTE_JOB_COMPLETE (R44). -/
  | computeJobComplete
  /-- SETTLE_JOB_START (R45). -/
  | settleJobStart
  /-- STORE_WRITE_START (R68). -/
  | storeWriteStart
  /-- STORE_WRITE_COMPLETE (R68). -/
  | storeWriteComplete
  /-- SETTLE_JOB_COMPLETE (R49). -/
  | settleJobComplete
  /-- HELD_CLOSE_TAKEN (R115). -/
  | heldCloseTaken
  /-- DRAIN_SETTLE_NEXT (R27). -/
  | drainSettleNext
  /-- DRAIN_END (R120). -/
  | drainEnd
  /-- START_BIT (R141). -/
  | startBit
  /-- RECEPTION_ERROR (R147): which mid-frame check failed. -/
  | receptionError (e : MidFrameError)
deriving DecidableEq, Repr

end Sys2Proof
end

