-- ==== Sys2Proof/Config.lean ====
section
/-! DEFINITION. The fixed figures of the node and the FREE VALUES: what the spec leaves open, as constants with no body, so that
no proof can see what they are and every statement holds whatever they are. Each is named in a log entry. -/

namespace Sys2Proof.Config

/-! ### Fixed figures -/

/-- Highest value of the 16-bit counters (00_scope.md, section 7). -/
def counterMax : Nat := 65535

/-- Highest energy of an interval figure or a contributor, in Wh (R4, R79). -/
def energyMax : Nat := 4294967295

/-- Highest cost of a contributor or a snapshot, in cost counts (R4, R96). -/
def costMax : Nat := 1099511627775

/-- Highest area of a contributor (R4). -/
def areaMax : Nat := 16777215

/-- Highest settled energy, 40 bits (R54). -/
def settledEnergyMax : Nat := 1099511627775

/-- Highest settled cost and highest lifetime figure, 48 bits (R54, R79). -/
def max48 : Nat := 281474976710655

/-- The clock tick of the idle step, in ms: every time of the spec is a multiple of it (log entry 4). -/
def tickMs : Nat := 20

/-! ### Free values -/

/-- What the ring writes as an account's raw energy when the exact sum of its channels' snapshots exceeds R5's range; the spec
states no result (log entry 10). -/
opaque rawEnergyBeyond : Nat → Fin 4294967296

/-- What the ring writes as a weighted energy when the quotient exceeds R5's range; the spec states no result (log entry 10). -/
opaque weightedEnergyBeyond : Nat → Fin 4294967296

/-- Whether a time that is not a whole number of seconds is reported rounded up (log entry 11). -/
opaque secondsRoundUp : Bool

/-- Whether a fill bit follows the last check bit when that bit completes a run of seven (log entry 14). -/
opaque fillAfterLastCheckBit : Bool

/-- Whether an ANNOUNCE or CONDITION frame concerns the interval number it carries, in TX_ABANDON's parameter and in the
head's interval of COUNTERS section 3 (log entry 15). -/
opaque statusFrameConcernsInterval : Bool

/-- Whether CLOCK_DEVIATION is raised before the close that it falls together with (log entry 16). -/
opaque deviationRaisedBeforeClose : Bool

/-- How the loader takes a channel kind code above 3: as some kind, or (none) as a failure of check 12 (log entry 17). -/
opaque undefinedChannelKind : Nat → Option (Fin 4)

/-- What the CHECK reply carries in place of the capture line while there is no capture: no line, or a line of 14 bytes
(log entry 18). -/
opaque absentCaptureLine : Option (BitVec 112)

end Sys2Proof.Config
end

