-- ==== Sys2Proof/WellFormed.lean ====
section
/-! DEFINITION. Which commands are well formed: the bounds that the spec puts on what an event carries. exec is total and does
not read this check; it says which operands an event of the real node can carry. -/

namespace Sys2Proof

/-- The image is 339 bytes long (R222). -/
def imageLength : Nat := 339

/-- The longest frame on the line, fill bits included (R140). -/
def longestFrame : Nat := 332

/-- The highest interval number (R103). -/
def maxInterval : Nat := 4294967295

/-- The operands of a command lie in the bounds the spec gives them: a read of the image gives at most its 339 bytes (R222), a
frame begins with the dominant start bit and is at most 332 bit times long (R140), a record's number is 1..4294967295 (R103). -/
def Instr.wellFormed : Instr → Bool
  | .loadComplete bytes => decide (bytes.length ≤ imageLength)
  | .frameReceived bits => decide (bits.length ≤ longestFrame) && bits.headD true == false
  | .sendTimeExpiry k => decide (1 ≤ k ∧ k ≤ maxInterval)
  | .gatherExpiry k => decide (1 ≤ k ∧ k ≤ maxInterval)
  | .powerOn | .resetAsserted | .resetTakesEffect | .resetReleased | .supplyLost | .supplyWarnAsserted
  | .supplyWarnDeasserted | .pulseInput _ | .sample _ _ _ _ | .tamperEdge _ | .lineIdle | .lineStuck | .frameStart
  | .contentionLost | .collisionError | .frameEnded | .offerListEntry | .conditionOffer | .replyOffer | .ownExpiry
  | .founding | .takeClose | .takeSummary _ | .takeRecall | .takeAnnounce | .statementQuery | .closingQuery | .poolQuery
  | .rosterQuery | .countersQuery | .conditionsQuery | .checkQuery | .cut | .release | .ack | .rejoin | .clearCheck
  | .undefinedRequest | .computeJobStart | .computeJobComplete | .settleJobStart | .storeWriteStart | .storeWriteComplete
  | .settleJobComplete | .heldCloseTaken | .drainSettleNext | .drainEnd | .startBit | .receptionError _ => true

end Sys2Proof
end

