-- ==== Sys2Proof/Machine/State.lean ====
section
/-! DEFINITION. The state of the node as plain data, block by block (00_scope.md, section 3), the outcomes a step can stop with,
and the state after reset. -/

namespace Sys2Proof.Machine

/-- No command of this block stops the node: every event of the table has an effect the spec gives it. No constructor. -/
inductive Fault
deriving DecidableEq, Repr

/-- Why a command is refused. -/
inductive Refusal
  /-- Raised by exec's arm of a command that has no meaning yet; safe (nothing can be proved of it). -/
  | notModelled (mnemonic : String)
deriving DecidableEq, Repr

/-! ## The configuration image (chapters 12 and 13) -/

/-- Pool kind (R29). -/
inductive PoolKind
  | heat
  | cold
deriving DecidableEq, Repr

/-- Channel kind (R77). -/
inductive ChannelKind
  | off
  | consumer
  | plant
  | supply
deriving DecidableEq, Repr

/-- Tamper mode (R77). -/
inductive TamperMode
  | level
  | pulse
deriving DecidableEq, Repr

/-- A pool definition (R29); nominal in 0.01 K. -/
structure PoolDef where
  kind : PoolKind
  base : Nat
  nominal : Nat
  coeff : Nat
deriving DecidableEq, Repr

/-- A point of the band schedule (R104). -/
structure SchedulePoint where
  start : Nat
  band : Band
deriving DecidableEq, Repr

/-- A channel definition (R77); asserted is the contact level that counts as asserted. -/
structure ChannelDef where
  kind : ChannelKind
  pool : PoolId
  account : AccountId
  weight : Nat
  deadBand : Nat
  tamper : TamperMode
  asserted : Contact
  prices : Four Nat
deriving DecidableEq, Repr

/-- An account definition (R53). -/
structure AccountDef where
  unit : Nat
  area : Nat
  factor : Nat
  mask : PoolMask
deriving DecidableEq, Repr

/-- The configuration image held since the last VALID load (R209); L, G, S, A and R as their setting codes. -/
structure Image where
  station : Nat
  mask : PoolMask
  cutEnable : Bool
  checkMask : PoolMask
  codeL : Nat
  codeG : Nat
  codeS : Nat
  codeA : Nat
  codeR : Nat
  founding : Nat
  pools : Four PoolDef
  schedule : List SchedulePoint
  channels : Table 8 ChannelDef
  accounts : Table 16 AccountDef
deriving DecidableEq, Repr

/-- The image loader's status (R209). -/
inductive LoadStatus
  | reading
  | valid
  | invalid (check : Nat)
deriving DecidableEq, Repr

/-! ## The interval ring (chapter 1) -/

/-- Record state (R3). -/
inductive RecordState
  | opened
  | gathering
  | provisional
  | settling
deriving DecidableEq, Repr

/-- Close cause (R3). -/
inductive CloseCause
  | own
  | foreign
  | implicit
  | jump
deriving DecidableEq, Repr

/-- Compute state (R3). -/
inductive ComputeState
  | none
  | computed
  | stale
deriving DecidableEq, Repr

/-- Own summary sending state (R4). -/
inductive Sending
  | waiting
  | offered
  | queued
  | sent
  | notSent
  | withdrawn
deriving DecidableEq, Repr

/-- Account status (R54). -/
inductive AccountStatus
  | occupied
  | vacant
deriving DecidableEq, Repr

/-- The five totals of a pool (R4). -/
structure Totals where
  e : Nat
  c : Nat
  u : Nat
  m : Nat
  a : Nat
deriving DecidableEq, Repr

/-- A contributor entry (R4). -/
structure Entry where
  station : Nat
  values : Totals
  estimated : Bool
  tampered : Bool
  late : Bool
  unexpected : Bool
  conflict : Bool
deriving DecidableEq, Repr

/-- The own summary of a pool (R8). -/
structure OwnSummary where
  values : Totals
  estimated : Bool
  tampered : Bool
deriving DecidableEq, Repr

/-- A pool part of a record (R4), with the orphan-notice mark of R35. -/
structure PoolPart where
  expected : List Nat
  contributors : List Entry
  totals : Totals
  complete : Bool
  recalled : Bool
  estimated : Bool
  tampered : Bool
  orphan : Bool
  imbalance : Bool
  orphanNotice : Bool
  own : Option OwnSummary
  sending : Option Sending
  resends : Nat
  resendQueued : Bool
deriving DecidableEq, Repr

/-- The fields of an account part for one pool (R5). -/
structure AccountPool where
  raw : Option Nat
  weighted : Option Nat
  posting : Option Nat
  estimated : Bool
  tampered : Bool
deriving DecidableEq, Repr

/-- A tenancy snapshot (R5). -/
structure Tenancy where
  number : Nat
  status : AccountStatus
deriving DecidableEq, Repr

/-- An account part of a record (R5). -/
structure AccountPart where
  tenancy : Option Tenancy
  pools : Four AccountPool
deriving DecidableEq, Repr

/-- An interval record (R3 to R5). Times are in ms. The pool parts outside the node's pool mask do not exist at the node: they
keep their values of opening and nothing reads them. -/
structure Record where
  number : Nat
  state : RecordState
  band : Band
  cause : Option CloseCause
  causeStation : Option Nat
  renumbered : Bool
  partialMark : Bool
  unallocated : Bool
  gather : Option Nat
  send : Option Nat
  compute : ComputeState
  pools : Four PoolPart
  accounts : Table 16 AccountPart
deriving DecidableEq, Repr

/-- An entry of the settled digest history (R26). -/
structure HistoryEntry where
  number : Nat
  band : Band
  digests : Four Digest
deriving DecidableEq, Repr

/-- One pool of the last settled view (R25, R26). -/
structure ViewPool where
  totals : Totals
  contributors : List Entry
  complete : Bool
  recalled : Bool
  estimated : Bool
  tampered : Bool
  orphan : Bool
  imbalance : Bool
deriving DecidableEq, Repr

/-- The last settled view (R25, R26). -/
structure SettledView where
  number : Nat
  band : Band
  cause : Option CloseCause
  causeStation : Option Nat
  renumbered : Bool
  partialMark : Bool
  unallocated : Bool
  compute : ComputeState
  pools : Four ViewPool
deriving DecidableEq, Repr

/-- Ring counters (R28). -/
structure RingCounters where
  sumDuplicate : Nat
  sumConflict : Nat
  sumTooLate : Nat
  sumUnplaced : Nat
  sumRefused : Nat
  recallDropped : Nat
  recallUnanswered : Nat
  resendLimit : Nat
  resendDropped : Nat
deriving DecidableEq, Repr

/-- The interval ring: the records oldest first, empty slots not listed (R1, R2), the history and the view (R26). -/
structure Ring where
  records : List Record
  history : List HistoryEntry
  view : Option SettledView
  counters : RingCounters
deriving DecidableEq, Repr

/-! ## The account table and the retained store (chapter 3) -/

/-- The settled figures of one pool and band (R54). -/
structure Figure where
  energy : Nat
  cost : Nat
  estimated : Nat
  tampered : Nat
deriving DecidableEq, Repr

/-- Settled figures per pool and band (R54). -/
abbrev Figures := Four (Four Figure)

/-- The settled figures of a target with its last settled interval (R46). -/
structure Settled where
  last : Nat
  figures : Figures
deriving DecidableEq, Repr

/-- An account's state in the table (R54). -/
structure Account where
  tenancy : Nat
  status : AccountStatus
  settled : Settled
  pendingCut : Option AccountStatus
  damaged : Bool
deriving DecidableEq, Repr

/-- A closing statement (R58). -/
structure Statement where
  unit : Nat
  tenancy : Nat
  oldStatus : AccountStatus
  newStatus : AccountStatus
  cut : Nat
  final : Bool
  incomplete : Bool
  settled : Settled
deriving DecidableEq, Repr

/-- Account counters (R76). -/
structure AccountCounters where
  cutsApplied : Nat
  repairCuts : Nat
  releases : Nat
  noTarget : Nat
  saturatedAdds : Nat
  storeHeld : Nat
deriving DecidableEq, Repr

/-- The account table: whether it holds its accounts, as it does from restore on (R54, R211), the accounts, closing-statement slots
(R58), the node's last settled interval (R67). -/
structure AccountTable where
  holdsAccounts : Bool
  accounts : Table 16 Account
  slots : Table 16 (Option Statement)
  nodeLast : Nat
  counters : AccountCounters
deriving DecidableEq, Repr

/-- Lifetime figures of a channel (R79). -/
structure Lifetime where
  energy : Nat
  reverse : Nat
  volume : Nat
deriving DecidableEq, Repr

/-- The contents of an account record of the store (R67). -/
structure AccountRecord where
  unit : Nat
  tenancy : Nat
  status : AccountStatus
  settled : Settled
deriving DecidableEq, Repr

/-- A retained record as a read finds it (R67). -/
inductive Cell (α : Type)
  | blank
  | valid (a : α)
  | damaged
deriving DecidableEq, Repr

/-- The contents of one store write, with the record it names (R67, R68); a statement record of none is free. -/
inductive StoreWrite
  | account (i : AccountId) (r : AccountRecord)
  | statement (i : AccountId) (r : Option Statement)
  | lifetime (ch : ChannelId) (l : Lifetime)
  | node (last : Nat)
deriving DecidableEq, Repr

/-- A write request; awaited says that the SETTLE job in flight waits for its completion (R68). -/
structure StoreRequest where
  write : StoreWrite
  awaited : Bool
deriving DecidableEq, Repr

/-- The 41 retained records (R67). -/
structure StoreContents where
  accounts : Table 16 (Cell AccountRecord)
  statements : Table 16 (Cell (Option Statement))
  lifetimes : Table 8 (Cell Lifetime)
  node : Cell Nat
deriving DecidableEq, Repr

/-- The retained store: its records, the write in progress and the waiting requests in order (R68). -/
structure Store where
  contents : StoreContents
  writing : Option StoreRequest
  queue : List StoreRequest
deriving DecidableEq, Repr

/-! ## The allocation engine (chapter 2) -/

/-- Job kind (section 2.3). -/
inductive JobKind
  | compute
  | recompute
  | settle
deriving DecidableEq, Repr

/-- A waiting job (R38). -/
structure Job where
  kind : JobKind
  interval : Nat
deriving DecidableEq, Repr

/-- A compute job in flight with its copy (R42). -/
structure ComputeJob where
  recompute : Bool
  interval : Nat
  copy : Four Totals
  damaged : Table 16 Bool
  overtaken : Bool
deriving DecidableEq, Repr

/-- The write that a SETTLE job waits for (R48, R49). -/
inductive SettleWrite
  | step (i : AccountId) (onStatement : Bool) (figures : Settled)
  | final (i : AccountId)
  | node
deriving DecidableEq, Repr

/-- A SETTLE job in flight: its digests, the accounts and statements still to come, the write it waits for (none when all its
writes are done), whether a cut has taken the step's figures (R63), and whether it waits for the supply warning before it
requests that write (R48). -/
structure SettleJob where
  interval : Nat
  digests : Four Digest
  accountsLeft : List AccountId
  finalsLeft : List AccountId
  waiting : Option SettleWrite
  absorbed : Bool
  heldByWarning : Bool
deriving DecidableEq, Repr

/-- The job in flight (R38). -/
inductive Flight
  | compute (j : ComputeJob)
  | settle (j : SettleJob)
deriving DecidableEq, Repr

/-- Engine counters (R52). -/
structure EngineCounters where
  computeRuns : Nat
  recomputeRuns : Nat
  recomputeCoalesced : Nat
  staleResults : Nat
  mSubstituted : Nat
  settleRuns : Nat
  settleSkipped : Nat
  settleUncomputed : Nat
  settleWaits : Nat
deriving DecidableEq, Repr

/-- The allocation engine: job list, job in flight (R38). -/
structure Engine where
  jobs : List Job
  flight : Option Flight
  counters : EngineCounters
deriving DecidableEq, Repr

/-! ## Meter channels (chapter 4) -/

/-- Channel counters (R99). -/
structure ChannelCounters where
  overrunSamples : Nat
  deadBandSamples : Nat
  reverseEntries : Nat
  faultEntries : Nat
  tamperEvents : Nat
  energyClipped : Nat
deriving DecidableEq, Repr

/-- A meter channel (R79); sincePulses is the count of R81 since the previous sample. -/
structure Channel where
  sincePulses : Nat
  pulses : Nat
  volume : Nat
  energy : Nat
  reverse : Nat
  forwardRem : Nat
  reverseRem : Nat
  held : Nat
  still : Bool
  idle : Nat
  toRead : Option Nat
  reversed : Bool
  reverseRun : Nat
  forwardRun : Nat
  sensorFault : Bool
  badRun : Nat
  goodRun : Nat
  lastDelta : Option Int
  estimated : Bool
  tampered : Bool
  overrun : Bool
  levelSeen : Bool
  latch : Bool
  life : Lifetime
  counters : ChannelCounters
deriving DecidableEq, Repr

/-! ## The interval unit (chapter 5) -/

/-- Membership state (R100). -/
inductive Membership
  | starting
  | unconfigured
  | listening
  | member
  | observer
deriving DecidableEq, Repr

/-- Interval timer (R102); the remaining time in ms. -/
inductive Timer
  | stopped
  | running (ms : Nat)
  | waitingLine
deriving DecidableEq, Repr

/-- Band source of a close request (R113). -/
inductive BandSource
  | schedule
  | frame (b : Band)
deriving DecidableEq, Repr

/-- The held close (R113). -/
structure HeldClose where
  interval : Nat
  cause : CloseCause
  station : Option Nat
  source : BandSource
deriving DecidableEq, Repr

/-- Interval unit counters (R121). -/
structure IntervalCounters where
  closesTaken : Nat
  closesSent : Nat
  closeWithdrawn : Nat
  closeDuplicate : Nat
  closeBehind : Nat
  implicitCloses : Nat
  jumps : Nat
  closesHeld : Nat
  heldMerged : Nat
  deviations : Nat
  numberLimit : Nat
  adoptions : Nat
  foundings : Nat
deriving DecidableEq, Repr

/-- The interval unit (chapter 5); listen is the listen time remaining in ms, absent where none runs (DESIGN CHOICE, log entry 59). -/
structure IntervalUnit where
  membership : Membership
  openNumber : Nat
  timer : Timer
  listen : Option Nat
  held : Option HeldClose
  driftRun : Nat
  driftMark : Bool
  drain : Bool
  counters : IntervalCounters
deriving DecidableEq, Repr

/-! ## The roster (chapter 6) -/

/-- Role (R122). -/
inductive Role
  | node
  | reader
deriving DecidableEq, Repr

/-- Plan state (R122). -/
inductive PlanState
  | unknown
  | isMatch
  | mismatch
deriving DecidableEq, Repr

/-- Entry state (R122). -/
inductive PeerState
  | active
  | silent
  | quarantined
deriving DecidableEq, Repr

/-- A roster entry (R122). -/
structure Peer where
  station : Nat
  role : Role
  mask : PoolMask
  plan : PlanState
  state : PeerState
  missed : Nat
  frames : Nat
  noisy : Nat
  lastHeard : Nat
  announcedInterval : Option Nat
  announcedMembership : Option Membership
deriving DecidableEq, Repr

/-- Sending state of the own ANNOUNCE (R128). -/
inductive AnnounceSending
  | none
  | waiting
  | queued
deriving DecidableEq, Repr

/-- Roster counters (R138). -/
structure RosterCounters where
  learned : Nat
  evicted : Nat
  notAdmitted : Nat
  freed : Nat
  rateDiscarded : Nat
  quarantines : Nat
  quarantineReleases : Nat
  planMismatches : Nat
  announcesSent : Nat
deriving DecidableEq, Repr

/-- The roster (chapter 6), entries ascending by station. -/
structure Roster where
  entries : List Peer
  fullMark : Bool
  announce : AnnounceSending
  planDigest : Digest
  counters : RosterCounters
deriving DecidableEq, Repr

/-! ## The share line (chapter 7) -/

/-- Line monitor state (R141). -/
inductive Monitor
  | gap
  | idle
  | frame
  | stuck
deriving DecidableEq, Repr

/-- A SUMMARY's contents (R217); digest none is the digest-absent flag. -/
structure SummaryBody where
  interval : Nat
  pool : PoolId
  values : Totals
  estimated : Bool
  tampered : Bool
  resend : Bool
  digest : Option Digest
deriving DecidableEq, Repr

/-- The timer and the held close as the own ANNOUNCE carries them (R100). -/
structure UnitFigures where
  timer : Timer
  held : Option HeldClose
deriving DecidableEq, Repr

/-- The contents of a frame by kind (R217 to R219). The own ANNOUNCE carries the timer and the held close too (R100); R217 names no place
for them among the ten bytes, so they stand in the frame that the transmit queue holds and not in its bits (DESIGN CHOICE, log entry
57). -/
inductive FrameBody
  | close (interval : Nat) (band : Band)
  | condition (payload : List Byte)
  | recall (interval : Nat) (pool : PoolId) (missing : BitVec 64)
  | summary (b : SummaryBody)
  | announce (role : Role) (membership : Option Membership) (mask : PoolMask) (digest : Digest) (openNumber : Nat)
      (carried : Option UnitFigures)
  | request (payload : List Byte)
  | reply (payload : List Byte)
deriving DecidableEq, Repr

/-- A frame in the transmit queue (R149). The age is the frame's place among those of its kind. -/
structure TxFrame where
  body : FrameBody
  attempts : Nat
  sending : Bool
deriving DecidableEq, Repr

/-- An entry of the offer list (R151). -/
inductive Offer
  | summary (b : SummaryBody)
  | announce
deriving DecidableEq, Repr

/-- Link counters (R156). -/
structure LinkCounters where
  txFrames : Nat
  txContentionLost : Nat
  txCollisions : Nat
  txAbandoned : Nat
  txWithdrawn : Nat
  txCutOff : Nat
  txRefused : Nat
  warnHolds : Nat
  stuckEpisodes : Nat
  rxFrames : Nat
  rxBadForm : Nat
  rxBadLength : Nat
  rxBadCheck : Nat
  rxBadKind : Nat
  rxBadSource : Nat
  rxOwnSource : Nat
deriving DecidableEq, Repr

/-- The line interface (chapter 7): the monitor with its count of recessive bit times and the length of the dominant run, the
transmit queue in queue order (R149), the offer list (R151), the marks, and whether the present warning has been counted in
WARN_HOLDS (R154). -/
structure Line where
  monitor : Monitor
  recessive : Nat
  dominant : Nat
  queue : List TxFrame
  offers : List Offer
  stuckMark : Bool
  dupMark : Bool
  warnCounted : Bool
  counters : LinkCounters
deriving DecidableEq, Repr

/-! ## The receive pool (chapter 8) -/

/-- A received frame (R157): its source and its contents. -/
structure RxFrame where
  source : Nat
  body : FrameBody
deriving DecidableEq, Repr

/-- Pool class (R157). -/
inductive RxClass
  | current
  | late
  | service
deriving DecidableEq, Repr

/-- An entry of the receive pool (R157). -/
structure RxEntry where
  frame : RxFrame
  cls : RxClass
  arrival : Nat
  notAdmitted : Bool
deriving DecidableEq, Repr

/-- Pool mode (R164). -/
inductive RxMode
  | normal
  | urgent
deriving DecidableEq, Repr

/-- Receive pool counters (R172). -/
structure RxCounters where
  kindDiscarded : Nat
  peerRefused : Nat
  poolDiscarded : Nat
  notAddressed : Nat
  dropCurrent : Nat
  dropLate : Nat
  dropService : Nat
  purged : Nat
  urgentEntries : Nat
deriving DecidableEq, Repr

/-- The receive pool (R157), entries in arrival order; arrivals is the last arrival number given. -/
structure RxPool where
  entries : List RxEntry
  mode : RxMode
  dropCurrent : Bool
  dropLate : Bool
  dropService : Bool
  arrivals : Nat
  peak : Nat
  counters : RxCounters
deriving DecidableEq, Repr

/-! ## The cross-check unit (chapter 9) -/

/-- The four counters of a pool (R173). -/
structure CheckCounts where
  compared : Nat
  mismatched : Nat
  absent : Nat
  unheld : Nat
deriving DecidableEq, Repr

/-- The first-mismatch capture (R177). -/
structure Capture where
  interval : Nat
  pool : PoolId
  station : Nat
  own : Digest
  received : Digest
deriving DecidableEq, Repr

/-- The cross-check unit (R173); its mask is the image's. -/
structure CrossCheck where
  counts : Four CheckCounts
  capture : Option Capture
  run : Nat
  runInterval : Nat
  latch : Bool
deriving DecidableEq, Repr

/-! ## The condition unit (chapter 10) -/

/-- The 22 causes (R185). -/
inductive Cause
  | restarted
  | sensorFault
  | pulseOverrun
  | reversed
  | tamper
  | meterImbalance
  | orphanCost
  | rosterFull
  | noisyPeer
  | summaryConflict
  | numberingJump
  | clockDeviation
  | rxDrop
  | txAbandon
  | configMismatch
  | accountFresh
  | configInvalid
  | lineStuck
  | duplicateStation
  | disagreement
  | storeDamaged
  | accumulatorLimit
deriving DecidableEq, Repr

/-- Sending state of a condition (R184). -/
inductive CondSending
  | unsent
  | queued
  | sent
deriving DecidableEq, Repr

/-- A condition record (R184); the class follows from the cause (R185). -/
structure Condition where
  seq : Nat
  cause : Cause
  param : Nat
  interval : Nat
  sending : CondSending
deriving DecidableEq, Repr

/-- The latest fault (R188). -/
structure LatestFault where
  cause : Cause
  param : Nat
  interval : Nat
deriving DecidableEq, Repr

/-- The fault record while it holds a fault (R188). -/
structure FaultRecord where
  fault : Condition
  compound : Option Condition
  latest : Option LatestFault
deriving DecidableEq, Repr

/-- Condition counters (R197). -/
structure CondCounters where
  faultsRaised : Nat
  laterFaults : Nat
  observerEntries : Nat
  noticesDisplaced : Nat
  displacedUnsent : Nat
  conditionsSent : Nat
  acks : Nat
  rejoins : Nat
deriving DecidableEq, Repr

/-- The condition unit (chapter 10). -/
structure CondUnit where
  seq : Nat
  notices : List Condition
  record : Option FaultRecord
  counters : CondCounters
deriving DecidableEq, Repr

/-! ## The service responder (chapter 11) -/

/-- Status codes (section 11.6). -/
inductive Status
  | done
  | accepted
  | notPermitted
  | noSuch
  | pending
  | held
  | limit
  | notFinal
  | state
deriving DecidableEq, Repr

/-- The request in flight (R198): frames are the reply's payloads (header and copy, R201), waitsForRoom is set from a refused
offer until room is reported (R202). -/
structure Serving where
  requester : Nat
  tag : Byte
  subKind : Byte
  queryKind : Byte
  status : Status
  value : Nat
  frames : List (List Byte)
  next : Nat
  inQueue : Nat
  cutShort : Bool
  waitsForRoom : Bool
deriving DecidableEq, Repr

/-- Responder counters (R208). -/
structure RespCounters where
  requestsTaken : Nat
  requestsRefused : Nat
  replyFrames : Nat
  replyWaits : Nat
  repliesCut : Nat
deriving DecidableEq, Repr

/-- The service responder (R198); none is IDLE. -/
structure Responder where
  serving : Option Serving
  counters : RespCounters
deriving DecidableEq, Repr

/-! ## The node -/

/-- Supply and reset condition of the node (R212): unpowered, held in reset by the input, or running. -/
inductive Power
  | off
  | heldInReset
  | running
deriving DecidableEq, Repr

/-- The reset cause (R212). -/
inductive ResetCause
  | powerOn
  | resetInput
deriving DecidableEq, Repr

/-- The control lines and the start (chapter 12): supply, RESET level, a latched reset not yet taken, the cause of the last
reset, SUPPLY-WARN level, load status. -/
structure Control where
  power : Power
  resetIn : Bool
  resetLatched : Bool
  resetCause : ResetCause
  supplyWarn : Bool
  load : LoadStatus
deriving DecidableEq, Repr

/-- The state of the node, with the commands that wait (first in, first out). -/
structure State where
  pending : List Instr
  control : Control
  image : Image
  interval : IntervalUnit
  ring : Ring
  engine : Engine
  table : AccountTable
  store : Store
  channels : Table 8 Channel
  roster : Roster
  line : Line
  rx : RxPool
  check : CrossCheck
  cond : CondUnit
  resp : Responder
deriving DecidableEq, Repr

/-! ## The state after reset -/

def Totals.zero : Totals := ⟨0, 0, 0, 0, 0⟩

def Figure.zero : Figure := ⟨0, 0, 0, 0⟩

def Figures.zero : Figures := Four.fill (Four.fill Figure.zero)

def Settled.zero : Settled := ⟨0, Figures.zero⟩

/-- What the image field holds while no VALID image has been loaded since reset; nothing reads it then (DESIGN CHOICE, log
entry 3). -/
def Image.unread : Image where
  station := 0
  mask := 0#4
  cutEnable := false
  checkMask := 0#4
  codeL := 0
  codeG := 0
  codeS := 0
  codeA := 0
  codeR := 0
  founding := 0
  pools := Four.fill ⟨.heat, 0, 0, 0⟩
  schedule := []
  channels := Table.fill 8 ⟨.off, 0, 0, 0, 0, .level, .isOpen, Four.fill 0⟩
  accounts := Table.fill 16 ⟨0, 0, 0, 0#4⟩

/-- What an account's place holds while the table holds no accounts, before restore and in UNCONFIGURED; nothing reads it then (log
entry 3). -/
def Account.unread : Account := ⟨1, .occupied, Settled.zero, none, false⟩

/-- A channel after reset, with the lifetime figures that restore gives it (R79, R98). -/
def Channel.fresh (life : Lifetime) : Channel where
  sincePulses := 0
  pulses := 0
  volume := 0
  energy := 0
  reverse := 0
  forwardRem := 0
  reverseRem := 0
  held := 0
  still := false
  idle := 0
  toRead := none
  reversed := false
  reverseRun := 0
  forwardRun := 0
  sensorFault := false
  badRun := 0
  goodRun := 0
  lastDelta := none
  estimated := false
  tampered := false
  overrun := false
  levelSeen := false
  latch := false
  life := life
  counters := ⟨0, 0, 0, 0, 0, 0⟩

def Lifetime.zero : Lifetime := ⟨0, 0, 0⟩

/-- The retained store as manufactured: every record blank (R67; DESIGN CHOICE for State.reset, log entry 3). -/
def StoreContents.blank : StoreContents where
  accounts := Table.fill 16 .blank
  statements := Table.fill 16 .blank
  lifetimes := Table.fill 8 .blank
  node := .blank

/-- The node right after a reset of the given cause has taken effect: the store's records and the levels of the two control
inputs are kept, everything else takes its value after reset (R1, R26, R28, R38, R52, R54, R76, R79, R99, R100, R102, R116, R121,
R122, R128, R138, R141, R149, R155 to R157, R172, R173, R186, R188, R197, R198, R208, R209). That no listen time is held then (log
entry 59), and that a supply warning still asserted counts as not yet counted in WARN_HOLDS (R154; log entry 60), are not stated by
the spec: DESIGN CHOICE. -/
def State.afterReset (cause : ResetCause) (contents : StoreContents) (resetIn supplyWarn : Bool) (power : Power)
    (pending : List Instr) : State where
  pending := pending
  control := ⟨power, resetIn, false, cause, supplyWarn, .reading⟩
  image := Image.unread
  interval :=
    { membership := .starting, openNumber := 0, timer := .stopped, listen := none, held := none, driftRun := 0,
      driftMark := false, drain := false, counters := ⟨0, 0, 0, 0, 0, 0, 0, 0, 0, 0, 0, 0, 0⟩ }
  ring := { records := [], history := [], view := none, counters := ⟨0, 0, 0, 0, 0, 0, 0, 0, 0⟩ }
  engine := { jobs := [], flight := none, counters := ⟨0, 0, 0, 0, 0, 0, 0, 0, 0⟩ }
  table :=
    { holdsAccounts := false, accounts := Table.fill 16 Account.unread, slots := Table.fill 16 none, nodeLast := 0,
      counters := ⟨0, 0, 0, 0, 0, 0⟩ }
  store := { contents := contents, writing := none, queue := [] }
  channels := Table.fill 8 (Channel.fresh Lifetime.zero)
  roster :=
    { entries := [], fullMark := false, announce := .none, planDigest := 0#32, counters := ⟨0, 0, 0, 0, 0, 0, 0, 0, 0⟩ }
  line :=
    { monitor := .gap, recessive := 0, dominant := 0, queue := [], offers := [], stuckMark := false, dupMark := false,
      warnCounted := false, counters := ⟨0, 0, 0, 0, 0, 0, 0, 0, 0, 0, 0, 0, 0, 0, 0, 0⟩ }
  rx :=
    { entries := [], mode := .normal, dropCurrent := false, dropLate := false, dropService := false, arrivals := 0,
      peak := 0, counters := ⟨0, 0, 0, 0, 0, 0, 0, 0, 0⟩ }
  check := { counts := Four.fill ⟨0, 0, 0, 0⟩, capture := none, run := 0, runInterval := 0, latch := false }
  cond := { seq := 0, notices := [], record := none, counters := ⟨0, 0, 0, 0, 0, 0, 0, 0⟩ }
  resp := { serving := none, counters := ⟨0, 0, 0, 0, 0⟩ }

/-- The node right after power-on (R212), its store as manufactured and both control inputs released; no command waits. -/
def State.reset : State :=
  State.afterReset .powerOn StoreContents.blank false false .running []

/-! ## Updates of one block -/

def State.onControl (f : Control → Control) (s : State) : State := { s with control := f s.control }
def State.onInterval (f : IntervalUnit → IntervalUnit) (s : State) : State := { s with interval := f s.interval }
def State.onRing (f : Ring → Ring) (s : State) : State := { s with ring := f s.ring }
def State.onEngine (f : Engine → Engine) (s : State) : State := { s with engine := f s.engine }
def State.onTable (f : AccountTable → AccountTable) (s : State) : State := { s with table := f s.table }
def State.onStore (f : Store → Store) (s : State) : State := { s with store := f s.store }
def State.onChannel (ch : ChannelId) (f : Channel → Channel) (s : State) : State :=
  { s with channels := s.channels.modify ch f }
def State.onRoster (f : Roster → Roster) (s : State) : State := { s with roster := f s.roster }
def State.onLine (f : Line → Line) (s : State) : State := { s with line := f s.line }
def State.onRx (f : RxPool → RxPool) (s : State) : State := { s with rx := f s.rx }
def State.onCheck (f : CrossCheck → CrossCheck) (s : State) : State := { s with check := f s.check }
def State.onCond (f : CondUnit → CondUnit) (s : State) : State := { s with cond := f s.cond }
def State.onResp (f : Responder → Responder) (s : State) : State := { s with resp := f s.resp }

end Sys2Proof.Machine
end

