-- ==== Sys2Proof/Machine/Operands.lean ====
section
/-! DEFINITION. The formats of chapter 13: bytes and bits, the two checks, the bits of a frame on the line and their reception,
the payloads of frames and requests, and the configuration image. -/

namespace Sys2Proof.Machine

/-! ## Bytes and bits -/

/-- n bytes, most significant first (R215). -/
def beBytes : Nat → Nat → List Byte
  | 0, _ => []
  | n + 1, v => BitVec.ofNat 8 (v / 256 ^ n) :: beBytes n v

/-- The number that bytes spell, most significant first (R215). -/
def natOfBytes (bs : List Byte) : Nat := bs.foldl (fun a b => a * 256 + b.toNat) 0

/-- The field of len bytes at an offset. -/
def fieldAt (bs : List Byte) (off len : Nat) : Nat := natOfBytes ((bs.drop off).take len)

/-- n bits, most significant first (R215). -/
def natBits : Nat → Nat → List Bool
  | 0, _ => []
  | n + 1, v => v.testBit n :: natBits n v

/-- The number that bits spell, most significant first. -/
def natOfBits (bs : List Bool) : Nat := bs.foldl (fun a b => 2 * a + b.toNat) 0

def byteBits (b : Byte) : List Bool := natBits 8 b.toNat

def bytesBits (bs : List Byte) : List Bool := bs.flatMap byteBits

/-- The first n bytes that bits spell. -/
def bytesOfBits : Nat → List Bool → List Byte
  | 0, _ => []
  | n + 1, bits => BitVec.ofNat 8 (natOfBits (bits.take 8)) :: bytesOfBits n (bits.drop 8)

/-- One bit of a byte set or clear. -/
def flagBit (n : Nat) (b : Bool) : Nat := if b then 2 ^ n else 0

/-! ## Checks (R221) -/

/-- A cyclic redundancy register after bits taken most significant first. -/
def crcBits {w : Nat} (poly reg : BitVec w) (bits : List Bool) : BitVec w :=
  bits.foldl (fun r b => if (r.msb ^^ b) then (r <<< 1) ^^^ poly else r <<< 1) reg

/-- The 16-bit check of frames and of the image: x¹⁶ + x¹⁵ + x² + 1, preset FFFFh, not inverted. -/
def crc16 (bs : List Byte) : BitVec 16 := crcBits 0x8005#16 0xFFFF#16 (bytesBits bs)

/-- The 32-bit check of digests: 04C11DB7h, preset FFFFFFFFh, complemented. -/
def crc32 (bs : List Byte) : Digest := ~~~ crcBits 0x04C11DB7#32 0xFFFFFFFF#32 (bytesBits bs)

/-- The pool digest (R45, R221). -/
def poolDigest (interval : Nat) (p : PoolId) (band : Band) (stations : List Nat) (t : Totals) : Digest :=
  crc32 (beBytes 4 interval ++ beBytes 1 p.val ++ beBytes 1 band.val ++ beBytes 1 stations.length
    ++ stations.flatMap (beBytes 1) ++ beBytes 5 t.e ++ beBytes 6 t.c ++ beBytes 5 t.u ++ beBytes 5 t.m ++ beBytes 4 t.a)

/-- The plan digest (R127, R221). -/
def planDigest (img : Image) : Digest :=
  crc32 (beBytes 1 img.codeL ++ beBytes 1 img.codeG
    ++ img.pools.toList.flatMap (fun d => beBytes 1 (match d.kind with | .heat => 0 | .cold => 1) ++ beBytes 1 d.base)
    ++ beBytes 1 img.schedule.length
    ++ img.schedule.flatMap (fun pt => beBytes 2 pt.start ++ beBytes 1 pt.band.val))

/-! ## Codes (R216, R185) -/

def Membership.code : Membership → Nat
  | .starting => 0
  | .unconfigured => 1
  | .listening => 2
  | .member => 3
  | .observer => 4

def Membership.ofCode : Nat → Option Membership
  | 0 => some .starting
  | 1 => some .unconfigured
  | 2 => some .listening
  | 3 => some .member
  | 4 => some .observer
  | _ => none

def CloseCause.code : Option CloseCause → Nat
  | none => 0
  | some .own => 1
  | some .foreign => 2
  | some .implicit => 3
  | some .jump => 4

def Status.code : Status → Nat
  | .done => 0
  | .accepted => 1
  | .notPermitted => 2
  | .noSuch => 3
  | .pending => 4
  | .held => 5
  | .limit => 6
  | .notFinal => 7
  | .state => 8

def AccountStatus.code : AccountStatus → Nat
  | .occupied => 0
  | .vacant => 1

def ChannelKind.code : ChannelKind → Nat
  | .off => 0
  | .consumer => 1
  | .plant => 2
  | .supply => 3

def RecordState.code : RecordState → Nat
  | .opened => 1
  | .gathering => 2
  | .provisional => 3
  | .settling => 4

def Monitor.code : Monitor → Nat
  | .gap => 0
  | .idle => 1
  | .frame => 2
  | .stuck => 3

/-- The code of a cause (R185). -/
def Cause.code : Cause → Nat
  | .restarted => 1
  | .sensorFault => 2
  | .pulseOverrun => 3
  | .reversed => 4
  | .tamper => 5
  | .meterImbalance => 6
  | .orphanCost => 7
  | .rosterFull => 8
  | .noisyPeer => 9
  | .summaryConflict => 10
  | .numberingJump => 11
  | .clockDeviation => 12
  | .rxDrop => 13
  | .txAbandon => 14
  | .configMismatch => 15
  | .accountFresh => 16
  | .configInvalid => 17
  | .lineStuck => 18
  | .duplicateStation => 19
  | .disagreement => 20
  | .storeDamaged => 21
  | .accumulatorLimit => 22

/-- The cause's class is FAULT (R185). -/
def Cause.isFault : Cause → Bool
  | .configInvalid | .lineStuck | .duplicateStation | .disagreement | .storeDamaged | .accumulatorLimit => true
  | _ => false

/-! ## Frame payloads (R217) -/

/-- Kind code of a frame (R140). -/
def FrameBody.kind : FrameBody → Nat
  | .close _ _ => 1
  | .condition _ => 2
  | .recall _ _ _ => 3
  | .summary _ => 4
  | .announce _ _ _ _ _ _ => 5
  | .request _ => 6
  | .reply _ => 7

/-- The payload of a frame (R217). -/
def FrameBody.payload : FrameBody → List Byte
  | .close k band => beBytes 4 k ++ beBytes 1 band.val
  | .condition p => p
  | .recall k p missing => beBytes 4 k ++ beBytes 1 p.val ++ beBytes 8 missing.toNat
  | .summary b =>
    beBytes 4 b.interval
      ++ beBytes 1 (b.pool.val + flagBit 2 b.estimated + flagBit 3 b.tampered + flagBit 4 b.resend
          + flagBit 5 b.digest.isNone)
      ++ beBytes 4 b.values.e ++ beBytes 5 b.values.c ++ beBytes 4 b.values.u ++ beBytes 4 b.values.m
      ++ beBytes 3 b.values.a ++ beBytes 4 (match b.digest with | some d => d.toNat | none => 0)
  | .announce role membership mask digest openNumber _ =>
    beBytes 1 (flagBit 7 (role == .reader) + (match membership with | some m => m.code | none => 7))
      ++ beBytes 1 mask.toNat ++ beBytes 4 digest.toNat ++ beBytes 4 openNumber
  | .request p => p
  | .reply p => p

/-- A pool or band in the low two bits of a byte. -/
def lowTwo (n : Nat) : Fin 4 := ⟨n % 4, Nat.mod_lt n (by decide)⟩

/-- A received payload read as its kind lays it out; bits shown as 0 are ignored (R220). -/
def parseBody (kind : Nat) (p : List Byte) : FrameBody :=
  match kind with
  | 1 => .close (fieldAt p 0 4) (lowTwo (fieldAt p 4 1))
  | 2 => .condition p
  | 3 => .recall (fieldAt p 0 4) (lowTwo (fieldAt p 4 1)) (BitVec.ofNat 64 (fieldAt p 5 8))
  | 4 =>
    let f := fieldAt p 4 1
    .summary
      { interval := fieldAt p 0 4
        pool := lowTwo f
        values := ⟨fieldAt p 5 4, fieldAt p 9 5, fieldAt p 14 4, fieldAt p 18 4, fieldAt p 22 3⟩
        estimated := f.testBit 2
        tampered := f.testBit 3
        resend := f.testBit 4
        digest := if f.testBit 5 then none else some (BitVec.ofNat 32 (fieldAt p 25 4)) }
  | 5 =>
    let f := fieldAt p 0 1
    .announce (if f.testBit 7 then .reader else .node) (Membership.ofCode (f % 8)) (BitVec.ofNat 4 (fieldAt p 1 1))
      (BitVec.ofNat 32 (fieldAt p 2 4)) (fieldAt p 6 4) none
  | 6 => .request p
  | _ => .reply p

/-- The lengths that a kind allows (R220). -/
def lengthAllowed (kind n : Nat) : Bool :=
  match kind with
  | 1 => n == 5
  | 2 => n == 9
  | 3 => n == 13
  | 4 => n == 29
  | 5 => n == 10
  | 6 => decide (3 ≤ n ∧ n ≤ 6)
  | 7 => decide (4 ≤ n ∧ n ≤ 32)
  | _ => false

/-! ## Frames on the line (R139, R140) -/

/-- The current run of equal frame bits since the last fill bit. -/
structure Run where
  last : Bool
  len : Nat
deriving DecidableEq, Repr

def Run.start : Run := ⟨true, 0⟩

/-- The run after a frame bit that no fill bit precedes. -/
def Run.push (r : Run) (b : Bool) : Run := if r.len != 0 && b == r.last then ⟨b, r.len + 1⟩ else ⟨b, 1⟩

/-- The frame bits with a fill bit of the opposite level after every run of seven equal bits, and the run at the end (R139). -/
def putBits : Run → List Bool → List Bool × Run
  | r, [] => ([], r)
  | r, b :: rest =>
    if r.len == 7 then
      let t := putBits ⟨b, 1⟩ rest
      ((!r.last) :: b :: t.1, t.2)
    else
      let t := putBits (r.push b) rest
      (b :: t.1, t.2)

/-- A fill bit follows the last check bit (log entry 14). -/
def Run.endFill (r : Run) : Bool := r.len == 7 && Config.fillAfterLastCheckBit

/-- The checked bytes of a frame (R216). -/
def checkedBytes (kind source : Nat) (payload : List Byte) : List Byte :=
  beBytes 2 (kind * 4096 + source * 64 + payload.length) ++ payload

/-- The levels of a frame on the line from the start bit to the second end bit (R140). -/
def lineBits (source : Nat) (body : FrameBody) : List Bool :=
  let checked := checkedBytes body.kind source body.payload
  let t := putBits Run.start (false :: bytesBits checked ++ natBits 16 (crc16 checked).toNat)
  t.1 ++ (if t.2.endFill then [!t.2.last] else []) ++ [true, true]

/-- One frame bit taken from the line; none at a fill violation (R139). A level beyond the list is recessive. -/
def getBit (r : Run) (line : List Bool) : Option (Bool × Run × List Bool) :=
  if r.len == 7 then
    if line.headD true == r.last then none
    else some (line.tail.headD true, ⟨line.tail.headD true, 1⟩, line.tail.tail)
  else some (line.headD true, r.push (line.headD true), line.tail)

/-- n frame bits taken from the line. -/
def getBits : Nat → Run → List Bool → Option (List Bool × Run × List Bool)
  | 0, r, line => some ([], r, line)
  | n + 1, r, line =>
    match getBit r line with
    | none => none
    | some (b, r', line') =>
      match getBits n r' line' with
      | none => none
      | some (bs, r'', line'') => some (b :: bs, r'', line'')

/-- The counter that a failed receive check increases (R147). -/
inductive RxFault
  | badForm
  | badLength
  | badCheck
  | badKind
  | badSource
deriving DecidableEq, Repr

/-- The checks made at the end of a frame, 3 to 7 in order (R147). -/
def endChecks (endBits : Bool) (headBits payloadBits checkBits : List Bool) : Except RxFault RxFrame :=
  let head := natOfBits headBits
  let kind := head / 4096
  let source := head / 64 % 64
  let length := head % 64
  if !endBits then .error .badForm
  else if (crcBits 0x8005#16 0xFFFF#16 (headBits ++ payloadBits)).toNat != natOfBits checkBits then .error .badCheck
  else if !(decide (1 ≤ kind ∧ kind ≤ 7)) then .error .badKind
  else if !lengthAllowed kind length then .error .badLength
  else if !(decide (1 ≤ source ∧ source ≤ 62)) then .error .badSource
  else .ok ⟨source, parseBody kind (bytesOfBits length payloadBits)⟩

/-- Both end bits read recessive, after the fill bit that may follow the last check bit; none at a fill violation there. -/
def readEnd (r : Run) (line : List Bool) : Option Bool :=
  if r.endFill then
    if line.headD true == r.last then none
    else some (line.tail.headD true && line.tail.tail.headD true)
  else some (line.headD true && line.tail.headD true)

/-- The frame that the levels on the line give, judged by the checks of R147. -/
def receive (line : List Bool) : Except RxFault RxFrame :=
  match getBits 17 Run.start line with
  | none => .error .badForm
  | some (head, r1, line1) =>
    let length := natOfBits head.tail % 64
    if length > 32 then .error .badLength
    else
      match getBits (8 * length) r1 line1 with
      | none => .error .badForm
      | some (payload, r2, line2) =>
        match getBits 16 r2 line2 with
        | none => .error .badForm
        | some (check, r3, line3) =>
          match readEnd r3 line3 with
          | none => .error .badForm
          | some e => endChecks e head.tail payload check

/-! ## Requests (R218) -/

/-- A request as its payload spells it; undefined where the sub-kind or query kind has no code or the length is not the
sub-kind's (R220). -/
inductive Request
  | statement (sel : Nat)
  | closing (sel : Nat)
  | pool (n : Nat)
  | roster
  | counters (section_ : Nat)
  | conditions
  | check
  | cut (sel : Nat) (status : Nat)
  | release (sel : Nat)
  | ack (seq : Nat)
  | rejoin
  | clearCheck
  | undefined
deriving DecidableEq, Repr

def parseQuery (kind sel : Nat) : Request :=
  match kind with
  | 1 => .statement sel
  | 2 => .closing sel
  | 3 => .pool sel
  | 4 => .roster
  | 5 => .counters sel
  | 6 => .conditions
  | 7 => .check
  | _ => .undefined

def parseRequest (p : List Byte) : Request :=
  match fieldAt p 2 1, p.length with
  | 1, 6 => parseQuery (fieldAt p 3 1) (fieldAt p 4 2)
  | 2, 6 => .cut (fieldAt p 3 2) (fieldAt p 5 1)
  | 3, 5 => .release (fieldAt p 3 2)
  | 4, 4 => .ack (fieldAt p 3 1)
  | 5, 3 => .rejoin
  | 6, 3 => .clearCheck
  | _, _ => .undefined

/-- The account that a selector names (R216, R53): an index, or with bit 15 set a tenant unit number. -/
def accountOf (img : Image) (sel : Nat) : Option AccountId :=
  if sel < 32768 then if h : sel < 16 then some ⟨sel, h⟩ else none
  else allAccounts.find? (fun i => (img.accounts.get i).unit == sel % 4096)

/-! ## The configuration image (R209, R210, R222) -/

/-- L in minutes by its code (R209). -/
def lengthMinutes (code : Nat) : Nat :=
  match code with
  | 0 => 5
  | 1 => 10
  | 2 => 15
  | 3 => 20
  | 4 => 30
  | _ => 60

/-- A channel kind by its code; a code above 3 is the free value of log entry 17. -/
def channelKindOf (code : Nat) : Option ChannelKind :=
  let known : Fin 4 → ChannelKind := fun i => if i = 0 then .off else if i = 1 then .consumer else if i = 2 then .plant else .supply
  if h : code < 4 then some (known ⟨code, h⟩) else (Config.undefinedChannelKind code).map known

def lowFour (n : Nat) : Fin 16 := ⟨n % 16, Nat.mod_lt n (by decide)⟩

def parsePool (b : List Byte) (p : PoolId) : PoolDef :=
  let o := 16 + 6 * p.val
  ⟨if fieldAt b o 1 = 1 then .cold else .heat, fieldAt b (o + 1) 1, fieldAt b (o + 2) 2, fieldAt b (o + 4) 2⟩

def parseChannel (b : List Byte) (ch : ChannelId) : ChannelDef :=
  let o := 65 + 20 * ch.val
  { kind := (channelKindOf (fieldAt b o 1)).getD .off
    pool := lowTwo (fieldAt b (o + 1) 1)
    account := lowFour (fieldAt b (o + 2) 1)
    weight := fieldAt b (o + 3) 2
    deadBand := fieldAt b (o + 5) 2
    tamper := if (fieldAt b (o + 7) 1).testBit 0 then .pulse else .level
    asserted := if (fieldAt b (o + 7) 1).testBit 1 then .isClosed else .isOpen
    prices := Four.ofFn (fun i => fieldAt b (o + 8 + 3 * i.val) 3) }

def parseAccount (b : List Byte) (i : AccountId) : AccountDef :=
  let o := 225 + 7 * i.val
  ⟨fieldAt b o 2, fieldAt b (o + 2) 2, fieldAt b (o + 4) 2, BitVec.ofNat 4 (fieldAt b (o + 6) 1)⟩

def parseSchedule (b : List Byte) : List SchedulePoint :=
  ((List.range 8).take (fieldAt b 40 1)).map (fun j => ⟨fieldAt b (41 + 3 * j) 2, lowTwo (fieldAt b (43 + 3 * j) 1)⟩)

/-- The image that 339 bytes lay out (R222). -/
def parseImage (b : List Byte) : Image where
  station := fieldAt b 3 1
  mask := BitVec.ofNat 4 (fieldAt b 4 1)
  cutEnable := fieldAt b 5 1 == 1
  checkMask := BitVec.ofNat 4 (fieldAt b 6 1)
  codeL := fieldAt b 7 1
  codeG := fieldAt b 8 1
  codeS := fieldAt b 9 1
  codeA := fieldAt b 10 1
  codeR := fieldAt b 11 1
  founding := fieldAt b 12 4
  pools := Four.ofFn (parsePool b)
  schedule := parseSchedule b
  channels := Table.ofFn (parseChannel b)
  accounts := Table.ofFn (parseAccount b)

/-- L in ms. -/
def Image.lengthMs (img : Image) : Nat := lengthMinutes img.codeL * 60000
/-- G in ms. -/
def Image.gatherMs (img : Image) : Nat := img.codeG * 10000
/-- S in ms. -/
def Image.staggerMs (img : Image) : Nat := img.codeS * 20
/-- R, in frames (R209). -/
def Image.rateLimit (img : Image) : Nat := 32 * (img.codeR + 1)

/-- Strictly ascending. -/
def ascending : List Nat → Bool
  | a :: b :: rest => decide (a < b) && ascending (b :: rest)
  | _ => true

/-- Check 10 of one account (R210). -/
def accountChecks (b : List Byte) (img : Image) (i : AccountId) : Bool :=
  let a := img.accounts.get i
  decide (1 ≤ a.unit ∧ a.unit ≤ 4095) && decide (1 ≤ a.area) && decide (64 ≤ a.factor ∧ a.factor ≤ 320)
    && decide (fieldAt b (231 + 7 * i.val) 1 < 16) && (a.mask &&& ~~~img.mask) == 0#4

/-- Check 12 of one channel (R210). The prices of a channel that is not SUPPLY are not checked. -/
def channelChecks (b : List Byte) (img : Image) (ch : ChannelId) : Bool :=
  let o := 65 + 20 * ch.val
  match channelKindOf (fieldAt b o 1) with
  | none => false
  | some .off => true
  | some kind =>
    let c := img.channels.get ch
    decide (fieldAt b (o + 1) 1 < 4) && img.mask.has c.pool && decide (1 ≤ c.weight) && decide (c.deadBand ≤ 500)
      && (kind != .supply || c.prices.toList.all (fun p => decide (p ≤ 1048575)))
      && (kind != .consumer || (decide (fieldAt b (o + 2) 1 < 16) && (img.accounts.get c.account).mask.has c.pool))

/-- The twelve checks of R210, in order. -/
def imageChecks (b : List Byte) : List Bool :=
  let img := parseImage b
  [ decide (imageLength ≤ b.length),
    fieldAt b 0 2 == 0x4E36 && fieldAt b 2 1 == 1,
    (crc16 (b.take 337)).toNat == fieldAt b 337 2,
    decide (1 ≤ img.station ∧ img.station ≤ 62),
    decide (img.codeL ≤ 5) && decide (1 ≤ img.codeG ∧ img.codeG ≤ 30) && decide (1 ≤ img.codeS ∧ img.codeS ≤ 25)
      && decide (2 ≤ img.codeA ∧ img.codeA ≤ 15) && decide (img.codeR ≤ 3) && decide (fieldAt b 5 1 ≤ 1)
      && allChannels.all (fun ch => decide (fieldAt b (72 + 20 * ch.val) 1 < 4))
      && decide (fieldAt b 4 1 < 16) && decide (fieldAt b 6 1 < 16),
    decide (2 * img.gatherMs ≤ img.lengthMs) && decide (32 * img.staggerMs + 5000 ≤ img.gatherMs),
    allPools.all (fun p =>
      let d := img.pools.get p
      decide (fieldAt b (16 + 6 * p.val) 1 ≤ 1) && decide (d.base ≤ 100) && decide (100 ≤ d.nominal ∧ d.nominal ≤ 4000)
        && decide (800 ≤ d.coeff ∧ d.coeff ≤ 1300)),
    decide (1 ≤ fieldAt b 40 1 ∧ fieldAt b 40 1 ≤ 8) && ascending (img.schedule.map (·.start))
      && img.schedule.all (fun pt => decide (pt.start ≤ 1439))
      && ((List.range 8).take (fieldAt b 40 1)).all (fun j => decide (fieldAt b (43 + 3 * j) 1 < 4)),
    decide (1 ≤ img.founding ∧ img.founding ≤ 4294967294),
    allAccounts.all (accountChecks b img),
    decide (((allAccounts.map (fun i => (img.accounts.get i).unit)).Nodup)),
    allChannels.all (channelChecks b img) ]

/-- The number of the first check that fails; none where all twelve pass (R210). -/
def firstFailed (b : List Byte) : Option Nat :=
  let n := (imageChecks b).takeWhile id |>.length
  if n = 12 then none else some (n + 1)

/-! ## The band schedule (R104) -/

/-- Intervals per day (00_scope.md, section 6). -/
def Image.perDay (img : Image) : Nat := 1440 / lengthMinutes img.codeL

/-- The scheduled band of interval n (R104). -/
def Image.scheduledBand (img : Image) (n : Nat) : Band :=
  let minute := n % img.perDay * lengthMinutes img.codeL
  match (img.schedule.filter (fun pt => decide (pt.start ≤ minute))).getLast? with
  | some pt => pt.band
  | none => match img.schedule.getLast? with
    | some pt => pt.band
    | none => 0

end Sys2Proof.Machine
end

