-- ==== Sys2Proof/Machine/Ops.lean ====
section
/-! DEFINITION. The operations that several commands share: saturating counters, membership, the interval timer, the transmit
queue and its classes, withdrawal, the store's write queue, and look-ups in the ring and the roster. -/

namespace Sys2Proof.Machine

/-! ## Counters -/

/-- A 16-bit counter increased by one, held at its maximum (00_scope.md, section 7). -/
def bump (n : Nat) : Nat := min (n + 1) Config.counterMax

/-- A counter increased by one k times, held at its maximum. -/
def bumpBy : Nat → Nat → Nat
  | 0, n => n
  | k + 1, n => bumpBy k (bump n)

/-- An addition held at a maximum. -/
def satAdd (max a b : Nat) : Nat := min (a + b) max

/-! ## Membership and time -/

/-- The node runs: power is there and it is not held in reset (R212). -/
def State.powered (s : State) : Bool := s.control.power == .running

/-- The line, the pool and the responder work: LISTENING, MEMBER or OBSERVER (R142, R155, R169, R198). -/
def State.live (s : State) : Bool :=
  s.powered && (s.interval.membership == .listening || s.interval.membership == .member
    || s.interval.membership == .observer)

/-- The interval unit takes closes: MEMBER or OBSERVER (R101). -/
def State.following (s : State) : Bool :=
  s.powered && (s.interval.membership == .member || s.interval.membership == .observer)

/-- The timer is loaded with L and set RUNNING (R102). -/
def loadTimer (s : State) : State := s.onInterval (fun u => { u with timer := .running s.image.lengthMs })

/-! ## The ring -/

/-- The record with exactly this number (R2). -/
def findRecord (k : Nat) (s : State) : Option Record := s.ring.records.find? (·.number == k)

def updateRecord (k : Nat) (f : Record → Record) (s : State) : State :=
  s.onRing (fun r => { r with records := r.records.map (fun x => if x.number == k then f x else x) })

/-- The ring reports an empty slot (R10); during a rejoin drain it reports none (R27). -/
def State.hasEmptySlot (s : State) : Bool := decide (s.ring.records.length < 4) && !s.interval.drain

/-- One pool part of a record. -/
def Record.onPool (p : PoolId) (f : PoolPart → PoolPart) (r : Record) : Record := { r with pools := r.pools.modify p f }

/-- A record is GATHERING. -/
def State.gathering (s : State) : Bool := s.ring.records.any (·.state == .gathering)

/-- The pool mode follows the ring, and a change to URGENT is counted (R164). -/
def setPoolMode (s : State) : State :=
  s.onRx (fun p =>
    if s.gathering then
      if p.mode == .normal then
        { p with mode := .urgent, counters := { p.counters with urgentEntries := bump p.counters.urgentEntries } }
      else p
    else { p with mode := .normal })

/-- A job joins the tail of the job list (R38). -/
def appendJob (kind : JobKind) (k : Nat) (s : State) : State := s.onEngine (fun e => { e with jobs := e.jobs ++ [⟨kind, k⟩] })

/-! ## The transmit queue (R149 to R154) -/

/-- The classes of the transmit queue. -/
inductive TxClass
  | close
  | condition
  | peer
  | reply
deriving DecidableEq, Repr

def TxClass.reserve : TxClass → Nat
  | .close => 1
  | .condition => 2
  | .peer => 8
  | .reply => 5

def FrameBody.txClass : FrameBody → TxClass
  | .close _ _ => .close
  | .condition _ => .condition
  | .recall _ _ _ | .summary _ | .announce _ _ _ _ _ _ | .request _ => .peer
  | .reply _ => .reply

/-- The number of frames of a class in the queue. -/
def classFill (c : TxClass) (q : List TxFrame) : Nat := q.countP (fun f => f.body.txClass == c)

/-- The class holds fewer frames than its reserve (R150). -/
def State.hasRoom (s : State) (c : TxClass) : Bool := decide (classFill c s.line.queue < c.reserve)

/-- A frame takes its place by kind, behind the frames of its own kind (R149). -/
def insertFrame (f : TxFrame) : List TxFrame → List TxFrame
  | [] => [f]
  | g :: q => if f.body.kind < g.body.kind then f :: g :: q else g :: insertFrame f q

def onLinkCounters (f : LinkCounters → LinkCounters) (s : State) : State :=
  s.onLine (fun l => { l with counters := f l.counters })

/-- SUPPLY-WARN holds back a start that would otherwise be made; counted at most once an assertion (R154). A reset during
the assertion clears the mark, so that it can count once more (DESIGN CHOICE, log entry 60). -/
def noteHeldStart (s : State) : State :=
  if s.control.supplyWarn && !s.line.warnCounted && s.line.monitor == .idle && !s.line.queue.isEmpty && s.live then
    s.onLine (fun l =>
      { l with warnCounted := true, counters := { l.counters with warnHolds := bump l.counters.warnHolds } })
  else s

/-- A frame enters the queue as QUEUED, with no attempt made (R149, R150). -/
def enqueue (body : FrameBody) (s : State) : State :=
  noteHeldStart (s.onLine (fun l => { l with queue := insertFrame ⟨body, 0, false⟩ l.queue }))

/-- A refusal is counted (R150). -/
def refuseOffer (s : State) : State := onLinkCounters (fun c => { c with txRefused := bump c.txRefused }) s

/-- An offer that finds the PEER class full joins the offer list and is counted in TX_REFUSED (R150, R151, R156). -/
def listOffer (o : Offer) (s : State) : State := refuseOffer (s.onLine (fun l => { l with offers := l.offers ++ [o] }))

/-- The frame on the line, if any. -/
def State.sendingFrame (s : State) : Option TxFrame := s.line.queue.find? (·.sending)

/-- The frames that satisfy p are withdrawn; one that is on the line is cut off with an abort mark, and the node's own receiver
discards it in its turn (R147, R152). -/
def withdraw (p : FrameBody → Bool) (s : State) : State :=
  let gone := s.line.queue.filter (fun f => p f.body)
  let cut := gone.filter (·.sending)
  s.onLine (fun l =>
    { l with
      queue := l.queue.filter (fun f => !p f.body)
      monitor := if cut.isEmpty then l.monitor else .gap
      recessive := if cut.isEmpty then l.recessive else 0
      dominant := if cut.isEmpty then l.dominant else 0
      counters := { l.counters with
        rxBadForm := if cut.isEmpty then l.counters.rxBadForm else bump l.counters.rxBadForm
        txWithdrawn := bumpBy gone.length l.counters.txWithdrawn
        txCutOff := bumpBy cut.length l.counters.txCutOff } })

def FrameBody.isClose : FrameBody → Bool
  | .close _ _ => true
  | _ => false

/-- A frame of the PEER class (R149). -/
def FrameBody.isPeer (b : FrameBody) : Bool := b.txClass == .peer

/-- The node's own CLOSE is in the transmit queue. -/
def State.ownCloseQueued (s : State) : Bool := s.line.queue.any (·.body.isClose)

/-- A queued own CLOSE is withdrawn, counted, and the timer loaded (R108, R110). -/
def withdrawOwnClose (s : State) : State :=
  if s.ownCloseQueued then
    loadTimer ((withdraw FrameBody.isClose s).onInterval (fun u =>
      { u with counters := { u.counters with closeWithdrawn := bump u.counters.closeWithdrawn } }))
  else s

/-! ## The retained store's queue (R68, R69) -/

/-- The record number that a write names (R67). -/
def StoreWrite.recordNumber : StoreWrite → Nat
  | .account i _ => i.val
  | .statement i _ => 16 + i.val
  | .lifetime ch _ => 32 + ch.val
  | .node _ => 40

/-- A request joins the tail and removes an older waiting request for the same record; an awaited request stays awaited in the
one that takes its place. A request that joins during the supply warning is held back by it (R68, R69). -/
def requestWrite (w : StoreWrite) (awaited : Bool) (s : State) : State :=
  let same : StoreRequest → Bool := fun q => q.write.recordNumber == w.recordNumber
  let carried := s.store.queue.any (fun q => same q && q.awaited)
  let s1 := s.onStore (fun t => { t with queue := t.queue.filter (fun q => !same q) ++ [⟨w, awaited || carried⟩] })
  if s.control.supplyWarn then
    s1.onTable (fun t => { t with counters := { t.counters with storeHeld := bump t.counters.storeHeld } })
  else s1

/-- A completed write puts its contents into the store (R68). -/
def StoreContents.commit (c : StoreContents) : StoreWrite → StoreContents
  | .account i r => { c with accounts := c.accounts.set i (.valid r) }
  | .statement i r => { c with statements := c.statements.set i (.valid r) }
  | .lifetime ch l => { c with lifetimes := c.lifetimes.set ch (.valid l) }
  | .node k => { c with node := .valid k }

/-! ## Reset (R212) -/

/-- The power state in which a reset leaves the node: held while the RESET input stays asserted (R212). -/
def powerAfterReset (resetIn : Bool) : Power := if resetIn then .heldInReset else .running

/-- A reset of a cause takes effect: the retained store's records and the input levels stay, all else is as after reset. -/
def resetNode (cause : ResetCause) (s : State) : State :=
  State.afterReset cause s.store.contents s.control.resetIn s.control.supplyWarn (powerAfterReset s.control.resetIn) s.pending

/-! ## The roster -/

def State.peer (s : State) (station : Nat) : Option Peer := s.roster.entries.find? (·.station == station)

def updatePeer (station : Nat) (f : Peer → Peer) (s : State) : State :=
  s.onRoster (fun r => { r with entries := r.entries.map (fun e => if e.station == station then f e else e) })

def onRosterCounters (f : RosterCounters → RosterCounters) (s : State) : State :=
  s.onRoster (fun r => { r with counters := f r.counters })

end Sys2Proof.Machine
end

