-- ==== Sys2Proof/Machine/Flags.lean ====
section
/-! DEFINITION. The condition unit (chapter 10): numbering, the notice list, the fault record, entry to OBSERVER and the FAULT
output. -/

namespace Sys2Proof.Machine

/-! ## Numbering (R184) -/

/-- The sequence number that a CONDITION payload carries (R217). -/
def conditionSeq (payload : List Byte) : Nat := fieldAt payload 0 1

/-- The numbers that are not free: those of the held conditions and of the CONDITION frames still in the queue (R184, R192). -/
def State.usedSeqs (s : State) : List Nat :=
  s.cond.notices.map (·.seq)
    ++ (match s.cond.record with
        | none => []
        | some r => r.fault.seq :: (match r.compound with | none => [] | some c => [c.seq]))
    ++ s.line.queue.filterMap (fun f => match f.body with | .condition p => some (conditionSeq p) | _ => none)

/-- The first number after n that is not in use, within the tries left (R184). -/
def freeSeq (used : List Nat) : Nat → Nat → Nat
  | 0, n => (n + 1) % 256
  | tries + 1, n => if used.contains ((n + 1) % 256) then freeSeq used tries ((n + 1) % 256) else (n + 1) % 256

/-- The next free sequence number (R184). -/
def State.nextSeq (s : State) : Nat := freeSeq s.usedSeqs 12 s.cond.seq

def onCondCounters (f : CondCounters → CondCounters) (s : State) : State :=
  s.onCond (fun c => { c with counters := f c.counters })

/-! ## Notices (R187) -/

/-- A TAMPER notice of PULSE mode that leaves the list clears its channel's latch (R92, R187). -/
def releaseLatch (c : Condition) (s : State) : State :=
  if c.cause == .tamper && c.param % 256 == 1 then
    if h : c.param / 256 < 8 then s.onChannel ⟨c.param / 256, h⟩ (fun x => { x with latch := false }) else s
  else s

/-- The oldest notice of a full list is removed (R187). -/
def displaceNotice (s : State) : State :=
  match s.cond.notices with
  | old :: rest =>
    if 8 ≤ s.cond.notices.length then
      releaseLatch old (s.onCond (fun c =>
        { c with
          notices := rest
          counters := { c.counters with
            noticesDisplaced := bump c.counters.noticesDisplaced
            displacedUnsent := if old.sending == .unsent then bump c.counters.displacedUnsent else c.counters.displacedUnsent } }))
    else s
  | [] => s

/-- A notice joins the tail under the next free number (R184, R187). -/
def joinNotice (cause : Cause) (param interval : Nat) (s : State) : State :=
  s.onCond (fun c => { c with seq := s.nextSeq, notices := c.notices ++ [⟨s.nextSeq, cause, param, interval, .unsent⟩] })

/-- A notice is raised with a given interval at raise; in UNCONFIGURED the unit takes none (R186, R187). -/
def raiseNoticeAt (cause : Cause) (param interval : Nat) (s : State) : State :=
  if s.interval.membership == .unconfigured then s else joinNotice cause param interval (displaceNotice s)

/-- A notice is raised in the open interval; its number is 0 in STARTING and LISTENING (R184). -/
def raiseNotice (cause : Cause) (param : Nat) (s : State) : State := raiseNoticeAt cause param s.interval.openNumber s

/-! ## Entry to OBSERVER (R189) -/

/-- An own summary that is WAITING, OFFERED or QUEUED is WITHDRAWN, and the re-send mark cleared (R13). -/
def PoolPart.withdrawn (p : PoolPart) : PoolPart :=
  { p with
    sending := match p.sending with
      | some .waiting | some .offered | some .queued => some .withdrawn
      | x => x
    resendQueued := false }

/-- The node enters OBSERVER (R189): its CLOSE, RECALL, SUMMARY and ANNOUNCE frames are withdrawn, the offer list is emptied. -/
def enterObserver (s : State) : State :=
  let s1 := onCondCounters (fun c => { c with observerEntries := bump c.observerEntries })
    (s.onInterval (fun u => { u with membership := .observer }))
  let s2 := (withdraw FrameBody.isPeer (withdrawOwnClose s1)).onLine (fun l => { l with offers := [] })
  (s2.onRing (fun r => { r with records := r.records.map (fun x => { x with pools := x.pools.map PoolPart.withdrawn }) })).onRoster
    (fun r => { r with announce := .none })

/-! ## Faults (R188) -/

/-- A fault record's new fault under the next free number (R184, R188). -/
def State.newFault (s : State) (cause : Cause) (param : Nat) : Condition :=
  ⟨s.nextSeq, cause, param, s.interval.openNumber, .unsent⟩

/-- A fault is placed by the first line of R188's table that applies. -/
def placeFault (cause : Cause) (param : Nat) (s : State) : State :=
  match s.cond.record with
  | none => s.onCond (fun c => { c with seq := s.nextSeq, record := some ⟨s.newFault cause param, none, none⟩ })
  | some r =>
    if r.compound.isNone && s.interval.membership == .member then
      enterObserver (s.onCond (fun c =>
        { c with seq := s.nextSeq, record := some { r with compound := some (s.newFault cause param) } }))
    else if r.compound.isNone && s.interval.membership == .observer && !s.interval.drain then
      s.onCond (fun c => { c with seq := s.nextSeq, record := some { r with compound := some (s.newFault cause param) } })
    else
      s.onCond (fun c =>
        { c with
          record := some { r with latest := some ⟨cause, param, s.interval.openNumber⟩ }
          counters := { c.counters with laterFaults := bump c.counters.laterFaults } })

/-- A fault is raised; in UNCONFIGURED the unit takes CONFIG_INVALID alone (R186, R188). -/
def raiseFault (cause : Cause) (param : Nat) (s : State) : State :=
  if s.interval.membership == .unconfigured && cause != .configInvalid then s
  else placeFault cause param (onCondCounters (fun c => { c with faultsRaised := bump c.faultsRaised }) s)

/-! ## The FAULT output (R190) -/

/-- The FAULT output conducts. -/
def State.faultOutput (s : State) : Bool :=
  s.powered && (s.cond.record.isSome || s.interval.membership == .unconfigured)

/-! ## The frame and the outcome of a condition (R191 to R193) -/

/-- The nine bytes of a condition (R217). -/
def conditionBytes (c : Condition) (compound : Bool) (last : Nat) : List Byte :=
  beBytes 1 c.seq ++ beBytes 1 (flagBit 7 c.cause.isFault + flagBit 6 compound + c.cause.code) ++ beBytes 2 c.param
    ++ beBytes 4 c.interval ++ beBytes 1 last

/-- The UNSENT condition that is offered first, with its COMPOUND mark: faults before notices, oldest first (R191). -/
def State.firstUnsent (s : State) : Option (Condition × Bool) :=
  let faults : List (Condition × Bool) := match s.cond.record with
    | none => []
    | some r => (r.fault, false) :: (match r.compound with | none => [] | some c => [(c, true)])
  (faults ++ s.cond.notices.map (fun c => (c, false))).find? (fun x => x.1.sending == .unsent)

/-- The sending state of the held condition with this number becomes x. -/
def setCondSending (seq : Nat) (x : CondSending) (s : State) : State :=
  let upd : Condition → Condition := fun c => if c.seq == seq then { c with sending := x } else c
  s.onCond (fun c =>
    { c with
      notices := c.notices.map upd
      record := c.record.map (fun r => { r with fault := upd r.fault, compound := r.compound.map upd }) })

end Sys2Proof.Machine
end

