-- ==== Sys2Proof/Machine/Channels.lean ====
section
/-! DEFINITION. Meter channels (chapter 4): the commands PULSE_INPUT, SAMPLE and TAMPER_EDGE, and the snapshot at a close. -/

namespace Sys2Proof.Machine

def State.channelDef (s : State) (ch : ChannelId) : ChannelDef := s.image.channels.get ch

/-- The channel is sampled and its inputs are watched: its kind is not OFF and the node has left STARTING by a VALID image
(R80, R97). -/
def State.metering (s : State) (ch : ChannelId) : Bool := s.live && (s.channelDef ch).kind != .off

def onChannelCounters (ch : ChannelId) (f : ChannelCounters → ChannelCounters) (s : State) : State :=
  s.onChannel ch (fun c => { c with counters := f c.counters })

/-! ## PULSE_INPUT (R80) -/

/-- PULSE_INPUT: one pulse is counted. -/
def execPulseInput (ch : ChannelId) (s : State) : Host.Outcome State Fault Refusal :=
  if s.metering ch then .next (s.onChannel ch (fun c => { c with sincePulses := c.sincePulses + 1 })) else .next s

/-! ## SAMPLE (R81 to R92) -/

/-- The pulses since the last sample join the interval's pulses and volume (R81). -/
def Channel.countSample (d : ChannelDef) (c : Channel) : Channel :=
  { c with
    sincePulses := 0
    pulses := satAdd Config.energyMax c.pulses c.sincePulses
    volume := satAdd Config.energyMax c.volume (c.sincePulses * d.weight) }

/-- A sample of n pulses above 40 is an overrun (R90). -/
def overrunSample (ch : ChannelId) (n : Nat) (s : State) : State :=
  if n ≤ 40 then s
  else
    let s1 := onChannelCounters ch (fun k => { k with overrunSamples := bump k.overrunSamples }) s
    if (s1.channels.get ch).overrun then s1
    else raiseNotice .pulseOverrun (ch.val * 256 + min n 255) (s1.onChannel ch (fun c => { c with overrun := true }))

/-- What the flow condition makes of a sample (R87): the channel after it, whether a read is made, and the volume offered for
energy. -/
structure FlowResult where
  channel : Channel
  reads : Bool
  offered : Nat
deriving DecidableEq, Repr

/-- The flow condition at a sample of n pulses and volume v (R87). -/
def Channel.flowSample (n v : Nat) (c : Channel) : FlowResult :=
  if c.still then
    if n = 0 then
      if c.toRead.getD 0 ≤ 1 then ⟨{ c with toRead := some 30, held := 0 }, true, c.held⟩
      else ⟨{ c with toRead := some (c.toRead.getD 0 - 1), held := 0 }, false, c.held⟩
    else ⟨{ c with still := false, idle := 0, toRead := none, held := satAdd Config.energyMax c.held v }, false, 0⟩
  else if n = 0 then
    if 30 ≤ c.idle + 1 then ⟨{ c with still := true, idle := 30, toRead := some 30, held := 0 }, true, c.held⟩
    else ⟨{ c with idle := c.idle + 1, held := 0 }, true, c.held⟩
  else ⟨{ c with idle := 0, held := 0 }, true, v + c.held⟩

/-- A temperature lies in the measuring range, in 0.01 degree steps (R82). -/
def inRange (t : Int) : Bool := decide (-2000 ≤ t ∧ t ≤ 15000)

/-- ΔT in the sense of the pool kind (R82). -/
def deltaT (kind : PoolKind) (supply ret : Int) : Int :=
  match kind with
  | .heat => supply - ret
  | .cold => ret - supply

/-- Which sensors a read finds bad: 1 supply side, 2 return side, 3 both (R89). -/
def badSensors (supply ret : Int) : Nat := (if inRange supply then 0 else 1) + (if inRange ret then 0 else 2)

/-- A good read: last ΔT set, and the sensor condition advanced (R82, R89). -/
def Channel.goodRead (delta : Int) (c : Channel) : Channel :=
  if c.sensorFault then
    if 10 ≤ c.goodRun + 1 then { c with lastDelta := some delta, sensorFault := false, goodRun := c.goodRun + 1, badRun := 0 }
    else { c with lastDelta := some delta, goodRun := c.goodRun + 1 }
  else { c with lastDelta := some delta, badRun := 0 }

/-- A bad read advances the sensor condition (R89); the flag says that FAULT is entered. -/
def Channel.badRead (c : Channel) : Channel × Bool :=
  if c.sensorFault then ({ c with goodRun := 0 }, false)
  else if 3 ≤ c.badRun + 1 then
    ({ c with
        badRun := 3
        sensorFault := true
        goodRun := 0
        counters := { c.counters with faultEntries := bump c.counters.faultEntries } }, true)
  else ({ c with badRun := c.badRun + 1 }, false)

/-- The temperature read of a sample (R82, R89). -/
def readSample (ch : ChannelId) (supply ret : Int) (s : State) : State :=
  let d := s.channelDef ch
  if badSensors supply ret = 0 then
    s.onChannel ch (Channel.goodRead (deltaT (s.image.pools.get d.pool).kind supply ret))
  else
    let r := (s.channels.get ch).badRead
    let s1 := s.onChannel ch (fun _ => r.1)
    if r.2 then raiseNotice .sensorFault (ch.val * 16 + badSensors supply ret) s1 else s1

/-- The class of an integrating sample (R83). -/
inductive SampleClass
  | substituted
  | forward (delta : Nat)
  | backward (delta : Nat)
  | deadBand
deriving DecidableEq, Repr

/-- The class of a sample by R83's table: faulted says the sensor condition was FAULT, bad that its own read is bad. -/
def classify (faulted bad : Bool) (deadBand : Nat) (delta : Option Int) : SampleClass :=
  if faulted || bad then .substituted
  else match delta with
    | none => .substituted
    | some t =>
      if t > (deadBand : Int) then .forward t.toNat
      else if t < -(deadBand : Int) then .backward (-t).toNat
      else .deadBand

/-- Energy is added to the forward figure with its remainder (R84); p in millionths of a Wh. -/
def Channel.addForward (p : Nat) (c : Channel) : Channel :=
  let total := c.forwardRem + p
  let energy := c.energy + total / 1000000
  { c with
    energy := min energy Config.energyMax
    forwardRem := total % 1000000
    counters := if energy > Config.energyMax then { c.counters with energyClipped := bump c.counters.energyClipped } else c.counters }

/-- Energy is added to the reverse figure with its remainder (R84). -/
def Channel.addReverse (p : Nat) (c : Channel) : Channel :=
  let total := c.reverseRem + p
  let energy := c.reverse + total / 1000000
  { c with
    reverse := min energy Config.energyMax
    reverseRem := total % 1000000
    counters := if energy > Config.energyMax then { c.counters with energyClipped := bump c.counters.energyClipped } else c.counters }

/-- The energy of an integrating sample (R83, R84): volume v, the pool's nominal ΔT and coefficient. -/
def Channel.integrate (cls : SampleClass) (v nominal coeff : Nat) (c : Channel) : Channel :=
  match cls with
  | .substituted => { c.addForward (v * nominal * coeff) with estimated := true }
  | .forward t => if c.reversed then c.addReverse (v * t * coeff) else c.addForward (v * t * coeff)
  | .backward t => c.addReverse (v * t * coeff)
  | .deadBand => { c with counters := { c.counters with deadBandSamples := bump c.counters.deadBandSamples } }

/-- The direction condition at an integrating sample (R88); the flag says that REVERSED is entered. -/
def Channel.direct (cls : SampleClass) (c : Channel) : Channel × Bool :=
  match cls with
  | .substituted => (c, false)
  | .forward _ =>
    if c.reversed then
      if 30 ≤ c.forwardRun + 1 then ({ c with reversed := false, forwardRun := 0, reverseRun := 0 }, false)
      else ({ c with forwardRun := c.forwardRun + 1 }, false)
    else ({ c with reverseRun := 0 }, false)
  | .backward _ =>
    if c.reversed then ({ c with forwardRun := 0 }, false)
    else if 30 ≤ c.reverseRun + 1 then
      ({ c with
          reversed := true
          forwardRun := 0
          reverseRun := 0
          counters := { c.counters with reverseEntries := bump c.counters.reverseEntries } }, true)
    else ({ c with reverseRun := c.reverseRun + 1 }, false)
  | .deadBand => if c.reversed then ({ c with forwardRun := 0 }, false) else ({ c with reverseRun := 0 }, false)

/-- The integration of an offered volume above zero (R83, R84, R88). -/
def integrateSample (ch : ChannelId) (cls : SampleClass) (v : Nat) (s : State) : State :=
  if v = 0 then s
  else
    let pool := s.image.pools.get (s.channelDef ch).pool
    let s1 := s.onChannel ch (Channel.integrate cls v pool.nominal pool.coeff)
    let r := (s1.channels.get ch).direct cls
    let s2 := s1.onChannel ch (fun _ => r.1)
    if r.2 then raiseNotice .reversed ch.val s2 else s2

/-- The temperature and energy part of a CONSUMER or PLANT sample of n pulses (R82 to R89). -/
def energySample (ch : ChannelId) (n : Nat) (supply ret : Int) (s : State) : State :=
  let faulted := (s.channels.get ch).sensorFault
  let flow := (s.channels.get ch).flowSample n (n * (s.channelDef ch).weight)
  let s1 := s.onChannel ch (fun _ => if faulted then { flow.channel with estimated := true } else flow.channel)
  let s2 := if flow.reads then readSample ch supply ret s1 else s1
  let bad := flow.reads && badSensors supply ret != 0
  integrateSample ch (classify faulted bad (s.channelDef ch).deadBand (s2.channels.get ch).lastDelta) flow.offered s2

/-- A LEVEL tamper input at a sample (R91). -/
def levelTamper (ch : ChannelId) (contact : Contact) (s : State) : State :=
  let d := s.channelDef ch
  if d.tamper == .level then
    if contact == d.asserted then
      let seen := (s.channels.get ch).levelSeen
      let s1 := s.onChannel ch (fun c => { c with tampered := true, levelSeen := true })
      if seen then s1
      else raiseNotice .tamper (ch.val * 256)
        (onChannelCounters ch (fun k => { k with tamperEvents := bump k.tamperEvents }) s1)
    else s.onChannel ch (fun c => { c with levelSeen := false })
  else s

/-- The whole sample of a channel that meters (R81). -/
def sampleChannel (ch : ChannelId) (supply ret : Int) (contact : Contact) (s : State) : State :=
  let d := s.channelDef ch
  let n := (s.channels.get ch).sincePulses
  let s1 := overrunSample ch n (s.onChannel ch (Channel.countSample d))
  let s2 := if d.kind == .supply then s1 else energySample ch n supply ret s1
  levelTamper ch contact s2

/-- SAMPLE: the sample period of a channel expires. -/
def execSample (ch : ChannelId) (supply ret : Int) (contact : Contact) (s : State) : Host.Outcome State Fault Refusal :=
  if s.metering ch then .next (sampleChannel ch supply ret contact s) else .next s

/-! ## TAMPER_EDGE (R92) -/

/-- An edge to the asserted level of a PULSE tamper input (R92). -/
def pulseTamper (ch : ChannelId) (s : State) : State :=
  let s1 := onChannelCounters ch (fun k => { k with tamperEvents := bump k.tamperEvents }) s
  if (s1.channels.get ch).latch then s1
  else raiseNotice .tamper (ch.val * 256 + 1) (s1.onChannel ch (fun c => { c with latch := true, tampered := true }))

/-- TAMPER_EDGE: an edge on a PULSE tamper input. -/
def execTamperEdge (ch : ChannelId) (s : State) : Host.Outcome State Fault Refusal :=
  if s.metering ch && (s.channelDef ch).tamper == .pulse then .next (pulseTamper ch s) else .next s

/-! ## The shown state (R86) -/

/-- The code of the shown state (R86, R216). -/
def Channel.shownCode (kind : ChannelKind) (c : Channel) : Nat :=
  if kind == .supply || kind == .off then 0
  else if c.sensorFault then 3
  else if c.still then 1
  else if c.reversed then 2
  else 0

/-! ## The snapshot at a close (R93 to R96) -/

/-- A channel's interval snapshot (R93). -/
structure Snapshot where
  energy : Nat
  reverse : Nat
  pulses : Nat
  volume : Nat
  cost : Nat
  estimated : Bool
  tampered : Bool
deriving DecidableEq, Repr

/-- The snapshot that a channel gives at a close of a record of this band (R93, R95, R96). -/
def Channel.snapshot (d : ChannelDef) (band : Band) (c : Channel) : Snapshot where
  energy := min c.energy (Config.max48 - c.life.energy)
  reverse := c.reverse
  pulses := c.pulses
  volume := c.volume
  cost := if d.kind == .supply then min (c.pulses * d.prices.get band) Config.costMax else 0
  estimated := c.estimated
  tampered := c.tampered

/-- How many figures are held at their maximum at the snapshot (R95, R96). -/
def Channel.clips (d : ChannelDef) (band : Band) (c : Channel) : Nat :=
  (if Config.max48 - c.life.energy < c.energy then 1 else 0)
    + (if Config.max48 < c.life.reverse + c.reverse then 1 else 0)
    + (if Config.max48 < c.life.volume + c.volume then 1 else 0)
    + (if d.kind == .supply && decide (Config.costMax < c.pulses * d.prices.get band) then 1 else 0)

/-- The channel restarts its interval figures and adds its lifetime figures (R94, R95). -/
def Channel.restart (d : ChannelDef) (band : Band) (c : Channel) : Channel :=
  { c with
    pulses := 0
    volume := 0
    energy := 0
    reverse := 0
    estimated := false
    tampered := false
    overrun := false
    life :=
      { energy := c.life.energy + (c.snapshot d band).energy
        reverse := satAdd Config.max48 c.life.reverse c.reverse
        volume := satAdd Config.max48 c.life.volume c.volume }
    counters := { c.counters with energyClipped := bumpBy (c.clips d band) c.counters.energyClipped } }

/-- One channel gives its snapshot, restarts, and requests its lifetime write; an OFF channel does nothing (R93 to R95). -/
def closeChannel (band : Band) (ch : ChannelId) (s : State) : State :=
  let d := s.channelDef ch
  if d.kind == .off then s
  else
    let s1 := s.onChannel ch (Channel.restart d band)
    requestWrite (.lifetime ch (s1.channels.get ch).life) false s1

/-- Every channel in turn. -/
def closeChannels (band : Band) (s : State) : State := allChannels.foldl (fun t ch => closeChannel band ch t) s

/-- The snapshots of the channels of one kind and pool that satisfy a further condition, at a close of this band. -/
def State.snapshots (s : State) (kind : ChannelKind) (p : PoolId) (band : Band) (also : ChannelDef → Bool) : List Snapshot :=
  (allChannels.filter (fun ch =>
    (s.channelDef ch).kind == kind && (s.channelDef ch).pool == p && also (s.channelDef ch))).map
    (fun ch => (s.channels.get ch).snapshot (s.channelDef ch) band)

end Sys2Proof.Machine
end

