-- ==== Sys2Proof/Machine/Accounts.lean ====
section
/-! DEFINITION. The account table (chapter 3): participation, provisional figures, settled additions, cuts and repairs, and
restore. -/

namespace Sys2Proof.Machine

/-- The account takes part in the pool (R30). -/
def Image.takesPart (img : Image) (i : AccountId) (p : PoolId) : Bool := (img.accounts.get i).mask.has p && img.mask.has p

/-- The pools that the account takes part in, ascending (R30). -/
def Image.accountPools (img : Image) (i : AccountId) : List PoolId := allPools.filter (img.takesPart i)

/-- The pools of the node's mask, ascending. -/
def Image.nodePools (img : Image) : List PoolId := img.mask.pools

def onAccount (i : AccountId) (f : Account → Account) (s : State) : State :=
  s.onTable (fun t => { t with accounts := t.accounts.modify i f })

def setSlot (i : AccountId) (x : Option Statement) (s : State) : State :=
  s.onTable (fun t => { t with slots := t.slots.set i x })

def onAccountCounters (f : AccountCounters → AccountCounters) (s : State) : State :=
  s.onTable (fun t => { t with counters := f t.counters })

/-- The contents of an account's retained record as the table stands (R67). -/
def State.accountRecord (s : State) (i : AccountId) : AccountRecord :=
  let a := s.table.accounts.get i
  ⟨(s.image.accounts.get i).unit, a.tenancy, a.status, a.settled⟩

/-! ## Provisional figures (R56) -/

/-- The records that count for a target of account i with this tenancy number and last settled interval (R56). -/
def State.counting (s : State) (i : AccountId) (tenancy last : Nat) : List Record :=
  s.ring.records.filter (fun r =>
    r.state != .opened
      && (match (r.accounts.get i).tenancy with | some t => t.number == tenancy | none => false)
      && decide (last < r.number))

/-- Provisional energy and cost of a target for a pool and band (R56). -/
def State.provisional (s : State) (i : AccountId) (tenancy last : Nat) (p : PoolId) (band : Band) : Nat × Nat :=
  let parts := ((s.counting i tenancy last).filter (fun r => r.band == band)).map (fun r => (r.accounts.get i).pools.get p)
  ((parts.map (fun x => x.raw.getD 0)).sum, (parts.map (fun x => x.posting.getD 0)).sum)

/-! ## Settled additions (R46, R75) -/

/-- What one addition to a settled figure gives: the figure, whether it reaches its maximum, whether it was at it (R75). -/
structure Added where
  value : Nat
  limit : Bool
  saturated : Bool
deriving DecidableEq, Repr

/-- A saturating addition to a settled figure (R75). -/
def addSettled (max v amount : Nat) : Added :=
  if amount = 0 then ⟨v, false, false⟩
  else if max ≤ v then ⟨v, false, true⟩
  else ⟨min (v + amount) max, decide (max ≤ v + amount), false⟩

/-- The four additions of one pool of an account part (R46). -/
def addPool (f : Figure) (x : AccountPool) : Four Added :=
  ⟨addSettled Config.settledEnergyMax f.energy (x.raw.getD 0), addSettled Config.max48 f.cost (x.posting.getD 0),
    addSettled Config.counterMax f.estimated x.estimated.toNat, addSettled Config.counterMax f.tampered x.tampered.toNat⟩

/-- The parameter of ACCUMULATOR_LIMIT (R75). -/
def limitParam (target : Nat) (p : PoolId) (band : Band) (figure : Fin 4) : Nat :=
  target * 256 + p.val * 16 + band.val * 4 + figure.val

/-- A settled addition under way: the figures so far, the fault parameters in order, the additions found at a maximum. -/
structure Adding where
  figures : Figures
  limits : List Nat
  saturated : Nat
deriving DecidableEq, Repr

/-- One pool's additions under a band (R46, R75). -/
def Adding.pool (target : Nat) (band : Band) (x : AccountPart) (a : Adding) (p : PoolId) : Adding :=
  let r := addPool ((a.figures.get p).get band) (x.pools.get p)
  { figures := a.figures.modify p (fun f => f.set band ⟨r.p0.value, r.p1.value, r.p2.value, r.p3.value⟩)
    limits := a.limits ++ (([0, 1, 2, 3] : List (Fin 4)).filter (fun k => (r.get k).limit)).map (limitParam target p band)
    saturated := a.saturated + (r.toList.filter (·.saturated)).length }

/-- All pools of the account part. R75 does not order several ACCUMULATOR_LIMIT faults of one account step; the model raises them pool by
pool, ascending, and by figure number within a pool, which settles which of them is the fault and which the compound cause (DESIGN
CHOICE, log entry 55). -/
def addParts (target : Nat) (band : Band) (pools : List PoolId) (x : AccountPart) (figures : Figures) : Adding :=
  pools.foldl (Adding.pool target band x) ⟨figures, [], 0⟩

/-! ## Cuts at a close (R62, R63, R65) -/

/-- The account step of the SETTLE job in flight that has made its additions for account i and whose write has not completed
(R63). -/
def State.stepUnderWay (s : State) (i : AccountId) : Option Settled :=
  match s.engine.flight with
  | some (.settle j) =>
    match j.waiting with
    | some (.step i' false figures) => if i' = i && !j.absorbed then some figures else none
    | _ => none
  | _ => none

/-- The write of that step is in progress (R63). -/
def State.stepWriting (s : State) (i : AccountId) : Bool :=
  match s.store.writing with
  | some q => q.awaited && q.write.recordNumber == i.val
  | none => false

/-- A cut takes the step's figures: the job no longer gives them to the table (R63). -/
def absorbStep (s : State) : State :=
  s.onEngine (fun e =>
    match e.flight with
    | some (.settle j) => { e with flight := some (.settle { j with absorbed := true, heldByWarning := false }) }
    | _ => e)

/-- The statement that a cut at the close of c forms (R62, R63). -/
def State.cutStatement (s : State) (i : AccountId) (status : AccountStatus) (c : Nat) : Statement :=
  let a := s.table.accounts.get i
  { unit := (s.image.accounts.get i).unit
    tenancy := a.tenancy
    oldStatus := a.status
    newStatus := status
    cut := c
    final := false
    incomplete := false
    settled := (s.stepUnderWay i).getD a.settled }

/-- The account after a cut (R62): figures zero, the last settled interval kept, the next tenancy, the new status. -/
def Account.afterCut (status : AccountStatus) (a : Account) : Account :=
  { a with tenancy := a.tenancy + 1, status := status, settled := ⟨a.settled.last, Figures.zero⟩, pendingCut := none }

/-- A cut of an account that is not DAMAGED, at the close of c (R62, R63). -/
def applyCut (c : Nat) (i : AccountId) (status : AccountStatus) (s : State) : State :=
  let st := s.cutStatement i status c
  let underWay := (s.stepUnderWay i).isSome
  let s1 := onAccountCounters (fun k => { k with cutsApplied := bump k.cutsApplied })
    (onAccount i (Account.afterCut status) (setSlot i (some st) s))
  let s2 := if underWay then absorbStep s1 else s1
  requestWrite (.account i (s2.accountRecord i)) (underWay && !s.stepWriting i) (requestWrite (.statement i (some st)) false s2)

/-- The account after a repair (R65). -/
def Account.afterRepair (status : AccountStatus) (c : Nat) (a : Account) : Account :=
  { a with
    tenancy := a.tenancy + 1
    status := status
    settled := ⟨c, Figures.zero⟩
    pendingCut := none
    damaged := false }

/-- A cut of a DAMAGED account is a repair (R65). -/
def applyRepair (c : Nat) (i : AccountId) (status : AccountStatus) (s : State) : State :=
  let s1 := onAccountCounters (fun k => { k with repairCuts := bump k.repairCuts }) (onAccount i (Account.afterRepair status c) s)
  requestWrite (.account i (s1.accountRecord i)) false s1

/-- The pending cut of one account, if any, at the close of c (R61, R62, R65). -/
def applyPending (c : Nat) (s : State) (i : AccountId) : State :=
  let a := s.table.accounts.get i
  match a.pendingCut with
  | none => s
  | some status => if a.damaged then applyRepair c i status s else applyCut c i status s

/-- Pending cuts are applied at the close of c, ascending (R62). -/
def applyCuts (c : Nat) (s : State) : State := allAccounts.foldl (applyPending c) s

/-! ## Restore (R70 to R74, R98) -/

/-- Only the figures of the pools in the mask are held (R70). -/
def Figures.masked (mask : PoolMask) (f : Figures) : Figures :=
  Four.ofFn (fun p => if mask.has p then f.get p else Four.fill Figure.zero)

/-- The slot that restore gives from a statement record (R71). -/
def restoredSlot : Cell (Option Statement) → Option Statement
  | .valid (some st) => if st.final then some st else some { st with final := true, incomplete := true }
  | _ => none

/-- The record of a statement restored from PROVISIONAL is rewritten (R71). -/
def restoreStatement (s : State) (i : AccountId) : State :=
  let cell := s.store.contents.statements.get i
  let s1 := setSlot i (restoredSlot cell) s
  match cell with
  | .valid (some st) => if st.final then s1 else requestWrite (.statement i (restoredSlot cell)) false s1
  | _ => s1

/-- The tenancy number of a fresh or DAMAGED account: above its statement's (R70, R73). -/
def State.freshTenancy (s : State) (i : AccountId) : Nat :=
  match s.table.slots.get i with
  | none => 1
  | some st => st.tenancy + 1

/-- A fresh account, its notice and its write (R70). -/
def freshAccount (s : State) (i : AccountId) : State :=
  let unit := (s.image.accounts.get i).unit
  let s1 := onAccount i (fun _ => ⟨s.freshTenancy i, .occupied, Settled.zero, none, false⟩) s
  requestWrite (.account i (s1.accountRecord i)) false (raiseNotice .accountFresh (i.val * 4096 + unit) s1)

/-- An interrupted cut is completed (R72). -/
def completeCut (i : AccountId) (st : Statement) (s : State) : State :=
  let s1 := onAccount i (fun a =>
    { a with tenancy := st.tenancy + 1, status := st.newStatus, settled := ⟨st.settled.last, Figures.zero⟩ }) s
  requestWrite (.account i (s1.accountRecord i)) false s1

/-- One account from its retained record (R70, R73). -/
def restoreAccount (s : State) (i : AccountId) : State :=
  match s.store.contents.accounts.get i with
  | .valid r =>
    if r.unit = (s.image.accounts.get i).unit then
      onAccount i (fun _ =>
        ⟨r.tenancy, r.status, ⟨r.settled.last, r.settled.figures.masked (s.image.accounts.get i).mask⟩, none, false⟩) s
    else freshAccount s i
  | .blank => freshAccount s i
  | .damaged => onAccount i (fun _ => ⟨s.freshTenancy i, .occupied, Settled.zero, none, true⟩) s

/-- The check for an interrupted cut (R72). -/
def restoreCut (s : State) (i : AccountId) : State :=
  match s.store.contents.accounts.get i, s.table.slots.get i with
  | .valid r, some st =>
    if r.unit = (s.image.accounts.get i).unit && decide (r.tenancy ≤ st.tenancy) then completeCut i st s else s
  | _, _ => s

def Cell.isDamaged {α : Type} : Cell α → Bool
  | .damaged => true
  | _ => false

/-- The numbers of the damaged records, ascending (R67, R74). -/
def StoreContents.damagedRecords (c : StoreContents) : List Nat :=
  (allAccounts.filter (fun i => (c.accounts.get i).isDamaged)).map (·.val)
    ++ (allAccounts.filter (fun i => (c.statements.get i).isDamaged)).map (fun i => 16 + i.val)
    ++ (allChannels.filter (fun ch => (c.lifetimes.get ch).isDamaged)).map (fun ch => 32 + ch.val)
    ++ (if c.node.isDamaged then [40] else [])

/-- One STORE_DAMAGED fault covers all damaged records (R74). -/
def raiseDamaged (s : State) : State :=
  match s.store.contents.damagedRecords with
  | [] => s
  | lowest :: rest => raiseFault .storeDamaged ((rest.length + 1) * 256 + lowest) s

def restoredLifetime : Cell Lifetime → Lifetime
  | .valid l => l
  | _ => Lifetime.zero

def restoredNode : Cell Nat → Nat
  | .valid k => k
  | _ => 0

/-- Restore (R70 to R74, R98): statements, accounts, interrupted cuts, node record, lifetimes, then the fault. From here on the table
holds its accounts (R211). -/
def restore (s : State) : State :=
  let s1 := allAccounts.foldl restoreStatement s
  let s2 := allAccounts.foldl restoreAccount s1
  let s3 := allAccounts.foldl restoreCut s2
  let s4 := s3.onTable (fun t => { t with holdsAccounts := true, nodeLast := restoredNode s.store.contents.node })
  raiseDamaged { s4 with
    channels := Table.ofFn (fun ch => Channel.fresh (restoredLifetime (s.store.contents.lifetimes.get ch))) }

end Sys2Proof.Machine
end

