-- ==== Sys2Proof/Machine/Engine.lean ====
section
/-! DEFINITION. The allocation engine and the retained store (chapters 2 and 3): the division, compute jobs, SETTLE jobs, store
writes, and the commands that start and complete them. -/

namespace Sys2Proof.Machine

def onEngineCounters (f : EngineCounters → EngineCounters) (s : State) : State :=
  s.onEngine (fun e => { e with counters := f e.counters })

/-! ## The division (R31 to R33) -/

/-- The base part of a pool's cost (R31). -/
def basePart (c b : Nat) : Nat := c * b / 100

/-- The cost share of an account with area weight a and weighted energy m, from the totals C, A and the divisor M (R31, R32). -/
def share (b : Nat) (t : Totals) (divisor a m : Nat) : Nat :=
  let base := basePart t.c b
  let rest := t.c - base
  base * a / t.a + (if 0 < divisor then rest * m / divisor else rest * a / t.a)

/-- The sum of the local accounts' weighted energies for the pool (R33). -/
def localWeighted (img : Image) (r : Record) (p : PoolId) : Nat :=
  ((allAccounts.filter (fun i => img.takesPart i p)).map (fun i => ((r.accounts.get i).pools.get p).weighted.getD 0)).sum

/-- The posting that a compute writes for an account and pool (R32, R34, R35, R37). -/
def posting (img : Image) (observer : Bool) (j : ComputeJob) (r : Record) (i : AccountId) (p : PoolId) : Nat :=
  let t := j.copy.get p
  if observer || t.a == 0 || j.damaged.get i then 0
  else
    share (img.pools.get p).base t (max t.m (localWeighted img r p)) (img.accounts.get i).area
      (((r.accounts.get i).pools.get p).weighted.getD 0)

/-- The account parts with the postings of a compute (R44, step 1). -/
def Record.posted (img : Image) (observer : Bool) (j : ComputeJob) (r : Record) : Record :=
  { r with
    unallocated := r.unallocated || observer
    accounts := Table.ofFn (fun i =>
      { r.accounts.get i with
        pools := Four.ofFn (fun p =>
          if img.takesPart i p then
            { (r.accounts.get i).pools.get p with posting := some (posting img observer j r i p) }
          else (r.accounts.get i).pools.get p) }) }

/-- The local sum stands in for M (R33). -/
def substitutesM (img : Image) (observer : Bool) (j : ComputeJob) (r : Record) (p : PoolId) : Bool :=
  !observer && (j.copy.get p).a != 0 && decide ((j.copy.get p).m < localWeighted img r p)

/-- The orphan check of a pool at a compute (R35). -/
def orphanCheck (k : Nat) (t : Totals) (p : PoolId) (s : State) : State :=
  if t.a = 0 then
    let marked := match findRecord k s with | some r => (r.pools.get p).orphanNotice | none => true
    let s1 := updateRecord k (Record.onPool p (fun x => { x with orphan := true })) s
    if 0 < t.c && !marked then
      raiseNotice .orphanCost p.val (updateRecord k (Record.onPool p (fun x => { x with orphanNotice := true })) s1)
    else s1
  else updateRecord k (Record.onPool p (fun x => { x with orphan := false })) s

/-- The meter imbalance check of a pool at a compute (R36). -/
def imbalanceCheck (k : Nat) (t : Totals) (p : PoolId) (s : State) : State :=
  let raised := match findRecord k s with | some r => (r.pools.get p).imbalance | none => true
  if 0 < t.e && decide (t.e + t.e / 16 < t.u) && !raised then
    raiseNotice .meterImbalance p.val (updateRecord k (Record.onPool p (fun x => { x with imbalance := true })) s)
  else s

/-! ## Compute jobs -/

/-- A RECOMPUTE request against the list and the job in flight (R40). -/
def requestRecompute (k : Nat) (s : State) : State :=
  let waits := s.engine.jobs.any (fun j => j.interval == k && j.kind != .settle)
  let s1 := s.onEngine (fun e =>
    match e.flight with
    | some (.compute j) => if j.interval = k then { e with flight := some (.compute { j with overtaken := true }) } else e
    | _ => e)
  if waits then onEngineCounters (fun c => { c with recomputeCoalesced := bump c.recomputeCoalesced }) s1
  else appendJob .recompute k s1

/-- The job in flight that a compute job becomes when it starts: its copy of the totals and of the DAMAGED marks (R42). -/
def State.computeJob (s : State) (recompute : Bool) (k : Nat) : ComputeJob where
  recompute := recompute
  interval := k
  copy := match findRecord k s with
    | some r => r.pools.map (·.totals)
    | none => Four.fill Totals.zero
  damaged := s.table.accounts.map (·.damaged)
  overtaken := false

/-- A compute job at the head of the list starts (R38, R42). -/
def startCompute (recompute : Bool) (k : Nat) (rest : List Job) (s : State) : State :=
  s.onEngine (fun e =>
    { jobs := rest
      flight := some (.compute (s.computeJob recompute k))
      counters :=
        if recompute then { e.counters with recomputeRuns := bump e.counters.recomputeRuns }
        else { e.counters with computeRuns := bump e.counters.computeRuns } })

/-- COMPUTE_JOB_START: with no job in flight, the compute job at the head of the list starts. -/
def execComputeJobStart (s : State) : Host.Outcome State Fault Refusal :=
  match s.following, s.engine.flight, s.engine.jobs with
  | true, none, ⟨.compute, k⟩ :: rest => .next (startCompute false k rest s)
  | true, none, ⟨.recompute, k⟩ :: rest => .next (startCompute true k rest s)
  | _, _, _ => .next s

/-- The end of a compute job in one step (R44): postings, orphan and imbalance checks, compute state, counters. The spec does not order
the notices of several pools: the model goes pool by pool, ascending, ORPHAN_COST before METER_IMBALANCE of each (DESIGN CHOICE, log
entry 49). -/
def completeCompute (j : ComputeJob) (s : State) : State :=
  let observer := s.interval.membership == .observer
  let substituted := match findRecord j.interval s with
    | some r => (s.image.nodePools.filter (substitutesM s.image observer j r)).length
    | none => 0
  let s1 := updateRecord j.interval (fun r =>
    { r.posted s.image observer j with compute := if j.overtaken then .stale else .computed }) s
  let s2 := s1.image.nodePools.foldl
    (fun t p => imbalanceCheck j.interval (j.copy.get p) p (orphanCheck j.interval (j.copy.get p) p t)) s1
  s2.onEngine (fun e =>
    { e with
      flight := none
      counters := { e.counters with
        mSubstituted := bumpBy substituted e.counters.mSubstituted
        staleResults := if j.overtaken then bump e.counters.staleResults else e.counters.staleResults } })

/-- COMPUTE_JOB_COMPLETE: the compute job in flight completes. -/
def execComputeJobComplete (s : State) : Host.Outcome State Fault Refusal :=
  match s.powered, s.engine.flight with
  | true, some (.compute j) => .next (completeCompute j s)
  | _, _ => .next s

/-! ## SETTLE jobs -/

def setFlight (f : Option Flight) (s : State) : State := s.onEngine (fun e => { e with flight := f })

/-- The contents of a write that the SETTLE job for k waits for, fixed when it is requested (R48, R49, R68). -/
def State.settleContents (s : State) (k : Nat) : SettleWrite → StoreWrite
  | .step i false figures => .account i { s.accountRecord i with settled := figures }
  | .step i true figures => .statement i ((s.table.slots.get i).map (fun st => { st with settled := figures }))
  | .final i => .statement i ((s.table.slots.get i).map (fun st => { st with final := true }))
  | .node => .node k

/-- The SETTLE job comes to its next write: it requests it, or waits for the supply warning to clear (R48). -/
def awaitWrite (j : SettleJob) (w : SettleWrite) (s : State) : State :=
  if s.control.supplyWarn then
    onEngineCounters (fun c => { c with settleWaits := bump c.settleWaits })
      (setFlight (some (.settle { j with waiting := some w, absorbed := false, heldByWarning := true })) s)
  else
    requestWrite (s.settleContents j.interval w) true
      (setFlight (some (.settle { j with waiting := some w, absorbed := false, heldByWarning := false })) s)

/-- The target of an account step: the account (false) or its closing statement (true), with its settled figures (R46). -/
def State.settleTarget (s : State) (i : AccountId) (x : AccountPart) : Option (Bool × Settled) :=
  match x.tenancy with
  | none => none
  | some t =>
    if t.number = (s.table.accounts.get i).tenancy then some (false, (s.table.accounts.get i).settled)
    else match s.table.slots.get i with
      | some st => if t.number = st.tenancy then some (true, st.settled) else none
      | none => none

/-- A SETTLE that finds its record with no compute completed counts it in SETTLE_UNCOMPUTED, whatever its account steps do (R46, R50,
R52; that it counts at the start of the job is log entry 23). -/
def countUncomputed (r : Record) (s : State) : State :=
  if r.compute == .none then onEngineCounters (fun c => { c with settleUncomputed := bump c.settleUncomputed }) s else s

/-- The additions of an account step: the faults they raise and the counter (R46, R75). -/
def raiseLimits (a : Adding) (s : State) : State :=
  a.limits.foldl (fun t param => raiseFault .accumulatorLimit param t)
    (onAccountCounters (fun c => { c with saturatedAdds := bumpBy a.saturated c.saturatedAdds }) s)

/-- The node record is the last write of the job (R49, step 2). -/
def settleNode (j : SettleJob) (s : State) : State := awaitWrite { j with accountsLeft := [], finalsLeft := [] } .node s

/-- The statements whose cut interval is k become FINAL one at a time, each after the write before it has completed, then the node
record (R49; the order is DESIGN CHOICE, log entry 50). -/
def settleFinals (j : SettleJob) (s : State) : List AccountId → State
  | [] => settleNode j s
  | i :: rest => awaitWrite { j with accountsLeft := [], finalsLeft := rest } (.final i) s

/-- The accounts whose statement's cut interval is k, by ascending index: R49 and R59 give no order (DESIGN CHOICE, log entry 50). -/
def State.finalsOf (s : State) (k : Nat) : List AccountId :=
  allAccounts.filter (fun i => match s.table.slots.get i with | some st => st.cut == k | none => false)

/-- The account steps from these accounts on, up to the next write (R46, R47, R64). -/
def settleAccounts (r : Record) : SettleJob → List AccountId → State → State
  | j, [], s => settleFinals j s (s.finalsOf j.interval)
  | j, i :: rest, s =>
    let x := r.accounts.get i
    if (s.table.accounts.get i).damaged then settleAccounts r j rest s
    else match s.settleTarget i x with
      | none => settleAccounts r j rest (onAccountCounters (fun c => { c with noTarget := bump c.noTarget }) s)
      | some (onStatement, settled) =>
        if j.interval ≤ settled.last then
          settleAccounts r j rest (onEngineCounters (fun c => { c with settleSkipped := bump c.settleSkipped }) s)
        else
          let a := addParts (if onStatement then 16 + i.val else i.val) r.band (s.image.accountPools i) x settled.figures
          awaitWrite { j with accountsLeft := rest } (.step i onStatement ⟨j.interval, a.figures⟩) (raiseLimits a s)

/-- The digests of a record, one for each pool of the node's mask (R45). -/
def Record.poolDigests (img : Image) (r : Record) : Four Digest :=
  Four.ofFn (fun p =>
    if img.mask.has p then
      poolDigest r.number p r.band ((r.pools.get p).contributors.map (·.station)) (r.pools.get p).totals
    else 0#32)

/-- Zero is written over every cost posting that stands, and UNALLOCATED set (R37, R45). -/
def Record.zeroed (r : Record) : Record :=
  { r with
    unallocated := true
    accounts := r.accounts.map (fun x => { x with pools := x.pools.map (fun y => { y with posting := y.posting.map (fun _ => 0) }) }) }

/-- The accounts that take part in at least one pool (R46). -/
def Image.settleAccountList (img : Image) : List AccountId := allAccounts.filter (fun i => !(img.accountPools i).isEmpty)

/-- A SETTLE job at the head of the list starts (R45, R46). -/
def startSettle (r : Record) (rest : List Job) (s : State) : State :=
  let s1 := countUncomputed r (s.onEngine (fun e => { e with jobs := rest }))
  let s2 := if s1.interval.membership == .observer then updateRecord r.number Record.zeroed s1 else s1
  let r2 := (findRecord r.number s2).getD r
  settleAccounts r2 ⟨r.number, r2.poolDigests s2.image, [], [], none, false, false⟩ s2.image.settleAccountList s2

/-- SETTLE_JOB_START: with no job in flight, the SETTLE job at the head of the list starts. -/
def execSettleJobStart (s : State) : Host.Outcome State Fault Refusal :=
  match s.following, s.engine.flight, s.engine.jobs with
  | true, none, ⟨.settle, k⟩ :: rest =>
    match findRecord k s with
    | some r => .next (startSettle r rest s)
    | none => .next s
  | _, _, _ => .next s

/-- The table takes what the completed write settles (R48, R49, R63). -/
def takeSettled (j : SettleJob) : SettleWrite → State → State
  | .step i false figures, s => if j.absorbed then s else onAccount i (fun a => { a with settled := figures }) s
  | .step i true figures, s => setSlot i ((s.table.slots.get i).map (fun st => { st with settled := figures })) s
  | .final i, s => setSlot i ((s.table.slots.get i).map (fun st => { st with final := true })) s
  | .node, s => s.onTable (fun t => { t with nodeLast := j.interval })

/-- The SETTLE job goes on after its write has completed (R48, R49). -/
def settleWriteDone (s : State) : State :=
  match s.engine.flight with
  | some (.settle j) =>
    match j.waiting with
    | none => s
    | some w =>
      let s1 := takeSettled j w s
      match w with
      | .step _ _ _ =>
        match findRecord j.interval s1 with
        | some r => settleAccounts r j j.accountsLeft s1
        | none => settleFinals j s1 (s1.finalsOf j.interval)
      | .final _ => settleFinals j s1 j.finalsLeft
      | .node => setFlight (some (.settle { j with waiting := none })) s1
  | _ => s

/-! ## The store's writes (R68, R69) -/

/-- STORE_WRITE_START: the oldest waiting request starts; not while a write is in progress, under SUPPLY-WARN, or once a reset is
latched (R68, R69, R212). -/
def execStoreWriteStart (s : State) : Host.Outcome State Fault Refusal :=
  match s.live && !s.control.supplyWarn && !s.control.resetLatched, s.store.writing, s.store.queue with
  | true, none, q :: rest => .next (s.onStore (fun t => { t with writing := some q, queue := rest }))
  | _, _, _ => .next s

/-- The write in progress is in the store. -/
def commitWrite (q : StoreRequest) (s : State) : State :=
  s.onStore (fun t => { t with contents := t.contents.commit q.write, writing := none })

/-- What a completed write brings about: a latched reset takes effect with it, and nothing else of the node goes on (R212); else the
SETTLE job that waits for it goes on (R48). -/
def afterWrite (q : StoreRequest) (s : State) : State :=
  if s.control.resetLatched then resetNode .resetInput s else if q.awaited then settleWriteDone s else s

/-- STORE_WRITE_COMPLETE: the write in progress completes (R48, R68, R212). -/
def execStoreWriteComplete (s : State) : Host.Outcome State Fault Refusal :=
  match s.powered, s.store.writing with
  | true, some q => .next (afterWrite q (commitWrite q s))
  | _, _ => .next s

/-! ## The end of a SETTLE job (R25, R26, R49) -/

def PoolPart.view (x : PoolPart) : ViewPool :=
  ⟨x.totals, x.contributors, x.complete, x.recalled, x.estimated, x.tampered, x.orphan, x.imbalance⟩

/-- The last settled view of a record (R25, R26). -/
def Record.view (r : Record) : SettledView :=
  ⟨r.number, r.band, r.cause, r.causeStation, r.renumbered, r.partialMark, r.unallocated, r.compute, r.pools.map PoolPart.view⟩

/-- An entry joins the history; the oldest leaves when a fifth would enter (R26). Each interval number appears at most once: where a
number settles a second time, after a rejoin and a lower number adopted or founded, its new entry takes the place of the old one at the
end of the list (DESIGN CHOICE, log entry 48). -/
def pushHistory (h : List HistoryEntry) (e : HistoryEntry) : List HistoryEntry :=
  let others := h.filter (·.number != e.number)
  (if 4 ≤ others.length then others.drop (others.length - 3) else others) ++ [e]

/-- The SETTLE job for record r completes (R25, R49). -/
def completeSettle (j : SettleJob) (r : Record) (s : State) : State :=
  let s1 := s.onRing (fun g =>
    { g with
      records := g.records.filter (fun x => x.number != r.number)
      history := pushHistory g.history ⟨r.number, r.band, j.digests⟩
      view := some r.view })
  onEngineCounters (fun c => { c with settleRuns := bump c.settleRuns }) (setFlight none s1)

/-- SETTLE_JOB_COMPLETE: the SETTLE job in flight, all its writes done, completes. -/
def execSettleJobComplete (s : State) : Host.Outcome State Fault Refusal :=
  match s.powered, s.engine.flight with
  | true, some (.settle j) =>
    match j.waiting, findRecord j.interval s with
    | none, some r => .next (if r.state == .settling then completeSettle j r s else s)
    | _, _ => .next s
  | _, _ => .next s

end Sys2Proof.Machine
end

