-- ==== Sys2Proof/Machine/CrossCheck.lean ====
section
/-! DEFINITION. The cross-check unit (chapter 9): the comparison of a handed digest, the capture and the run. -/

namespace Sys2Proof.Machine

def onCheckCounts (p : PoolId) (f : CheckCounts → CheckCounts) (s : State) : State :=
  s.onCheck (fun c => { c with counts := c.counts.modify p f })

/-- The history entry of an interval, by exact number (R26); pushHistory keeps a number from standing there twice (log entry 48). -/
def State.settledEntry (s : State) (k : Nat) : Option HistoryEntry := s.ring.history.find? (·.number == k)

/-- Interval m follows interval r in the history (R178): no entry has a number between them. After a rejoin that adopted a lower number
the history need not ascend, and the model judges by number and not by place (DESIGN CHOICE, log entry 52). -/
def follows (h : List HistoryEntry) (r m : Nat) : Bool :=
  h.any (·.number == r) && h.any (·.number == m) && decide (r < m)
    && !h.any (fun e => decide (r < e.number ∧ e.number < m))

/-- Run count and interval after a mismatch for settled interval m: R178's table, its first line that applies. R180 says of a run begun
before a rejoin that it restarts at 1 unless its run interval is the entry just before m; where m equals or is below the run interval,
which a rejoin to lower numbers can bring, the table leaves the run unchanged, and the model follows the table (DESIGN CHOICE, log
entry 56). -/
def nextRun (h : List HistoryEntry) (run runInterval m : Nat) : Nat × Nat :=
  if runInterval = 0 then (1, m)
  else if m ≤ runInterval then (run, runInterval)
  else if follows h runInterval m then (run + 1, m)
  else (1, m)

/-- A mismatch is captured if the capture is empty (R177). -/
def captureMismatch (m : Nat) (p : PoolId) (station : Nat) (own received : Digest) (s : State) : State :=
  s.onCheck (fun c =>
    { c with capture := match c.capture with | none => some ⟨m, p, station, own, received⟩ | some x => some x })

/-- The run at a mismatch, and DISAGREEMENT when it reaches four (R178, R179). -/
def advanceRun (m : Nat) (p : PoolId) (station : Nat) (s : State) : State :=
  if s.check.latch then s
  else
    let n := nextRun s.ring.history s.check.run s.check.runInterval m
    let s1 := s.onCheck (fun c => { c with run := n.1, runInterval := n.2 })
    if 4 ≤ n.1 then raiseFault .disagreement (station * 256 + p.val) (s1.onCheck (fun c => { c with latch := true }))
    else s1

/-- A digest handed with interval k and pool p from a station (R175). -/
def handDigest (k : Nat) (p : PoolId) (station : Nat) (digest : Option Digest) (s : State) : State :=
  if s.image.checkMask.has p then s
  else match (if k ≤ 3 then none else s.settledEntry (k - 3)) with
    | none => onCheckCounts p (fun c => { c with unheld := bump c.unheld }) s
    | some e =>
      match digest with
      | none => onCheckCounts p (fun c => { c with absent := bump c.absent }) s
      | some d =>
        if d = e.digests.get p then onCheckCounts p (fun c => { c with compared := bump c.compared }) s
        else
          advanceRun (k - 3) p station (captureMismatch (k - 3) p station (e.digests.get p) d
            (onCheckCounts p (fun c => { c with mismatched := bump c.mismatched }) s))

/-- The unit cleared by CLEAR-CHECK (R181). -/
def clearCheck (s : State) : State :=
  s.onCheck (fun _ => { counts := Four.fill ⟨0, 0, 0, 0⟩, capture := none, run := 0, runInterval := 0, latch := false })

end Sys2Proof.Machine
end

