-- ==== Sys2Proof/Machine/Roster.lean ====
section
/-! DEFINITION. The roster (chapter 6): learning, verdicts, ageing, the count period, the snapshot and the own ANNOUNCE. -/

namespace Sys2Proof.Machine

/-! ## The snapshot (R135, R136) -/

/-- The expected set of a pool, ascending (R135). -/
def Roster.expectedSet (r : Roster) (p : PoolId) : List Nat :=
  (r.entries.filter (fun e => e.role == .node && e.state == .active && e.plan != .mismatch && e.mask.has p)).map (·.station)

/-- The node's rank (R136). -/
def State.rank (s : State) : Nat :=
  s.roster.entries.countP (fun e => e.role == .node && e.state == .active && decide (e.station < s.image.station))

/-! ## Arrival of a frame (R123 to R126, R130, R131) -/

/-- The roster's verdict on a frame (R123). -/
inductive Verdict
  | notAdmitted
  | rateDiscarded
  | passed
deriving DecidableEq, Repr

/-- The role that a frame gives its source, if it is an ANNOUNCE (R126). -/
def FrameBody.announcedRole : FrameBody → Option Role
  | .announce role _ _ _ _ _ => some role
  | _ => none

/-- The pool that a SUMMARY adds to its source's mask (R130). -/
def FrameBody.summaryPool : FrameBody → Option PoolId
  | .summary b => some b.pool
  | _ => none

def insertPeer (e : Peer) : List Peer → List Peer
  | [] => [e]
  | x :: rest => if e.station < x.station then e :: x :: rest else x :: insertPeer e rest

/-- An ANNOUNCE sets the role; a change of role clears the missed count and, unless QUARANTINED, makes the entry ACTIVE (R126). -/
def Peer.setRole (role : Role) (e : Peer) : Peer :=
  if e.role = role then e
  else { e with role := role, missed := 0, state := if e.state == .quarantined then .quarantined else .active }

/-- A passed SUMMARY adds its pool and returns a SILENT entry to ACTIVE (R130, R133). -/
def Peer.addSummary (p : PoolId) (e : Peer) : Peer :=
  if e.state == .silent then { e with mask := e.mask.add p, state := .active, missed := 0 } else { e with mask := e.mask.add p }

/-- What a passed frame does to its source's entry at arrival (R126, R130, R133). -/
def Peer.passed (body : FrameBody) (e : Peer) : Peer :=
  let e1 := match body.announcedRole with | some role => e.setRole role | none => e
  match body.summaryPool with | some p => e1.addSummary p | none => e1

/-- The entry that a frame creates (R122, R124). -/
def newPeer (f : RxFrame) (openNumber : Nat) : Peer :=
  Peer.passed f.body
    { station := f.source, role := (f.body.announcedRole).getD .node, mask := 0#4, plan := .unknown, state := .active,
      missed := 0, frames := 1, noisy := 0, lastHeard := openNumber, announcedInterval := none, announcedMembership := none }

/-- The SILENT node-role entry that is evicted: the highest missed count, then the lowest station (R125). -/
def evictee (es : List Peer) : Option Peer :=
  (es.filter (fun e => e.state == .silent && e.role == .node)).foldl
    (fun best e => match best with
      | none => some e
      | some b => if b.missed < e.missed then some e else some b) none

/-- An entry is created (R124). -/
def learn (f : RxFrame) (s : State) : State :=
  s.onRoster (fun r =>
    { r with
      entries := insertPeer (newPeer f s.interval.openNumber) r.entries
      counters := { r.counters with learned := bump r.counters.learned } })

/-- The roster handles a valid frame at its arrival (R123 to R126, R130, R131). -/
def rosterArrival (f : RxFrame) (s : State) : Verdict × State :=
  match s.peer f.source with
  | some e =>
    let frames := min (e.frames + 1) 255
    let heard : Peer := { e with frames := frames, lastHeard := s.interval.openNumber }
    if s.image.rateLimit < frames then
      (.rateDiscarded, onRosterCounters (fun c => { c with rateDiscarded := bump c.rateDiscarded })
        (updatePeer f.source (fun _ => heard) s))
    else (.passed, updatePeer f.source (fun _ => heard.passed f.body) s)
  | none =>
    if s.roster.entries.length < 32 then (.passed, learn f s)
    else match evictee s.roster.entries with
      | some old =>
        (.passed, learn f (s.onRoster (fun r =>
          { r with
            entries := r.entries.filter (fun e => e.station != old.station)
            counters := { r.counters with evicted := bump r.counters.evicted } })))
      | none =>
        let s1 := onRosterCounters (fun c => { c with notAdmitted := bump c.notAdmitted }) s
        (.notAdmitted,
          if s1.roster.fullMark then s1 else raiseNotice .rosterFull f.source (s1.onRoster (fun r => { r with fullMark := true })))

/-! ## The count-period boundary (R131, R132) -/

/-- An entry's evaluation at a boundary with rate limit r (R132). -/
def Peer.evaluate (r : Nat) (e : Peer) : Peer :=
  if e.state == .quarantined then
    if r < e.frames then { e with noisy := min (e.noisy + 1) 3 }
    else if r / 2 < e.frames then { e with noisy := 0 }
    else { e with state := .active, missed := 0, noisy := 0 }
  else if r < e.frames then
    if 3 ≤ e.noisy + 1 then { e with noisy := 3, state := .quarantined } else { e with noisy := e.noisy + 1 }
  else { e with noisy := 0 }

/-- The stations that become QUARANTINED at a boundary, ascending (R132). -/
def Roster.newlyQuarantined (r : Roster) (limit : Nat) : List Nat :=
  (r.entries.filter (fun e => e.state != .quarantined && (e.evaluate limit).state == .quarantined)).map (·.station)

/-- The number of entries released at a boundary (R132). -/
def Roster.released (r : Roster) (limit : Nat) : Nat :=
  r.entries.countP (fun e => e.state == .quarantined && (e.evaluate limit).state != .quarantined)

/-- A count-period boundary: entries are evaluated and restart their counts, the full-notice mark, the line's stuck and duplicate
marks and the pool's drop marks are cleared, and NOISY_PEER is raised for each new quarantine (R131, R132, R146, R148, R167). -/
def countBoundary (s : State) : State :=
  let limit := s.image.rateLimit
  let noisy := s.roster.newlyQuarantined limit
  let s1 := s.onRoster (fun r =>
    { r with
      entries := r.entries.map (fun e => { e.evaluate limit with frames := 0 })
      fullMark := false
      counters := { r.counters with
        quarantines := bumpBy noisy.length r.counters.quarantines
        quarantineReleases := bumpBy (r.released limit) r.counters.quarantineReleases } })
  let s2 := (s1.onLine (fun l => { l with stuckMark := false, dupMark := false })).onRx
    (fun x => { x with dropCurrent := false, dropLate := false, dropService := false })
  noisy.foldl (fun t station => raiseNotice .noisyPeer station t) s2

/-! ## Ageing (R133, R134) -/

/-- The station has an entry in a contributor list of the record (R133). -/
def Record.hasContributor (r : Record) (station : Nat) : Bool :=
  r.pools.toList.any (fun p => p.contributors.any (·.station == station))

/-- A node-role entry aged against the previous record with age limit a (R133). -/
def Peer.ageNode (a : Nat) (contributed : Bool) (e : Peer) : Peer :=
  if contributed then { e with missed := 0, state := if e.state == .silent then .active else e.state }
  else if e.state == .active && decide (a ≤ e.missed + 1) then { e with missed := e.missed + 1, state := .silent }
  else { e with missed := e.missed + 1 }

/-- A READER entry aged by frames heard while the closing record was open (R134). -/
def Peer.ageReader (openBefore : Nat) (e : Peer) : Peer :=
  if e.lastHeard = openBefore then { e with missed := 0 } else { e with missed := e.missed + 1 }

/-- The entry is freed after its ageing (R134). -/
def Peer.freed (a : Nat) (e : Peer) : Bool := decide (255 ≤ e.missed) || (e.role == .reader && decide (a ≤ e.missed))

/-- One entry at a close: prev is the previous record, if there is one (R133, R134). -/
def Peer.age (a openBefore : Nat) (prev : Option Record) (e : Peer) : Peer :=
  if e.role == .reader then e.ageReader openBefore
  else match prev with
    | none => e
    | some r => e.ageNode a (r.hasContributor e.station)

/-- The previous record at a close of c: the newest below c (R133). -/
def State.previousRecord (s : State) (c : Nat) : Option Record :=
  (s.ring.records.filter (fun r => decide (r.number < c))).getLast?

/-- The roster ages at the close of c; openBefore is the number that the record had while it was open (R133, R134). -/
def ageRoster (c openBefore : Nat) (s : State) : State :=
  let prev := s.previousRecord c
  let aged := s.roster.entries.map (Peer.age s.image.codeA openBefore prev)
  s.onRoster (fun r =>
    { r with
      entries := aged.filter (fun e => !e.freed s.image.codeA)
      counters := { r.counters with freed := bumpBy (aged.countP (fun e => e.freed s.image.codeA)) r.counters.freed } })

/-! ## The own ANNOUNCE (R127, R128) -/

/-- The contents of the own ANNOUNCE as it enters the queue: R127's list, and the timer and the held close that R100 has it carry. R217
names no place among the ten bytes for these two: they are held here and not laid out as bits (DESIGN CHOICE, log entry 57). -/
def State.announceBody (s : State) : FrameBody :=
  .announce .node (some s.interval.membership) s.image.mask s.roster.planDigest s.interval.openNumber
    (some ⟨s.interval.timer, s.interval.held⟩)

def setAnnounce (x : AnnounceSending) (s : State) : State := s.onRoster (fun r => { r with announce := x })

/-- The own ANNOUNCE falls due (R128). -/
def announceDue (s : State) : State :=
  if s.interval.membership == .member && s.roster.announce == .none then
    if s.hasRoom .peer then setAnnounce .queued (enqueue s.announceBody s)
    else setAnnounce .waiting (listOffer .announce s)
  else s

end Sys2Proof.Machine
end

