-- ==== Sys2Proof/Machine/RxPool.lean ====
section
/-! DEFINITION. The receive pool (chapter 8): the acceptance filter, classes, admission, and hand-off; the command
TAKE_ANNOUNCE. -/

namespace Sys2Proof.Machine

def onRxCounters (f : RxCounters → RxCounters) (s : State) : State := s.onRx (fun x => { x with counters := f x.counters })

/-! ## Classes, reserves and limits (R163, R165) -/

/-- The class of a frame, judged against the ring (R163). -/
def State.classOf (s : State) : FrameBody → RxClass
  | .close _ _ => .current
  | .summary b =>
    if s.ring.records.isEmpty then .current
    else match findRecord b.interval s with
      | some r => if r.state == .opened || r.state == .gathering then .current else .late
      | none => if s.interval.openNumber < b.interval then .current else .late
  | .request _ => .service
  | _ => .late

/-- The reserve of a class in a mode (R165). -/
def RxClass.reserve : RxMode → RxClass → Nat
  | .normal, .current => 16
  | .normal, .late => 4
  | .normal, .service => 2
  | .urgent, .current => 24
  | .urgent, .late => 2
  | .urgent, .service => 0

/-- The limit of a class in a mode (R165). -/
def RxClass.limit : RxMode → RxClass → Nat
  | .normal, .current => 32
  | .normal, .late => 16
  | .normal, .service => 8
  | .urgent, .current => 36
  | .urgent, .late => 8
  | .urgent, .service => 2

/-- Class code (R167). -/
def RxClass.code : RxClass → Nat
  | .current => 1
  | .late => 2
  | .service => 3

/-- The fill count of a class (R157). -/
def RxPool.fill (x : RxPool) (c : RxClass) : Nat := x.entries.countP (fun e => e.cls == c)

/-- The free entries (R165). -/
def RxPool.free (x : RxPool) : Nat := 40 - x.entries.length

/-- The unused reserve of a class (R165). -/
def RxPool.unused (x : RxPool) (c : RxClass) : Nat := RxClass.reserve x.mode c - x.fill c

/-- The sum of the unused reserves of the other two classes (R166). -/
def RxPool.othersUnused (x : RxPool) (c : RxClass) : Nat :=
  x.unused .current + x.unused .late + x.unused .service - x.unused c

/-- The three conditions of admission (R166). -/
def RxPool.admits (x : RxPool) (c : RxClass) : Bool :=
  decide (x.fill c < RxClass.limit x.mode c) && decide (0 < x.free)
    && (decide (x.fill c < RxClass.reserve x.mode c) || decide (x.othersUnused c < x.free))

/-! ## Admission and drops (R166, R167) -/

/-- An admitted frame takes an entry (R166). -/
def admitFrame (f : RxFrame) (c : RxClass) (notAdmitted : Bool) (s : State) : State :=
  s.onRx (fun x =>
    { x with
      entries := x.entries ++ [⟨f, c, x.arrivals, notAdmitted⟩]
      peak := max x.peak (x.entries.length + 1) })

def RxPool.dropMark (x : RxPool) : RxClass → Bool
  | .current => x.dropCurrent
  | .late => x.dropLate
  | .service => x.dropService

def RxPool.setDropMark (x : RxPool) : RxClass → RxPool
  | .current => { x with dropCurrent := true }
  | .late => { x with dropLate := true }
  | .service => { x with dropService := true }

def RxCounters.countDrop (c : RxCounters) : RxClass → RxCounters
  | .current => { c with dropCurrent := bump c.dropCurrent }
  | .late => { c with dropLate := bump c.dropLate }
  | .service => { c with dropService := bump c.dropService }

/-- A frame is dropped; the first drop of its class in a count period raises RX_DROP (R167). -/
def dropFrame (f : RxFrame) (c : RxClass) (s : State) : State :=
  let s1 := onRxCounters (fun k => k.countDrop c) s
  if s1.rx.dropMark c then s1
  else raiseNotice .rxDrop (c.code * 256 + f.source) (s1.onRx (fun x => x.setDropMark c))

/-- Step 7 of the filter (R163 to R167). -/
def admitOrDrop (f : RxFrame) (notAdmitted : Bool) (s : State) : State :=
  let c := s.classOf f.body
  if s.rx.admits c then admitFrame f c notAdmitted s else dropFrame f c s

/-! ## The acceptance filter (R158 to R162) -/

/-- The source entry is QUARANTINED or MISMATCH (R160). -/
def State.shutOut (s : State) (station : Nat) : Bool :=
  match s.peer station with
  | some e => e.state == .quarantined || e.plan == .mismatch
  | none => false

/-- A REQUEST addressed to this node, or a QUERY to 63 (R162). -/
def addressed (station : Nat) (payload : List Byte) : Bool :=
  fieldAt payload 0 1 == station || (fieldAt payload 0 1 == 63 && fieldAt payload 2 1 == 1)

def countPoolDiscard (s : State) : State := onRxCounters (fun c => { c with poolDiscarded := bump c.poolDiscarded }) s
def countPeerRefused (s : State) : State := onRxCounters (fun c => { c with peerRefused := bump c.peerRefused }) s

/-- Steps 3 to 7 of the filter for a frame that passed step 2 (R159 to R166). -/
def filterFrame (f : RxFrame) (notAdmitted : Bool) (s : State) : State :=
  match f.body with
  | .reply _ | .condition _ => onRxCounters (fun c => { c with kindDiscarded := bump c.kindDiscarded }) s
  | .close _ _ => if s.shutOut f.source then countPeerRefused s else admitOrDrop f notAdmitted s
  | .summary b =>
    if s.shutOut f.source then countPeerRefused s
    else if s.image.mask.has b.pool then admitOrDrop f notAdmitted s
    else countPoolDiscard s
  | .recall _ p _ => if s.image.mask.has p then admitOrDrop f notAdmitted s else countPoolDiscard s
  | .announce _ _ _ _ _ _ => admitOrDrop f notAdmitted s
  | .request payload =>
    if addressed s.image.station payload then admitOrDrop f notAdmitted s
    else onRxCounters (fun c => { c with notAddressed := bump c.notAddressed }) s

def FrameBody.isRequest : FrameBody → Bool
  | .request _ => true
  | _ => false

/-- The filter from the roster's verdict on (R158). -/
def acceptFrame (f : RxFrame) (s : State) : State :=
  let s0 := s.onRx (fun x => { x with arrivals := x.arrivals + 1 })
  let r := rosterArrival f s0
  match r.1 with
  | .rateDiscarded => r.2
  | .notAdmitted => if f.body.isRequest then filterFrame f true r.2 else r.2
  | .passed => filterFrame f false r.2

/-! ## Hand-off (R169, R170) -/

/-- The head of a class (R169). -/
def State.rxHead (s : State) (c : RxClass) : Option RxEntry := s.rx.entries.find? (·.cls == c)

/-- The first entry of a class leaves the list. -/
def removeHead (c : RxClass) : List RxEntry → List RxEntry
  | [] => []
  | e :: rest => if e.cls == c then rest else e :: removeHead c rest

/-- The head of a class is taken: its entry is freed (R169). -/
def takeHead (c : RxClass) (s : State) : State := s.onRx (fun x => { x with entries := removeHead c x.entries })

/-- A LATE SUMMARY or RECALL (R170). -/
def RxEntry.isLatePast (e : RxEntry) : Bool :=
  e.cls == .late && (match e.frame.body with | .summary _ | .recall _ _ _ => true | _ => false)

/-- The purge at the end of a rejoin (R170). -/
def purgeLate (s : State) : State :=
  s.onRx (fun x =>
    { x with
      entries := x.entries.filter (fun e => !e.isLatePast)
      counters := { x.counters with purged := bumpBy (x.entries.countP (·.isLatePast)) x.counters.purged } })

/-! ## TAKE_ANNOUNCE (R129) -/

/-- The plan state of an entry after an ANNOUNCE with this digest (R129). -/
def Peer.judgePlan (own digest : Digest) (e : Peer) : Peer :=
  if e.role == .reader then { e with plan := .unknown }
  else if digest = own then { e with plan := .isMatch }
  else { e with plan := .mismatch }

/-- An ANNOUNCE taken from the pool (R129). -/
def takeAnnounce (source : Nat) (membership : Option Membership) (mask : PoolMask) (digest : Digest) (openNumber : Nat)
    (s : State) : State :=
  match s.peer source with
  | none => s
  | some e =>
    let e1 := Peer.judgePlan s.roster.planDigest digest
      { e with mask := mask, announcedInterval := some openNumber, announcedMembership := membership }
    let s1 := updatePeer source (fun _ => e1) s
    if e1.plan == .mismatch && e.plan != .mismatch then
      raiseNotice .configMismatch source
        (onRosterCounters (fun c => { c with planMismatches := bump c.planMismatches }) s1)
    else s1

/-- TAKE_ANNOUNCE: the roster takes the ANNOUNCE at the head of LATE. -/
def execTakeAnnounce (s : State) : Host.Outcome State Fault Refusal :=
  match s.live, s.rxHead .late with
  | true, some ⟨⟨source, .announce _ membership mask digest openNumber _⟩, _, _, _⟩ =>
    .next (takeAnnounce source membership mask digest openNumber (takeHead .late s))
  | _, _ => .next s

end Sys2Proof.Machine
end

