-- ==== Sys2Proof/Machine/Ring.lean ====
section
/-! DEFINITION. The interval ring (chapter 1): opening and closing records, the gather, own summaries, intake, recalls, the
advance and the drain; the commands SEND_TIME_EXPIRY, GATHER_EXPIRY, TAKE_RECALL and DRAIN_SETTLE_NEXT. -/

namespace Sys2Proof.Machine

def onRingCounters (f : RingCounters → RingCounters) (s : State) : State :=
  s.onRing (fun r => { r with counters := f r.counters })

/-! ## Opening (R3 to R6) -/

/-- A pool part as it is opened (R4). -/
def PoolPart.atOpen : PoolPart where
  expected := []
  contributors := []
  totals := Totals.zero
  complete := false
  recalled := false
  estimated := false
  tampered := false
  orphan := false
  imbalance := false
  orphanNotice := false
  own := none
  sending := none
  resends := 0
  resendQueued := false

/-- A record as it is opened (R3 to R5). -/
def Record.atOpen (n : Nat) (band : Band) (partialMark : Bool) : Record where
  number := n
  state := .opened
  band := band
  cause := none
  causeStation := none
  renumbered := false
  partialMark := partialMark
  unallocated := false
  gather := none
  send := none
  compute := .none
  pools := Four.fill PoolPart.atOpen
  accounts := Table.fill 16 ⟨none, Four.fill ⟨none, none, none, false, false⟩⟩

/-- A record is opened as the newest (R6). -/
def openRecord (n : Nat) (band : Band) (partialMark : Bool) (s : State) : State :=
  s.onRing (fun r => { r with records := r.records ++ [Record.atOpen n band partialMark] })

/-! ## Contributors and totals (R4, R14) -/

def Totals.add (x y : Totals) : Totals := ⟨x.e + y.e, x.c + y.c, x.u + y.u, x.m + y.m, x.a + y.a⟩

/-- The exact sums of the entries' values (R4). -/
def sumEntries (es : List Entry) : Totals := es.foldl (fun t e => t.add e.values) Totals.zero

/-- Totals and the pool flags ESTIMATED and TAMPERED follow the contributor list (R4). -/
def PoolPart.refresh (x : PoolPart) : PoolPart :=
  { x with
    totals := sumEntries x.contributors
    estimated := x.contributors.any (·.estimated)
    tampered := x.contributors.any (·.tampered) }

/-- An entry at its place by station number (R20). -/
def insertEntry (e : Entry) : List Entry → List Entry
  | [] => [e]
  | x :: rest => if e.station < x.station then e :: x :: rest else x :: insertEntry e rest

def PoolPart.entry (x : PoolPart) (station : Nat) : Option Entry := x.contributors.find? (·.station == station)

/-- Every station of the expected set has an entry; once set, COMPLETE stays (R14). -/
def PoolPart.evaluate (x : PoolPart) : PoolPart :=
  { x with complete := x.complete || x.expected.all (fun st => (x.entry st).isSome) }

/-- Every pool of the record is COMPLETE (R15). -/
def Record.allComplete (mask : PoolMask) (r : Record) : Bool := mask.pools.all (fun p => (r.pools.get p).complete)

/-- A record renumbered for a jump (R6). -/
def Record.renumber (j : Nat) (r : Record) : Record :=
  { r with number := j, renumbered := true, pools := r.pools.map (fun x => PoolPart.refresh { x with contributors := [] }) }

/-! ## Closing (R7, R8) -/

/-- A raw or weighted energy within R5's range; beyond it the free value (log entry 10). -/
def within (v : Nat) (beyond : Nat → Fin 4294967296) : Nat := if v ≤ Config.energyMax then v else (beyond v).val

/-- An account's fields of one pool at a close (R7, step 5). -/
def State.closePool (s : State) (band : Band) (i : AccountId) (p : PoolId) : AccountPool :=
  if s.image.takesPart i p then
    let snaps := s.snapshots .consumer p band (fun d => d.account == i)
    let raw := within ((snaps.map (·.energy)).sum) Config.rawEnergyBeyond
    { raw := some raw
      weighted := some (within (raw * (s.image.accounts.get i).factor / 256) Config.weightedEnergyBeyond)
      posting := none
      estimated := snaps.any (·.estimated)
      tampered := snaps.any (·.tampered) }
  else ⟨none, none, none, false, false⟩

/-- The account parts at a close: tenancy snapshots and energies (R7, steps 4 and 5). -/
def State.closeAccounts (s : State) (band : Band) : Table 16 AccountPart :=
  Table.ofFn (fun i =>
    ⟨some ⟨(s.table.accounts.get i).tenancy, (s.table.accounts.get i).status⟩, Four.ofFn (s.closePool band i)⟩)

/-- The own summary of a pool at a close (R8). -/
def State.ownSummary (s : State) (band : Band) (parts : Table 16 AccountPart) (p : PoolId) : OwnSummary :=
  let plant := s.snapshots .plant p band (fun _ => true)
  let supply := s.snapshots .supply p band (fun _ => true)
  let all := plant ++ supply ++ s.snapshots .consumer p band (fun _ => true)
  let members := allAccounts.filter (fun i => s.image.takesPart i p)
  { values :=
      { e := min ((plant.map (·.energy)).sum) Config.energyMax
        c := min ((supply.map (·.cost)).sum) Config.costMax
        u := min ((members.map (fun i => ((parts.get i).pools.get p).raw.getD 0)).sum) Config.energyMax
        m := min ((members.map (fun i => ((parts.get i).pools.get p).weighted.getD 0)).sum) Config.energyMax
        a := min ((members.map (fun i => (s.image.accounts.get i).area)).sum) Config.areaMax }
    estimated := all.any (·.estimated)
    tampered := all.any (·.tampered) }

/-- A pool part at the close (R7, steps 3, 6 and 7). -/
def PoolPart.close (station : Nat) (expected : List Nat) (own : OwnSummary) (x : PoolPart) : PoolPart :=
  let marked := x.contributors.map (fun e => { e with unexpected := !expected.contains e.station })
  let entry : Entry := ⟨station, own.values, own.estimated, own.tampered, false, false, false⟩
  (PoolPart.refresh
    { x with expected := expected, contributors := insertEntry entry marked, own := some own, sending := some .waiting }).evaluate

/-- The record as the close fills it, from the channels and the table before the close changes them (R7). -/
def State.closedRecord (s : State) (cause : CloseCause) (station : Option Nat) (r : Record) : Record :=
  let parts := s.closeAccounts r.band
  { r with
    cause := some cause
    causeStation := station
    gather := some s.image.gatherMs
    send := some (s.rank * s.image.staggerMs)
    accounts := parts
    pools := Four.ofFn (fun p =>
      if s.image.mask.has p then
        (r.pools.get p).close s.image.station (s.roster.expectedSet p) (s.ownSummary r.band parts p)
      else r.pools.get p)
    state := .gathering }

/-- A GATHERING record becomes PROVISIONAL with a COMPUTE job (R15, R16). R15 makes the gather time remaining absent at an early end;
R16 does not say what it holds once it has run out, and the model makes it absent there too (DESIGN CHOICE, log entry 12). -/
def finishGather (k : Nat) (s : State) : State :=
  appendJob .compute k (updateRecord k (fun r => { r with state := .provisional, gather := none }) s)

/-- A GATHERING record all of whose pools are COMPLETE goes on (R15). -/
def checkGather (k : Nat) (s : State) : State :=
  match findRecord k s with
  | some r => if r.state == .gathering && r.allComplete s.image.mask then finishGather k s else s
  | none => s

/-! ## The advance (R9, R12) -/

/-- A WAITING or OFFERED own summary becomes NOT_SENT (R12). -/
def PoolPart.unsent (x : PoolPart) : PoolPart :=
  { x with sending := match x.sending with
      | some .waiting | some .offered => some .notSent
      | y => y }

/-- An offer of a SUMMARY of record k. -/
def Offer.isOf (k : Nat) : Offer → Bool
  | .summary b => b.interval == k
  | .announce => false

/-- A record goes to SETTLING: its waiting summaries are not sent, and its SETTLE job is queued (R9, R12, R27). -/
def goToSettling (k : Nat) (s : State) : State :=
  let s1 := updateRecord k (fun r => { r with state := .settling, gather := none, pools := r.pools.map PoolPart.unsent }) s
  appendJob .settle k (s1.onLine (fun l => { l with offers := l.offers.filter (fun o => !o.isOf k) }))

/-- The records that are neither OPEN nor SETTLING, oldest first (R9). -/
def State.waitingRecords (s : State) : List Record :=
  s.ring.records.filter (fun r => r.state != .opened && r.state != .settling)

/-- The oldest of three records that are neither OPEN nor SETTLING goes to SETTLING (R9). -/
def advanceRing (s : State) : State :=
  match s.waitingRecords with
  | [r, _, _] =>
    goToSettling r.number (if r.state == .gathering then appendJob .compute r.number s else s)
  | _ => s

/-! ## Own summaries (R11, R12, R24) -/

/-- The SUMMARY of a record and pool, with the settled digest of three intervals before (R11, R24). -/
def State.summaryBody (s : State) (r : Record) (p : PoolId) (resend : Bool) : SummaryBody :=
  let own := ((r.pools.get p).own).getD ⟨Totals.zero, false, false⟩
  { interval := r.number
    pool := p
    values := own.values
    estimated := own.estimated
    tampered := own.tampered
    resend := resend
    digest := if r.number ≤ 3 then none else (s.settledEntry (r.number - 3)).map (fun e => e.digests.get p) }

def setSending (k : Nat) (p : PoolId) (x : Sending) (s : State) : State :=
  updateRecord k (Record.onPool p (fun y => { y with sending := some x })) s

/-- The send time of record r has run out for one pool (R11, R12): a WAITING summary is offered or, outside MEMBER, NOT_SENT; any other
sending state stays, a WITHDRAWN one too (DESIGN CHOICE, log entry 13). -/
def offerSummary (r : Record) (s : State) (p : PoolId) : State :=
  if (r.pools.get p).sending == some .waiting then
    if s.interval.membership == .member then
      if s.hasRoom .peer then setSending r.number p .queued (enqueue (.summary (s.summaryBody r p false)) s)
      else setSending r.number p .offered (listOffer (.summary (s.summaryBody r p false)) s)
    else setSending r.number p .notSent s
  else s

/-- The send time of one record has run out: the time becomes absent, which bars a second expiry (DESIGN CHOICE, log entry 12), and its
summaries are offered in ascending pool number (R11). -/
def sendRunsOut (s : State) (r : Record) : State :=
  s.image.nodePools.foldl (offerSummary r) (updateRecord r.number (fun x => { x with send := none }) s)

/-- The record has summaries due at once with those of a record k with ms of send time left, and is older (R11). -/
def Record.dueBefore (k ms : Nat) (r : Record) : Bool :=
  decide (r.number < k) && (match r.send with | some m => decide (m ≤ ms) | none => false)

/-- SEND_TIME_EXPIRY: the send time of record k runs out; a record that is due at once and older offers its frames first (R11). -/
def execSendTimeExpiry (k : Nat) (s : State) : Host.Outcome State Fault Refusal :=
  match s.following, findRecord k s with
  | true, some r =>
    match r.send with
    | some ms => .next ((s.ring.records.filter (Record.dueBefore k ms) ++ [r]).foldl sendRunsOut s)
    | none => .next s
  | _, _ => .next s

/-! ## The end of a gather (R16) -/

/-- The stations of a list as the 64-bit field of a RECALL (R217). -/
def stationBits (stations : List Nat) : BitVec 64 := stations.foldl (fun b n => b ||| (1#64 <<< n)) 0#64

/-- The expected stations without an entry (R16, step 1). -/
def PoolPart.missing (x : PoolPart) : List Nat := x.expected.filter (fun st => (x.entry st).isNone)

/-- One pool at the expiry of a gather (R16); the order of the pools is execGatherExpiry's. -/
def recallPool (k : Nat) (s : State) (p : PoolId) : State :=
  match findRecord k s with
  | none => s
  | some r =>
    if (r.pools.get p).complete || s.interval.membership != .member then s
    else if s.hasRoom .peer then
      updateRecord k (Record.onPool p (fun x => { x with recalled := true }))
        (enqueue (.recall k p (stationBits (r.pools.get p).missing)) s)
    else onRingCounters (fun c => { c with recallDropped := bump c.recallDropped }) (refuseOffer s)

/-- GATHER_EXPIRY: the gather time of record k runs out (R16). R16 does not order the pools; the model offers their RECALLs in ascending
pool number, so where the PEER class has room for some only, the lower numbers get it (DESIGN CHOICE, log entry 54). -/
def execGatherExpiry (k : Nat) (s : State) : Host.Outcome State Fault Refusal :=
  match s.following, findRecord k s with
  | true, some r =>
    if r.state == .gathering then .next (setPoolMode (finishGather k (s.image.nodePools.foldl (recallPool k) s))) else .next s
  | _, _ => .next s

/-! ## Intake (R18 to R22) -/

/-- The source is refused at intake (R19). -/
def State.refusedAtIntake (s : State) (station : Nat) : Bool :=
  match s.peer station with
  | some e => e.role == .reader || e.state == .quarantined || e.plan == .mismatch
  | none => false

/-- A summary repeats the entry exactly (R21). -/
def Entry.sameAs (e : Entry) (b : SummaryBody) : Bool :=
  e.values == b.values && e.estimated == b.estimated && e.tampered == b.tampered

/-- An entry gets CONFLICT (R21). -/
def PoolPart.markConflict (station : Nat) (x : PoolPart) : PoolPart :=
  { x with contributors := x.contributors.map (fun e => if e.station == station then { e with conflict := true } else e) }

/-- A summary from a station that already has an entry (R21). -/
def repeatedSummary (source : Nat) (e : Entry) (b : SummaryBody) (s : State) : State :=
  if e.sameAs b then onRingCounters (fun c => { c with sumDuplicate := bump c.sumDuplicate }) s
  else
    let s1 := updateRecord b.interval (Record.onPool b.pool (PoolPart.markConflict source))
      (onRingCounters (fun c => { c with sumConflict := bump c.sumConflict }) s)
    if e.conflict then s1 else raiseNotice .summaryConflict (source * 256 + b.pool.val) s1

/-- A pool part with a new peer entry in a record of the given state (R18, R20). R4 says that a list has at most 33 entries and not what
a further contributor does: the model adds it like any other, without a bound (DESIGN CHOICE, log entry 53). -/
def PoolPart.addPeer (st : RecordState) (source : Nat) (b : SummaryBody) (x : PoolPart) : PoolPart :=
  let e : Entry :=
    { station := source
      values := b.values
      estimated := b.estimated
      tampered := b.tampered
      late := st == .provisional
      unexpected := st != .opened && !x.expected.contains source
      conflict := false }
  let y := PoolPart.refresh { x with contributors := insertEntry e x.contributors }
  if st == .opened then y else y.evaluate

/-- A record after a new entry: in PROVISIONAL a COMPUTED state becomes STALE (R20). -/
def Record.addPeer (source : Nat) (b : SummaryBody) (r : Record) : Record :=
  { r with
    pools := r.pools.modify b.pool (PoolPart.addPeer r.state source b)
    compute := if r.state == .provisional && r.compute == .computed then .stale else r.compute }

/-- A summary from a station without an entry (R18, R20). -/
def newSummary (source : Nat) (r : Record) (b : SummaryBody) (s : State) : State :=
  let s1 := updateRecord b.interval (Record.addPeer source b) s
  if r.state == .provisional then requestRecompute b.interval s1 else checkGather b.interval s1

/-- Intake into a record that is OPEN, GATHERING or PROVISIONAL (R18 to R21). -/
def intakeInto (source : Nat) (b : SummaryBody) (r : Record) (s : State) : State :=
  if s.refusedAtIntake source then onRingCounters (fun c => { c with sumRefused := bump c.sumRefused }) s
  else
    let s1 := match (r.pools.get b.pool).entry source with
      | some e => repeatedSummary source e b s
      | none => newSummary source r b s
    handDigest b.interval b.pool source b.digest s1

/-- A summary is too late (R22). -/
def summaryTooLate (source : Nat) (b : SummaryBody) (s : State) : State :=
  handDigest b.interval b.pool source b.digest (onRingCounters (fun c => { c with sumTooLate := bump c.sumTooLate }) s)

/-! ## Recalls (R23, R24) -/

def countUnanswered (s : State) : State := onRingCounters (fun c => { c with recallUnanswered := bump c.recallUnanswered }) s

/-- A re-send is offered (R24). -/
def offerResend (r : Record) (p : PoolId) (s : State) : State :=
  if s.hasRoom .peer then
    updateRecord r.number (Record.onPool p (fun x => { x with resendQueued := true, resends := x.resends + 1 }))
      (enqueue (.summary (s.summaryBody r p true)) s)
  else onRingCounters (fun c => { c with resendDropped := bump c.resendDropped }) (refuseOffer s)

/-- The own summary of the pool is on its way (R23). -/
def PoolPart.onItsWay (x : PoolPart) : Bool :=
  x.sending == some .waiting || x.sending == some .offered || x.sending == some .queued

/-- A RECALL that names the node (R23). -/
def answerRecall (k : Nat) (p : PoolId) (s : State) : State :=
  if s.interval.membership != .member then countUnanswered s
  else match findRecord k s with
    | none => countUnanswered s
    | some r =>
      if r.state == .settling || r.state == .opened then countUnanswered s
      else if (r.pools.get p).onItsWay || (r.pools.get p).resendQueued then s
      else if 2 ≤ (r.pools.get p).resends then onRingCounters (fun c => { c with resendLimit := bump c.resendLimit }) s
      else offerResend r p s

/-- TAKE_RECALL: the ring takes the RECALL at the head of LATE. -/
def execTakeRecall (s : State) : Host.Outcome State Fault Refusal :=
  match s.live, s.rxHead .late with
  | true, some ⟨⟨_, .recall k p missing⟩, _, _, _⟩ =>
    let s1 := takeHead .late s
    .next (if missing.getLsbD s.image.station then answerRecall k p s1 else s1)
  | _, _ => .next s

/-! ## The rejoin drain (R27) -/

/-- A GATHERING record ends its gather without RECALL or COMPUTE (R27, step 1). -/
def Record.endGather (r : Record) : Record :=
  if r.state == .gathering then { r with state := .provisional, gather := none } else r

/-- If no record is SETTLING, the oldest non-OPEN record goes to SETTLING (R27, steps 2 and 3). -/
def settleNext (s : State) : State :=
  if s.ring.records.any (·.state == .settling) then s
  else match s.waitingRecords with
    | r :: _ => goToSettling r.number s
    | [] => s

/-- The ring begins to drain itself (R27, steps 1 and 2). -/
def beginDrain (s : State) : State :=
  settleNext (setPoolMode (s.onRing (fun g => { g with records := g.records.map Record.endGather })))

/-- DRAIN_SETTLE_NEXT: during a rejoin drain, with no record SETTLING, the next oldest non-OPEN record goes to SETTLING. -/
def execDrainSettleNext (s : State) : Host.Outcome State Fault Refusal :=
  if s.powered && s.interval.drain then .next (settleNext s) else .next s

end Sys2Proof.Machine
end

