-- ==== Sys2Proof/Machine/Interval.lean ====
section
/-! DEFINITION. The interval unit (chapter 5): taking, holding and merging closes, the drift monitor, adoption, founding and the
end of the drain; the commands OWN_EXPIRY, FOUNDING, TAKE_CLOSE, TAKE_SUMMARY, HELD_CLOSE_TAKEN and DRAIN_END. -/

namespace Sys2Proof.Machine

def onIntervalCounters (f : IntervalCounters → IntervalCounters) (s : State) : State :=
  s.onInterval (fun u => { u with counters := f u.counters })

/-- An expiry or frame meets the end of the interval numbers (R103). -/
def countNumberLimit (s : State) : State := onIntervalCounters (fun c => { c with numberLimit := bump c.numberLimit }) s

/-- The band of interval n from a source (R105, R113). -/
def Image.bandFor (img : Image) (n : Nat) : BandSource → Band
  | .schedule => img.scheduledBand n
  | .frame b => b

/-! ## Taking a close (R106) -/

/-- The OPEN record is renumbered if the close names a higher number (R6, R106 step 1). -/
def renumberOpen (c : Nat) (s : State) : State :=
  if s.interval.openNumber < c then updateRecord s.interval.openNumber (Record.renumber c) s else s

/-- The record c is filled from the snapshots, and the channels restart (R106, steps 2 and 3). -/
def closeRecord (c : Nat) (cause : CloseCause) (station : Option Nat) (s : State) : State :=
  match findRecord c s with
  | none => s
  | some r => checkGather c (updateRecord c (fun _ => s.closedRecord cause station r) (closeChannels r.band s))

/-- Interval n is opened and the ring advances (R106, step 5). -/
def openNext (n : Nat) (band : Band) (s : State) : State :=
  advanceRing ((openRecord n band false s).onInterval (fun u => { u with openNumber := n }))

/-- The own ANNOUNCE falls due at a close whose new number n falls to the node (R128). -/
def announceAtClose (n : Nat) (s : State) : State :=
  if n % 16 = s.image.station % 16 then announceDue s else s

/-- A close of interval c in the steps of R106, up to the own CLOSE of step 7. -/
def takeCloseOf (c : Nat) (cause : CloseCause) (station : Option Nat) (source : BandSource) (s : State) : State :=
  let k := s.interval.openNumber
  let band := s.image.bandFor (c + 1) source
  let s1 := openNext (c + 1) band (applyCuts c (closeRecord c cause station (renumberOpen c s)))
  let s2 := announceAtClose (c + 1) (countBoundary (ageRoster c k s1))
  setPoolMode (onIntervalCounters (fun n => { n with closesTaken := bump n.closesTaken }) s2)

/-- A jump from k to j is counted and reported (R112). -/
def reportJump (k j : Nat) (s : State) : State :=
  raiseNoticeAt .numberingJump (min (j - k) 65535) j (onIntervalCounters (fun c => { c with jumps := bump c.jumps }) s)

/-- The close of request q taken now: a plain close, or a jump where q names a number above the open one (R105, R112, R115). -/
def takeRequest (q : HeldClose) (s : State) : State :=
  let k := s.interval.openNumber
  if k < q.interval then reportJump k q.interval (takeCloseOf q.interval .jump q.station q.source s)
  else takeCloseOf q.interval q.cause q.station q.source s

/-! ## Holding a close (R113, R114) -/

/-- A request merged into the held close (R114). -/
def HeldClose.merge (h q : HeldClose) : HeldClose := { q with interval := max h.interval q.interval }

/-- A request becomes the held close or merges into it; the timer is loaded, a queued own CLOSE withdrawn, and the count period
ends (R102, R110, R113, R114, R131). -/
def holdClose (q : HeldClose) (s : State) : State :=
  let s1 := s.onInterval (fun u =>
    match u.held with
    | none => { u with held := some q, counters := { u.counters with closesHeld := bump u.counters.closesHeld } }
    | some h =>
      { u with held := some (h.merge q), counters := { u.counters with heldMerged := bump u.counters.heldMerged } })
  countBoundary (loadTimer (withdrawOwnClose s1))

/-- A request can be taken at once (R105). -/
def State.takesNow (s : State) : Bool := s.hasEmptySlot && s.interval.held.isNone

/-! ## The drift monitor (R116) -/

/-- The monitor is cleared (R116). -/
def clearDrift (s : State) : State := s.onInterval (fun u => { u with driftRun := 0, driftMark := false })

/-- The interval at raise of CLOCK_DEVIATION at a foreign close of k (log entry 16). -/
def deviationInterval (k : Nat) : Nat := if Config.deviationRaisedBeforeClose then k else k + 1

/-- A foreign close of k taken at once finds a deviation (R116). -/
def deviate (station k : Nat) (s : State) : State :=
  let s1 := s.onInterval (fun u =>
    { u with
      driftRun := min (u.driftRun + 1) 3
      counters := { u.counters with deviations := bump u.counters.deviations } })
  if s1.interval.driftRun = 3 && !s1.interval.driftMark then
    raiseNoticeAt .clockDeviation station (deviationInterval k) (s1.onInterval (fun u => { u with driftMark := true }))
  else s1

/-- The monitor is consulted at a foreign close of k with the timer as it stands before the reload (R116). -/
def consultDrift (station k : Nat) (s : State) : State :=
  match s.interval.timer with
  | .running ms => if s.image.lengthMs * 2 < ms * 100 then deviate station k s else clearDrift s
  | _ => s

/-! ## OWN_EXPIRY (R107) -/

/-- The own CLOSE of k is queued and the timer waits for the line (R107). -/
def queueOwnClose (k : Nat) (band : Band) (s : State) : State :=
  if s.hasRoom .close then (enqueue (.close k band) s).onInterval (fun u => { u with timer := .waitingLine }) else loadTimer s

/-- The own expiry of open interval k (R103, R107). -/
def ownExpiry (s : State) : State :=
  let k := s.interval.openNumber
  if k = maxInterval then loadTimer (countNumberLimit s)
  else if s.takesNow then
    let s1 := takeRequest ⟨k, .own, none, .schedule⟩ (clearDrift s)
    if s1.interval.membership == .member then queueOwnClose k (s.image.scheduledBand (k + 1)) s1 else loadTimer s1
  else holdClose ⟨k, .own, none, .schedule⟩ s

/-- OWN_EXPIRY: the interval timer runs out; it can only while it is RUNNING. -/
def execOwnExpiry (s : State) : Host.Outcome State Fault Refusal :=
  match s.following, s.interval.timer with
  | true, .running _ => .next (ownExpiry s)
  | _, _ => .next s

/-! ## Adoption and founding (R118, R119) -/

/-- The node becomes MEMBER with n as its first OPEN record (R118, R119). The spec does not say whether the count-period boundary
comes before or after n is open: the model evaluates it after, so a NOISY_PEER raised there carries n (DESIGN CHOICE, log entry 51). Nor
does it say what the listen time remaining is from here on: the model holds none (DESIGN CHOICE, log entry 59). -/
def enterMember (n : Nat) (band : Band) (s : State) : State :=
  let s1 := loadTimer ((openRecord n band true s).onInterval (fun u =>
    { u with membership := .member, openNumber := n, listen := none }))
  announceDue (countBoundary s1)

/-- A CLOSE(j) or SUMMARY(j) taken in LISTENING (R103, R118, R220). That the digest of a SUMMARY(4294967295) discarded here is not
handed to the cross-check unit is the model's choice (R174; DESIGN CHOICE, log entry 61). -/
def adopt (j : Nat) (source : BandSource) (s : State) : State :=
  if j = 0 then s
  else if j = maxInterval then countNumberLimit s
  else
    enterMember (j + 1) (s.image.bandFor (j + 1) source)
      (onIntervalCounters (fun c => { c with adoptions := bump c.adoptions }) s)

/-- FOUNDING: the listen time runs out without adoption. -/
def execFounding (s : State) : Host.Outcome State Fault Refusal :=
  if s.powered && s.interval.membership == .listening then
    .next (enterMember s.image.founding (s.image.scheduledBand s.image.founding)
      (onIntervalCounters (fun c => { c with foundings := bump c.foundings }) s))
  else .next s

/-! ## TAKE_CLOSE (R109) -/

/-- The node's own CLOSE(j) is in the transmit queue (R109). -/
def State.ownCloseOf (s : State) (j : Nat) : Bool :=
  s.line.queue.any (fun f => match f.body with | .close k _ => k == j | _ => false)

/-- The band of the OPEN record is replaced (R104, R110). -/
def replaceOpenBand (band : Band) (s : State) : State := updateRecord s.interval.openNumber (fun r => { r with band := band }) s

/-- A close by a frame taken at once: a queued own CLOSE is withdrawn, the close taken, the timer loaded (R109 to R112). -/
def frameClose (q : HeldClose) (s : State) : State := loadTimer (takeRequest q (withdrawOwnClose s))

/-- A CLOSE(j) in MEMBER or OBSERVER (R109). -/
def foreignClose (j : Nat) (band : Band) (source : Nat) (s : State) : State :=
  let k := s.interval.openNumber
  let q : HeldClose := ⟨j, .foreign, some source, .frame band⟩
  if j = maxInterval then countNumberLimit s
  else if s.ownCloseOf j then replaceOpenBand band (withdrawOwnClose s)
  else if j = k then if s.takesNow then frameClose q (consultDrift source k s) else holdClose q s
  else if k < j then if s.takesNow then frameClose q s else holdClose q s
  else if (findRecord j s).isSome then onIntervalCounters (fun c => { c with closeDuplicate := bump c.closeDuplicate }) s
  else onIntervalCounters (fun c => { c with closeBehind := bump c.closeBehind }) s

/-- TAKE_CLOSE: the interval unit takes the CLOSE at the head of CURRENT. -/
def execTakeClose (s : State) : Host.Outcome State Fault Refusal :=
  match s.live, s.rxHead .current with
  | true, some ⟨⟨source, .close j band⟩, _, _, _⟩ =>
    let s1 := takeHead .current s
    .next (if s1.interval.membership == .listening then adopt j (.frame band) s1 else foreignClose j band source s1)
  | _, _ => .next s

/-! ## TAKE_SUMMARY (R17) -/

/-- Intake into the record of the summary's interval as it now stands (R17). -/
def intake (source : Nat) (b : SummaryBody) (s : State) : State :=
  match findRecord b.interval s with
  | some r => setPoolMode (intakeInto source b r s)
  | none => s

/-- A SUMMARY of the OPEN record with no close held: its close is taken or becomes the held close, and is counted here (R17, R103,
R111; log entry 26). Whether the digest of a SUMMARY(4294967295) that R103 discards is handed to the cross-check unit, R174 does not
say: it is not (DESIGN CHOICE, log entry 61). -/
def implicitClose (source : Nat) (b : SummaryBody) (s : State) : State :=
  let q : HeldClose := ⟨b.interval, .implicit, some source, .schedule⟩
  if b.interval = maxInterval then countNumberLimit s
  else
    intake source b (onIntervalCounters (fun c => { c with implicitCloses := bump c.implicitCloses })
      (if s.takesNow then frameClose q s else holdClose q s))

/-- A SUMMARY above the OPEN record (R17, R103, R112). As in implicitClose, a SUMMARY(4294967295) that R103 discards hands no digest
(R174; DESIGN CHOICE, log entry 61). -/
def summaryJump (source : Nat) (b : SummaryBody) (s : State) : State :=
  let q : HeldClose := ⟨b.interval, .implicit, some source, .schedule⟩
  if b.interval = maxInterval then countNumberLimit s
  else if s.takesNow then intake source b (frameClose q s)
  else onRingCounters (fun c => { c with sumUnplaced := bump c.sumUnplaced }) (holdClose q s)

/-- A SUMMARY in MEMBER or OBSERVER placed against the ring (R17). -/
def placeSummary (source : Nat) (b : SummaryBody) (s : State) : State :=
  match findRecord b.interval s with
  | some r =>
    match r.state with
    | .settling => summaryTooLate source b s
    | .opened => if s.interval.held.isSome then intake source b s else implicitClose source b s
    | _ => intake source b s
  | none => if s.interval.openNumber < b.interval then summaryJump source b s else summaryTooLate source b s

/-- The receive pool class of a SUMMARY's class. -/
def rxClassOf : SummaryClass → RxClass
  | .current => .current
  | .late => .late

/-- TAKE_SUMMARY: the ring takes the SUMMARY at the head of a class. -/
def execTakeSummary (cls : SummaryClass) (s : State) : Host.Outcome State Fault Refusal :=
  match s.live, s.rxHead (rxClassOf cls) with
  | true, some ⟨⟨source, .summary b⟩, _, _, _⟩ =>
    let s1 := takeHead (rxClassOf cls) s
    .next (if s1.interval.membership == .listening then adopt b.interval .schedule s1 else placeSummary source b s1)
  | _, _ => .next s

/-! ## HELD_CLOSE_TAKEN (R115) -/

/-- HELD_CLOSE_TAKEN: an empty slot is reported and the held close is taken; no CLOSE is queued and the timer runs on. -/
def execHeldCloseTaken (s : State) : Host.Outcome State Fault Refusal :=
  match s.following && s.hasEmptySlot, s.interval.held with
  | true, some q => .next (takeRequest q (s.onInterval (fun u => { u with held := none })))
  | _, _ => .next s

/-! ## DRAIN_END (R120) -/

/-- The ring is empty but for the OPEN record (R27). -/
def State.drained (s : State) : Bool := s.ring.records.all (·.state == .opened)

/-- A count period starts at entry to LISTENING: the frames of the period are none yet (R131, log entry 47). -/
def startPeriod (s : State) : State :=
  s.onRoster (fun r => { r with entries := r.entries.map (fun e => { e with frames := 0 }) })

/-- The end of the drain in one step (R27 step 4, R117, R120, R131, R170). -/
def endDrain (s : State) : State :=
  let s1 := (s.onRing (fun r => { r with records := [] })).onInterval (fun u =>
    { u with
      membership := .listening
      openNumber := 0
      timer := .stopped
      listen := some (s.image.lengthMs + s.image.gatherMs)
      held := none
      drain := false })
  purgeLate (startPeriod (clearDrift s1))

/-- DRAIN_END: the last drained record has left the ring. -/
def execDrainEnd (s : State) : Host.Outcome State Fault Refusal :=
  if s.powered && s.interval.drain && s.drained then .next (endDrain s) else .next s

end Sys2Proof.Machine
end

