-- ==== Sys2Proof/Machine/Line.lean ====
section
/-! DEFINITION. The share line (chapter 7): the monitor, the transmitter, the receiver and the offers; the commands LINE_IDLE,
LINE_STUCK, START_BIT, FRAME_START, CONTENTION_LOST, COLLISION_ERROR, FRAME_ENDED, OFFER_LIST_ENTRY, CONDITION_OFFER, REPLY_OFFER,
FRAME_RECEIVED and RECEPTION_ERROR. -/

namespace Sys2Proof.Machine

/-- The monitor enters a state with its two counts (R141). -/
def setMonitor (m : Monitor) (recessive dominant : Nat) (s : State) : State :=
  s.onLine (fun l => { l with monitor := m, recessive := recessive, dominant := dominant })

/-! ## The monitor (R141, R146) -/

/-- LINE_IDLE: eleven recessive bit times in a row in GAP or STUCK. -/
def execLineIdle (s : State) : Host.Outcome State Fault Refusal :=
  if s.live && (s.line.monitor == .gap || s.line.monitor == .stuck) then .next (noteHeldStart (setMonitor .idle 11 0 s)) else .next s

/-- The monitor enters STUCK (R146). -/
def enterStuck (s : State) : State :=
  let s1 := onLinkCounters (fun c => { c with stuckEpisodes := bump c.stuckEpisodes }) (setMonitor .stuck 0 65 s)
  if s1.line.stuckMark then s1
  else raiseFault .lineStuck s1.line.counters.stuckEpisodes (s1.onLine (fun l => { l with stuckMark := true }))

/-- LINE_STUCK: a dominant run exceeds 64 bit times. A frame that was SENDING has already met a collision error (R146). -/
def execLineStuck (s : State) : Host.Outcome State Fault Refusal :=
  if s.live && s.line.monitor != .stuck && s.sendingFrame.isNone then .next (enterStuck s) else .next s

/-- START_BIT: a dominant bit in IDLE is a start bit. -/
def execStartBit (s : State) : Host.Outcome State Fault Refusal :=
  if s.live && s.line.monitor == .idle then .next (setMonitor .frame 0 1 s) else .next s

/-! ## The transmitter (R142 to R145) -/

/-- The conditions of a start (R142). -/
def State.mayStart (s : State) : Bool :=
  s.live && s.line.monitor == .idle && !s.line.queue.isEmpty && !s.control.supplyWarn && s.sendingFrame.isNone

/-- The head of the queue goes on the line (R142). -/
def startFrame (s : State) : State :=
  setMonitor .frame 0 1 (s.onLine (fun l =>
    { l with queue := match l.queue with | [] => [] | f :: rest => { f with sending := true } :: rest }))

/-- FRAME_START: the transmitter starts the head of the queue. -/
def execFrameStart (s : State) : Host.Outcome State Fault Refusal :=
  if s.mayStart then .next (startFrame s) else .next s

/-- Every frame is QUEUED again, and a frame that was SENDING has this many attempts more (R143, R144). -/
def releaseSending (more : Nat) (q : List TxFrame) : List TxFrame :=
  q.map (fun f => if f.sending then { f with sending := false, attempts := f.attempts + more } else f)

/-- The SENDING frame has lost contention; reception of the winner's frame goes on (R143). -/
def loseContention (s : State) : State :=
  onLinkCounters (fun c => { c with txContentionLost := bump c.txContentionLost })
    (s.onLine (fun l => { l with queue := releaseSending 0 l.queue }))

/-- CONTENTION_LOST: dominant is read where recessive was sent in the precedence field. -/
def execContentionLost (s : State) : Host.Outcome State Fault Refusal :=
  if s.live && s.sendingFrame.isSome then .next (loseContention s) else .next s

/-- The SENDING frame leaves the queue. -/
def dropSending (s : State) : State := s.onLine (fun l => { l with queue := l.queue.filter (fun f => !f.sending) })

/-- The request in flight after one of its frames has left the queue: it ends when all frames are out or the reply is cut short
and none is left (R202). -/
def Serving.afterFrame (v : Serving) : Option Serving :=
  if v.inQueue = 0 && (v.cutShort || decide (v.frames.length ≤ v.next)) then none else some { v with waitsForRoom := false }

/-- The responder is told that a REPLY frame ended on the line (R202). -/
def replyEnded (s : State) : State :=
  s.onResp (fun r =>
    { r with
      serving := r.serving.bind (fun v => Serving.afterFrame { v with inQueue := v.inQueue - 1 })
      counters := { r.counters with replyFrames := bump r.counters.replyFrames } })

/-- The responder is told that a REPLY frame was abandoned (R202). -/
def replyAbandoned (s : State) : State :=
  s.onResp (fun r =>
    { r with
      serving := r.serving.bind (fun v => Serving.afterFrame { v with inQueue := v.inQueue - 1, cutShort := true })
      counters :=
        match r.serving with
        | some v => if v.cutShort then r.counters else { r.counters with repliesCut := bump r.counters.repliesCut }
        | none => r.counters })

def clearResend (b : SummaryBody) (s : State) : State :=
  updateRecord b.interval (Record.onPool b.pool (fun x => { x with resendQueued := false })) s

/-- The producer is told that its frame ended on the line (R145). -/
def tellEnded (body : FrameBody) (s : State) : State :=
  match body with
  | .close _ _ => onIntervalCounters (fun c => { c with closesSent := bump c.closesSent }) (loadTimer s)
  | .condition p =>
    setCondSending (conditionSeq p) .sent (onCondCounters (fun c => { c with conditionsSent := bump c.conditionsSent }) s)
  | .summary b => if b.resend then clearResend b s else setSending b.interval b.pool .sent s
  | .announce _ _ _ _ _ _ => onRosterCounters (fun c => { c with announcesSent := bump c.announcesSent }) (setAnnounce .none s)
  | .reply _ => replyEnded s
  | .recall _ _ _ | .request _ => s

/-- The producer is told that its frame was abandoned (R145). -/
def tellAbandoned (body : FrameBody) (s : State) : State :=
  match body with
  | .close _ _ => loadTimer s
  | .condition p => setCondSending (conditionSeq p) .unsent s
  | .summary b => if b.resend then clearResend b s else setSending b.interval b.pool .notSent s
  | .announce _ _ _ _ _ _ => setAnnounce .none s
  | .reply _ => replyAbandoned s
  | .recall _ _ _ | .request _ => s

/-- The interval that a frame concerns; for ANNOUNCE and CONDITION it is log entry 15. -/
def FrameBody.concerns : FrameBody → Option Nat
  | .close k _ => some k
  | .recall k _ _ => some k
  | .summary b => some b.interval
  | .announce _ _ _ _ n _ => if Config.statusFrameConcernsInterval then some n else none
  | .condition p => if Config.statusFrameConcernsInterval then some (fieldAt p 4 4) else none
  | .request _ | .reply _ => none

/-- The parameter of TX_ABANDON (R144). -/
def FrameBody.abandonParam (b : FrameBody) : Nat :=
  b.kind * 256 + (match b.concerns with | some k => k % 256 | none => 0)

def FrameBody.isCondition : FrameBody → Bool
  | .condition _ => true
  | _ => false

/-- A frame is abandoned after four attempts (R144, R145). -/
def abandonFrame (body : FrameBody) (s : State) : State :=
  let s1 := tellAbandoned body (onLinkCounters (fun c => { c with txAbandoned := bump c.txAbandoned }) (dropSending s))
  if body.isCondition then s1 else raiseNotice .txAbandon body.abandonParam s1

/-- The SENDING frame meets a collision error (R144); cut off by its abort mark, it is discarded by the node's own receiver too,
which assembles it like any other (R147, checks 1 and 3). -/
def collide (f : TxFrame) (s : State) : State :=
  let s1 := onLinkCounters (fun c => { c with txCollisions := bump c.txCollisions, rxBadForm := bump c.rxBadForm })
    (setMonitor .gap 0 0 s)
  if 4 ≤ f.attempts + 1 then abandonFrame f.body s1
  else s1.onLine (fun l => { l with queue := releaseSending 1 l.queue })

/-- COLLISION_ERROR: a bit is read back different from the bit sent. -/
def execCollisionError (s : State) : Host.Outcome State Fault Refusal :=
  match s.live, s.sendingFrame with
  | true, some f => .next (collide f s)
  | _, _ => .next s

/-- The SENDING frame has ended on the line (R145). The node's own receiver has assembled it like any other: it counts in
RX_FRAMES and is not handed on (R147). -/
def endFrame (f : TxFrame) (s : State) : State :=
  tellEnded f.body (onLinkCounters (fun c =>
    { c with txFrames := bump c.txFrames, rxFrames := bump c.rxFrames })
    (dropSending (setMonitor .gap 0 0 s)))

/-- FRAME_ENDED: the second end bit of the own frame is read back recessive. -/
def execFrameEnded (s : State) : Host.Outcome State Fault Refusal :=
  match s.live, s.sendingFrame with
  | true, some f => .next (endFrame f s)
  | _, _ => .next s

/-! ## Offers (R151, R191, R202) -/

/-- The oldest entry of the offer list enters the queue and its producer is told (R151). -/
def admitOffer (o : Offer) (s : State) : State :=
  match o with
  | .summary b => setSending b.interval b.pool .queued (enqueue (.summary b) s)
  | .announce => setAnnounce .queued (enqueue s.announceBody s)

/-- OFFER_LIST_ENTRY: the PEER class has room and the oldest entry of the offer list enters. -/
def execOfferListEntry (s : State) : Host.Outcome State Fault Refusal :=
  match s.live && s.hasRoom .peer, s.line.offers with
  | true, o :: rest => .next (admitOffer o (s.onLine (fun l => { l with offers := rest })))
  | _, _ => .next s

/-- A condition enters the queue (R191). -/
def offerCondition (c : Condition) (compound : Bool) (s : State) : State :=
  setCondSending c.seq .queued (enqueue (.condition (conditionBytes c compound s.interval.membership.code)) s)

/-- CONDITION_OFFER: the condition unit offers its first UNSENT condition. R191 makes an offer only while the class has room, where
R150's table has an offer refused and counted in TX_REFUSED when it is full: the model follows R191, so a raise that finds the class
full makes no offer and counts nothing (DESIGN CHOICE, log entry 58). -/
def execConditionOffer (s : State) : Host.Outcome State Fault Refusal :=
  match s.live && s.hasRoom .condition, s.firstUnsent with
  | true, some (c, compound) => .next (offerCondition c compound s)
  | _, _ => .next s

/-- The next frame of the reply enters the queue (R202). -/
def queueReply (v : Serving) (payload : List Byte) (s : State) : State :=
  (enqueue (.reply payload) s).onResp (fun r => { r with serving := some { v with next := v.next + 1, inQueue := v.inQueue + 1 } })

/-- An offer that finds the REPLY class full waits for the next report of room (R150, R202). -/
def replyWaits (v : Serving) (s : State) : State :=
  (refuseOffer s).onResp (fun r =>
    { r with
      serving := some { v with waitsForRoom := true }
      counters := { r.counters with replyWaits := bump r.counters.replyWaits } })

/-- The offer of the reply's next frame (R202). -/
def offerReply (v : Serving) (s : State) : State :=
  match v.cutShort || v.waitsForRoom, v.frames[v.next]? with
  | false, some payload => if s.hasRoom .reply then queueReply v payload s else replyWaits v s
  | _, _ => s

/-- REPLY_OFFER: the responder offers the next frame of its reply. -/
def execReplyOffer (s : State) : Host.Outcome State Fault Refusal :=
  match s.live, s.resp.serving with
  | true, some v => .next (offerReply v s)
  | _, _ => .next s

/-! ## The receiver (R147, R148) -/

def LinkCounters.countRx (c : LinkCounters) : RxFault → LinkCounters
  | .badForm => { c with rxBadForm := bump c.rxBadForm }
  | .badLength => { c with rxBadLength := bump c.rxBadLength }
  | .badCheck => { c with rxBadCheck := bump c.rxBadCheck }
  | .badKind => { c with rxBadKind := bump c.rxBadKind }
  | .badSource => { c with rxBadSource := bump c.rxBadSource }

/-- A frame is being received and not sent (R147). -/
def State.receiving (s : State) : Bool := s.live && s.line.monitor == .frame && s.sendingFrame.isNone

/-- A valid frame that carries the node's own number (R148). -/
def ownSource (f : RxFrame) (s : State) : State :=
  let s1 := onLinkCounters (fun c => { c with rxOwnSource := bump c.rxOwnSource }) s
  if s1.line.dupMark then s1
  else raiseFault .duplicateStation f.body.kind (s1.onLine (fun l => { l with dupMark := true }))

/-- A valid frame is handed on (R147, R148). -/
def handOn (f : RxFrame) (s : State) : State :=
  let s1 := onLinkCounters (fun c => { c with rxFrames := bump c.rxFrames }) s
  if f.source = s1.image.station then ownSource f s1 else acceptFrame f s1

/-- FRAME_RECEIVED: a frame's end is received and judged. -/
def execFrameReceived (bits : List Bool) (s : State) : Host.Outcome State Fault Refusal :=
  if s.receiving then
    match receive bits with
    | .error e => .next (onLinkCounters (fun c => c.countRx e) (setMonitor .gap 0 0 s))
    | .ok f => .next (handOn f (setMonitor .gap 0 0 s))
  else .next s

/-- The counter of a check that fails in the middle of a frame (R147). -/
def midFrameFault : MidFrameError → RxFault
  | .fillViolation => .badForm
  | .lengthOutOfRange => .badLength

/-- RECEPTION_ERROR: a check fails in the middle of a frame. -/
def execReceptionError (e : MidFrameError) (s : State) : Host.Outcome State Fault Refusal :=
  if s.receiving then .next (onLinkCounters (fun c => c.countRx (midFrameFault e)) (setMonitor .gap 0 0 s)) else .next s

end Sys2Proof.Machine
end

