-- ==== Sys2Proof/Machine/Responder.lean ====
section
/-! DEFINITION. The service responder (chapter 11): the take of a request, permission, the field check, the commands and the
copies laid out as reply frames (R219); one command of the block for each kind of request. -/

namespace Sys2Proof.Machine

/-! ## The take (R198, R199, R201) -/

/-- The request at the head of SERVICE, while the responder is IDLE (R169, R198). -/
def State.requestAtHead (s : State) : Option (RxEntry × List Byte) :=
  if s.live && s.resp.serving.isNone then
    match s.rxHead .service with
    | some e => match e.frame.body with
      | .request p => some (e, p)
      | _ => none
    | none => none
  else none

/-- The request leaves the pool and is counted (R198). -/
def beginRequest (s : State) : State :=
  (takeHead .service s).onResp (fun r => { r with counters := { r.counters with requestsTaken := bump r.counters.requestsTaken } })

/-- The requester is permitted (R199). -/
def State.permitted (s : State) (e : RxEntry) : Bool :=
  !e.notAdmitted && (match s.peer e.frame.source with | some x => x.role == .reader | none => false)

/-- What a handler answers: status, reply value, the contents of the line frames, and the state it leaves. -/
structure Answer where
  status : Status
  value : Nat
  lines : List (List Byte)
  state : State

/-- An answer without line frames. -/
def Answer.plain (status : Status) (value : Nat) (s : State) : Answer := ⟨status, value, [], s⟩

/-- The query kind of the header: that of a QUERY, 0 for a command (R219), and 0 for a QUERY whose payload ends before that byte
(DESIGN CHOICE, log entry 33). -/
def headerQueryKind (p : List Byte) : Byte := if fieldAt p 2 1 = 1 then BitVec.ofNat 8 (fieldAt p 3 1) else 0#8

/-- The header and line frames of a reply (R201, R219). -/
def replyFrames (requester : Nat) (p : List Byte) (a : Answer) : List (List Byte) :=
  let front (i : Nat) : List Byte := beBytes 1 requester ++ beBytes 1 (fieldAt p 1 1) ++ beBytes 1 i
  (front 0 ++ beBytes 1 (fieldAt p 2 1) ++ [headerQueryKind p] ++ beBytes 1 a.status.code ++ beBytes 1 a.lines.length
      ++ beBytes 4 a.value)
    :: a.lines.zipIdx.map (fun x => front (x.2 + 1) ++ x.1)

/-- The responder is SERVING with this reply (R198). -/
def serve (requester : Nat) (p : List Byte) (a : Answer) : State :=
  a.state.onResp (fun r =>
    { r with
      serving := some
        { requester := requester
          tag := BitVec.ofNat 8 (fieldAt p 1 1)
          subKind := BitVec.ofNat 8 (fieldAt p 2 1)
          queryKind := headerQueryKind p
          status := a.status
          value := a.value
          frames := replyFrames requester p a
          next := 0
          inQueue := 0
          cutShort := false
          waitsForRoom := false } })

/-- The take in one step: permission, then the handler (R198 to R201, R206). -/
def answerRequest (e : RxEntry) (p : List Byte) (handler : State → Answer) (s : State) : State :=
  let s1 := beginRequest s
  if s1.permitted e then serve e.frame.source p (handler s1)
  else
    serve e.frame.source p (Answer.plain .notPermitted 0
      (s1.onResp (fun r => { r with counters := { r.counters with requestsRefused := bump r.counters.requestsRefused } })))

/-! ## Lines of a reply (R219) -/

/-- A list in pieces of n; fuel bounds the pieces. -/
def pieces {α : Type} (n : Nat) : Nat → List α → List (List α)
  | 0, _ => []
  | _ + 1, [] => []
  | fuel + 1, x :: rest => ((x :: rest).take n) :: pieces n fuel ((x :: rest).drop n)

/-- Counters, 2 bytes each. -/
def counterBytes (l : List Nat) : List Byte := l.flatMap (beBytes 2)

/-- A time in seconds; whether a part second counts is log entry 11. -/
def seconds (ms : Nat) : Nat := if Config.secondsRoundUp then (ms + 999) / 1000 else ms / 1000

def allBands : List Band := [0, 1, 2, 3]

/-- One figure line (R203, R219). -/
def figureLine (p : PoolId) (band : Band) (f : Figure) (prov : Nat × Nat) (closing : Bool) : List Byte :=
  beBytes 1 (p.val * 4 + band.val) ++ beBytes 5 f.energy ++ beBytes 6 f.cost ++ beBytes 5 prov.1 ++ beBytes 6 prov.2
    ++ beBytes 2 f.estimated ++ (if closing then beBytes 2 f.tampered else [])

/-- The figure lines of a target, ascending pool and band (R203). -/
def State.figureLines (s : State) (i : AccountId) (tenancy : Nat) (x : Settled) (closing : Bool) : List (List Byte) :=
  (s.image.accounts.get i).mask.pools.flatMap (fun p => allBands.map (fun band =>
    figureLine p band ((x.figures.get p).get band) (s.provisional i tenancy x.last p band) closing))

/-- Slot state bits of the account line (R219). -/
def slotCode : Option Statement → Nat
  | none => 0
  | some st => if st.final then 2 else 1

/-- The account line (R57, R203, R219). -/
def State.accountLine (s : State) (i : AccountId) : List Byte :=
  let a := s.table.accounts.get i
  let pendingBits := match a.pendingCut with | none => 0 | some st => 2 + 4 * st.code
  beBytes 1 i.val ++ beBytes 2 (s.image.accounts.get i).unit ++ beBytes 2 a.tenancy
    ++ beBytes 1 (a.status.code + pendingBits + flagBit 3 a.damaged + 16 * slotCode (s.table.slots.get i))
    ++ beBytes 4 a.settled.last

def State.statementLines (s : State) (i : AccountId) : List (List Byte) :=
  let a := s.table.accounts.get i
  s.accountLine i :: s.figureLines i a.tenancy a.settled false

/-- The statement line (R203, R219). -/
def statementLine (i : AccountId) (st : Statement) : List Byte :=
  beBytes 1 i.val ++ beBytes 2 st.unit ++ beBytes 2 st.tenancy
    ++ beBytes 1 (st.oldStatus.code + 2 * st.newStatus.code + flagBit 2 st.final + flagBit 3 st.incomplete)
    ++ beBytes 4 st.cut ++ beBytes 4 st.settled.last

def State.closingLines (s : State) (i : AccountId) (st : Statement) : List (List Byte) :=
  statementLine i st :: s.figureLines i st.tenancy st.settled true

def computeCode : ComputeState → Nat
  | .none => 0
  | .computed => 1
  | .stale => 2

/-- The record line of a POOL reply (R204, R219). -/
def viewLine (v : SettledView) (p : PoolId) : List Byte :=
  beBytes 4 v.number
    ++ beBytes 1 (v.band.val + 4 * CloseCause.code v.cause + flagBit 5 v.renumbered + flagBit 6 v.partialMark
        + flagBit 7 v.unallocated)
    ++ beBytes 1 (v.causeStation.getD 0) ++ beBytes 1 (computeCode v.compute) ++ beBytes 1 p.val

def totalsLine (x : ViewPool) : List Byte :=
  beBytes 5 x.totals.e ++ beBytes 6 x.totals.c ++ beBytes 5 x.totals.u ++ beBytes 5 x.totals.m ++ beBytes 4 x.totals.a
    ++ beBytes 1 (flagBit 0 x.complete + flagBit 1 x.recalled + flagBit 2 x.estimated + flagBit 3 x.tampered
        + flagBit 4 x.orphan + flagBit 5 x.imbalance)
    ++ beBytes 1 x.contributors.length

def contributorBytes (e : Entry) : List Byte :=
  beBytes 2 (e.station * 1024 + flagBit 4 e.estimated + flagBit 3 e.tampered + flagBit 2 e.late + flagBit 1 e.unexpected
    + flagBit 0 e.conflict)

/-- The lines of a POOL reply, up to 14 contributors a line (R204, R219). -/
def poolLines (v : SettledView) (p : PoolId) : List (List Byte) :=
  let x := v.pools.get p
  viewLine v p :: totalsLine x
    :: (pieces 14 x.contributors.length x.contributors).map (fun es => es.flatMap contributorBytes)

def announceCode : AnnounceSending → Nat
  | .none => 0
  | .waiting => 1
  | .queued => 2

def peerStateCode : PeerState → Nat
  | .active => 0
  | .silent => 1
  | .quarantined => 2

def planCode : PlanState → Nat
  | .unknown => 0
  | .isMatch => 1
  | .mismatch => 2

/-- A roster entry line, 15 bytes (R137, R219). -/
def peerLine (e : Peer) : List Byte :=
  beBytes 1 e.station
    ++ beBytes 1 (flagBit 7 (e.role == .reader) + flagBit 6 e.announcedInterval.isSome + 16 * peerStateCode e.state
        + planCode e.plan)
    ++ beBytes 1 e.mask.toNat ++ beBytes 1 e.missed ++ beBytes 1 e.frames ++ beBytes 1 e.noisy ++ beBytes 4 e.lastHeard
    ++ beBytes 4 (e.announcedInterval.getD 0)
    ++ beBytes 1 (match e.announcedMembership with | some m => m.code | none => 255)

def State.rosterLines (s : State) : List (List Byte) :=
  (beBytes 1 s.roster.entries.length ++ beBytes 4 s.roster.planDigest.toNat ++ beBytes 1 (announceCode s.roster.announce)
      ++ beBytes 1 s.roster.fullMark.toNat ++ beBytes 1 s.image.rateLimit ++ beBytes 1 s.image.codeA)
    :: s.roster.entries.map peerLine

def condSendingCode : CondSending → Nat
  | .unsent => 0
  | .queued => 1
  | .sent => 2

/-- A held condition in a CONDITIONS reply (R219). -/
def heldBytes (c : Condition) (compound : Bool) : List Byte := conditionBytes c compound (condSendingCode c.sending)

/-- The conditions of a CONDITIONS reply: the notices, then the fault, the compound cause and the latest fault (R196, R219). -/
def State.conditionList (s : State) : List (List Byte) :=
  s.cond.notices.map (fun c => heldBytes c false)
    ++ (match s.cond.record with
        | none => []
        | some r =>
          heldBytes r.fault false
            :: ((match r.compound with | none => [] | some c => [heldBytes c true])
              ++ (match r.latest with
                  | none => []
                  | some l => [conditionBytes ⟨0, l.cause, l.param, l.interval, .unsent⟩ false 255])))

/-- Presence bits: fault, compound cause, latest fault (R219). -/
def State.presenceBits (s : State) : Nat :=
  match s.cond.record with
  | none => 0
  | some r => 1 + flagBit 1 r.compound.isSome + flagBit 2 r.latest.isSome

def State.conditionLines (s : State) : List (List Byte) :=
  (beBytes 1 s.cond.seq ++ beBytes 1 (classFill .condition s.line.queue) ++ beBytes 1 s.interval.drain.toNat
      ++ beBytes 1 s.cond.notices.length ++ beBytes 1 s.presenceBits)
    :: (pieces 3 s.conditionList.length s.conditionList).map List.flatten

/-- The capture line; with no capture it is log entry 18. -/
def captureLines : Option Capture → List (List Byte)
  | some c =>
    [beBytes 4 c.interval ++ beBytes 1 c.pool.val ++ beBytes 1 c.station ++ beBytes 4 c.own.toNat ++ beBytes 4 c.received.toNat]
  | none => match Config.absentCaptureLine with
    | none => []
    | some line => [beBytes 14 line.toNat]

def State.historyLine (s : State) (e : HistoryEntry) : List Byte :=
  beBytes 4 e.number ++ beBytes 1 e.band.val ++ s.image.nodePools.flatMap (fun p => beBytes 4 (e.digests.get p).toNat)

/-- The lines of a CHECK reply (R182, R219). -/
def State.checkLines (s : State) : List (List Byte) :=
  let c := s.check
  (beBytes 1 s.image.checkMask.toNat ++ beBytes 1 c.run ++ beBytes 4 c.runInterval ++ beBytes 1 c.latch.toNat
      ++ beBytes 1 c.capture.isSome.toNat)
    :: (allPools.map (fun p =>
          let x := c.counts.get p
          beBytes 1 p.val ++ counterBytes [x.compared, x.mismatched, x.absent, x.unheld])
        ++ captureLines c.capture ++ s.ring.history.map s.historyLine)

/-! ## COUNTERS sections (R205, R219) -/

def sourceCode : BandSource → Nat
  | .schedule => 0
  | .frame b => 4 + b.val

def heldCloseBytes : Option HeldClose → List Byte
  | none => beBytes 1 0 ++ beBytes 4 0 ++ beBytes 1 0 ++ beBytes 1 0 ++ beBytes 1 0
  | some h =>
    beBytes 1 1 ++ beBytes 4 h.interval ++ beBytes 1 (CloseCause.code (some h.cause)) ++ beBytes 1 (h.station.getD 0)
      ++ beBytes 1 (sourceCode h.source)

def timerBytes : Timer → List Byte
  | .stopped => beBytes 1 0 ++ beBytes 2 0
  | .running ms => beBytes 1 1 ++ beBytes 2 (seconds ms)
  | .waitingLine => beBytes 1 2 ++ beBytes 2 0

/-- Section 0 of COUNTERS (R219). Where no listen time runs, its remaining time reads 0 (DESIGN CHOICE, log entry 59). -/
def State.intervalLines (s : State) : List (List Byte) :=
  let u := s.interval
  let c := u.counters
  [ beBytes 1 u.membership.code ++ beBytes 4 u.openNumber ++ timerBytes u.timer ++ beBytes 2 (seconds (u.listen.getD 0))
      ++ heldCloseBytes u.held ++ beBytes 1 u.driftRun ++ beBytes 1 u.drain.toNat,
    counterBytes [c.closesTaken, c.closesSent, c.closeWithdrawn, c.closeDuplicate, c.closeBehind, c.implicitCloses, c.jumps,
      c.closesHeld, c.heldMerged, c.deviations, c.numberLimit, c.adoptions, c.foundings] ]

/-- The four slots, oldest record first, then the empty ones (R205, R219). -/
def slotBytes (records : List Record) : List Byte :=
  records.flatMap (fun r => beBytes 1 r.state.code ++ beBytes 4 r.number)
    ++ (List.replicate (4 - records.length) (beBytes 5 0)).flatten

def flightBytes : Option Flight → List Byte
  | none => beBytes 1 0 ++ beBytes 4 0
  | some (.compute j) => beBytes 1 (if j.recompute then 2 else 1) ++ beBytes 4 j.interval
  | some (.settle j) => beBytes 1 3 ++ beBytes 4 j.interval

def State.ringLines (s : State) : List (List Byte) :=
  let c := s.ring.counters
  let e := s.engine.counters
  let all := [c.sumDuplicate, c.sumConflict, c.sumTooLate, c.sumUnplaced, c.sumRefused, c.recallDropped, c.recallUnanswered,
    c.resendLimit, c.resendDropped, e.computeRuns, e.recomputeRuns, e.recomputeCoalesced, e.staleResults, e.mSubstituted,
    e.settleRuns, e.settleSkipped, e.settleUncomputed, e.settleWaits]
  [ beBytes 1 s.ring.records.length ++ slotBytes s.ring.records,
    counterBytes (all.take 14),
    counterBytes (all.drop 14),
    beBytes 1 s.engine.jobs.length ++ flightBytes s.engine.flight ++ beBytes 4 s.table.nodeLast ]

def State.tableLines (s : State) : List (List Byte) :=
  let c := s.table.counters
  [ counterBytes [c.cutsApplied, c.repairCuts, c.releases, c.noTarget, c.saturatedAdds, c.storeHeld]
      ++ beBytes 1 s.store.queue.length ]

/-- The state line of COUNTERS section 3 (R205, R219). R141 has the monitor's current count of recessive bit times reported beside its
state, and R219 gives it no byte: it stands in bits 7..2 of the marks byte, which R216 leaves free (DESIGN CHOICE, log entry 9). -/
def State.lineStateLine (s : State) : List Byte :=
  let q := s.line.queue
  let head : Nat × Nat := match q with | [] => (0, 0) | f :: _ => (f.body.kind, f.body.concerns.getD 0)
  beBytes 1 s.line.monitor.code ++ beBytes 1 (classFill .close q) ++ beBytes 1 (classFill .condition q) ++ beBytes 1 (classFill .peer q)
    ++ beBytes 1 (classFill .reply q) ++ beBytes 1 s.line.offers.length ++ beBytes 1 head.1 ++ beBytes 4 head.2
    ++ beBytes 1 (flagBit 0 s.line.stuckMark + flagBit 1 s.line.dupMark + 4 * s.line.recessive)

/-- COUNTERS section 3 (R156, R205, R219). -/
def State.lineLines (s : State) : List (List Byte) :=
  let c := s.line.counters
  [ s.lineStateLine,
    counterBytes [c.txFrames, c.txContentionLost, c.txCollisions, c.txAbandoned, c.txWithdrawn, c.txCutOff, c.txRefused,
      c.warnHolds, c.stuckEpisodes, c.rxFrames, c.rxBadForm, c.rxBadLength, c.rxBadCheck, c.rxBadKind],
    counterBytes [c.rxBadSource, c.rxOwnSource] ]

def State.receiveLines (s : State) : List (List Byte) :=
  let x := s.rx
  let c := x.counters
  let r := s.resp.counters
  [ beBytes 1 (if x.mode == .urgent then 1 else 0) ++ beBytes 1 (x.fill .current) ++ beBytes 1 (x.fill .late)
      ++ beBytes 1 (x.fill .service) ++ beBytes 1 x.free
      ++ beBytes 1 (flagBit 0 x.dropCurrent + flagBit 1 x.dropLate + flagBit 2 x.dropService) ++ beBytes 1 x.peak,
    counterBytes [c.kindDiscarded, c.peerRefused, c.poolDiscarded, c.notAddressed, c.dropCurrent, c.dropLate, c.dropService,
      c.purged, c.urgentEntries, r.requestsTaken, r.requestsRefused, r.replyFrames, r.replyWaits, r.repliesCut] ]

def State.rosterCounterLines (s : State) : List (List Byte) :=
  let c := s.roster.counters
  [counterBytes [c.learned, c.evicted, c.notAdmitted, c.freed, c.rateDiscarded, c.quarantines, c.quarantineReleases,
    c.planMismatches, c.announcesSent]]

def State.condCounterLines (s : State) : List (List Byte) :=
  let c := s.cond.counters
  [counterBytes [c.faultsRaised, c.laterFaults, c.observerEntries, c.noticesDisplaced, c.displacedUnsent, c.conditionsSent,
    c.acks, c.rejoins]]

def State.channelLines (s : State) (ch : ChannelId) : List (List Byte) :=
  let c := s.channels.get ch
  let kind := (s.channelDef ch).kind
  [ beBytes 1 kind.code ++ beBytes 1 (c.shownCode kind) ++ beBytes 4 c.pulses ++ beBytes 4 c.volume ++ beBytes 4 c.energy
      ++ beBytes 4 c.reverse ++ beBytes 4 c.held,
    beBytes 6 c.life.energy ++ beBytes 6 c.life.reverse ++ beBytes 6 c.life.volume,
    counterBytes [c.counters.overrunSamples, c.counters.deadBandSamples, c.counters.reverseEntries, c.counters.faultEntries,
      c.counters.tamperEvents, c.counters.energyClipped] ]

/-- The lines of a COUNTERS section; none outside 0..14 (R200, R205). -/
def State.sectionLines (s : State) (n : Nat) : Option (List (List Byte)) :=
  match n with
  | 0 => some s.intervalLines
  | 1 => some s.ringLines
  | 2 => some s.tableLines
  | 3 => some s.lineLines
  | 4 => some s.receiveLines
  | 5 => some s.rosterCounterLines
  | 6 => some s.condCounterLines
  | _ => if h : 7 ≤ n ∧ n ≤ 14 then some (s.channelLines ⟨n - 7, by omega⟩) else none

/-! ## The handlers (R60, R66, R181, R193, R194, R203 to R206) -/

def noSuch (s : State) : Answer := Answer.plain .noSuch 0 s

def copied (lines : List (List Byte)) (s : State) : Answer := ⟨.done, 0, lines, s⟩

def handleStatement (sel : Nat) (s : State) : Answer :=
  match accountOf s.image sel with
  | none => noSuch s
  | some i => copied (s.statementLines i) s

def handleClosing (sel : Nat) (s : State) : Answer :=
  match accountOf s.image sel with
  | none => noSuch s
  | some i => match s.table.slots.get i with
    | none => noSuch s
    | some st => copied (s.closingLines i st) s

def handlePool (n : Nat) (s : State) : Answer :=
  if h : n < 4 then
    if s.image.mask.has ⟨n, h⟩ then
      match s.ring.view with
      | none => noSuch s
      | some v => copied (poolLines v ⟨n, h⟩) s
    else noSuch s
  else noSuch s

def handleCounters (n : Nat) (s : State) : Answer :=
  match s.sectionLines n with
  | none => noSuch s
  | some lines => copied lines s

/-- The status of a CUT by R60's table, in order. -/
def State.cutStatus (s : State) (i : AccountId) : Status :=
  let a := s.table.accounts.get i
  if !s.following then .state
  else if !s.image.cutEnable then .notPermitted
  else if a.pendingCut.isSome then .pending
  else if (s.table.slots.get i).isSome then .held
  else if a.tenancy = 65535 then .limit
  else .accepted

def statusOf (code : Nat) : AccountStatus := if code = 1 then .vacant else .occupied

/-- CUT (R60, R200, R206). -/
def handleCut (sel status : Nat) (s : State) : Answer :=
  match accountOf s.image sel with
  | none => noSuch s
  | some i =>
    if 1 < status then noSuch s
    else
      Answer.plain (s.cutStatus i) (s.table.accounts.get i).tenancy
        (if s.cutStatus i == .accepted then onAccount i (fun a => { a with pendingCut := some (statusOf status) }) s else s)

/-- A FINAL statement is released (R66). -/
def releaseSlot (i : AccountId) (s : State) : State :=
  requestWrite (.statement i none) false (onAccountCounters (fun c => { c with releases := bump c.releases }) (setSlot i none s))

/-- RELEASE (R66, R206). -/
def handleRelease (sel : Nat) (s : State) : Answer :=
  match accountOf s.image sel with
  | none => noSuch s
  | some i => match s.table.slots.get i with
    | none => noSuch s
    | some st => if st.final then Answer.plain .done st.tenancy (releaseSlot i s) else Answer.plain .notFinal 0 s

def countAck (s : State) : State := onCondCounters (fun c => { c with acks := bump c.acks }) s

/-- The number names the fault or the compound cause (R193). -/
def FaultRecord.names (r : FaultRecord) (seq : Nat) : Bool :=
  r.fault.seq == seq || (match r.compound with | some c => c.seq == seq | none => false)

/-- ACK (R193, R206). -/
def handleAck (seq : Nat) (s : State) : Answer :=
  match s.cond.notices.find? (·.seq == seq) with
  | some c =>
    Answer.plain .done seq
      (countAck (releaseLatch c (s.onCond (fun u => { u with notices := u.notices.filter (fun x => x.seq != seq) }))))
  | none => match s.cond.record with
    | none => Answer.plain .noSuch seq s
    | some r =>
      if r.names seq then Answer.plain .done seq (countAck (s.onCond (fun u => { u with record := none })))
      else Answer.plain .noSuch seq s

/-- A REJOIN is accepted (R194). -/
def State.mayRejoin (s : State) : Bool :=
  s.interval.membership == .observer && !s.interval.drain && s.cond.record.isNone

/-- The rejoin drain begins (R27, R120, R194). -/
def acceptRejoin (s : State) : State :=
  beginDrain ((onCondCounters (fun c => { c with rejoins := bump c.rejoins }) s).onInterval (fun u => { u with drain := true }))

/-- REJOIN (R194, R206). -/
def handleRejoin (s : State) : Answer :=
  if s.mayRejoin then Answer.plain .done s.interval.openNumber (acceptRejoin s)
  else Answer.plain .state s.interval.openNumber s

/-- CLEAR-CHECK (R181, R206). -/
def handleClearCheck (s : State) : Answer := Answer.plain .done 0 (clearCheck s)

/-! ## The commands -/

/-- STATEMENT_QUERY. -/
def execStatementQuery (s : State) : Host.Outcome State Fault Refusal :=
  match s.requestAtHead with
  | some (e, p) => match parseRequest p with
    | .statement sel => .next (answerRequest e p (handleStatement sel) s)
    | _ => .next s
  | none => .next s

/-- CLOSING_QUERY. -/
def execClosingQuery (s : State) : Host.Outcome State Fault Refusal :=
  match s.requestAtHead with
  | some (e, p) => match parseRequest p with
    | .closing sel => .next (answerRequest e p (handleClosing sel) s)
    | _ => .next s
  | none => .next s

/-- POOL_QUERY. -/
def execPoolQuery (s : State) : Host.Outcome State Fault Refusal :=
  match s.requestAtHead with
  | some (e, p) => match parseRequest p with
    | .pool n => .next (answerRequest e p (handlePool n) s)
    | _ => .next s
  | none => .next s

/-- ROSTER_QUERY. -/
def execRosterQuery (s : State) : Host.Outcome State Fault Refusal :=
  match s.requestAtHead with
  | some (e, p) => match parseRequest p with
    | .roster => .next (answerRequest e p (fun t => copied t.rosterLines t) s)
    | _ => .next s
  | none => .next s

/-- COUNTERS_QUERY. -/
def execCountersQuery (s : State) : Host.Outcome State Fault Refusal :=
  match s.requestAtHead with
  | some (e, p) => match parseRequest p with
    | .counters n => .next (answerRequest e p (handleCounters n) s)
    | _ => .next s
  | none => .next s

/-- CONDITIONS_QUERY. -/
def execConditionsQuery (s : State) : Host.Outcome State Fault Refusal :=
  match s.requestAtHead with
  | some (e, p) => match parseRequest p with
    | .conditions => .next (answerRequest e p (fun t => copied t.conditionLines t) s)
    | _ => .next s
  | none => .next s

/-- CHECK_QUERY. -/
def execCheckQuery (s : State) : Host.Outcome State Fault Refusal :=
  match s.requestAtHead with
  | some (e, p) => match parseRequest p with
    | .check => .next (answerRequest e p (fun t => copied t.checkLines t) s)
    | _ => .next s
  | none => .next s

/-- CUT. -/
def execCut (s : State) : Host.Outcome State Fault Refusal :=
  match s.requestAtHead with
  | some (e, p) => match parseRequest p with
    | .cut sel status => .next (answerRequest e p (handleCut sel status) s)
    | _ => .next s
  | none => .next s

/-- RELEASE. -/
def execRelease (s : State) : Host.Outcome State Fault Refusal :=
  match s.requestAtHead with
  | some (e, p) => match parseRequest p with
    | .release sel => .next (answerRequest e p (handleRelease sel) s)
    | _ => .next s
  | none => .next s

/-- ACK. -/
def execAck (s : State) : Host.Outcome State Fault Refusal :=
  match s.requestAtHead with
  | some (e, p) => match parseRequest p with
    | .ack seq => .next (answerRequest e p (handleAck seq) s)
    | _ => .next s
  | none => .next s

/-- REJOIN. -/
def execRejoin (s : State) : Host.Outcome State Fault Refusal :=
  match s.requestAtHead with
  | some (e, p) => match parseRequest p with
    | .rejoin => .next (answerRequest e p handleRejoin s)
    | _ => .next s
  | none => .next s

/-- CLEAR_CHECK. -/
def execClearCheck (s : State) : Host.Outcome State Fault Refusal :=
  match s.requestAtHead with
  | some (e, p) => match parseRequest p with
    | .clearCheck => .next (answerRequest e p handleClearCheck s)
    | _ => .next s
  | none => .next s

/-- UNDEFINED_REQUEST (R200, R220). -/
def execUndefinedRequest (s : State) : Host.Outcome State Fault Refusal :=
  match s.requestAtHead with
  | some (e, p) => match parseRequest p with
    | .undefined => .next (answerRequest e p noSuch s)
    | _ => .next s
  | none => .next s

end Sys2Proof.Machine
end

