-- ==== Sys2Proof/Machine/Control.lean ====
section
/-! DEFINITION. The control lines and the start (chapter 12): the commands POWER_ON, RESET_ASSERTED, RESET_TAKES_EFFECT,
RESET_RELEASED, SUPPLY_LOST, LOAD_COMPLETE, SUPPLY_WARN_ASSERTED and SUPPLY_WARN_DEASSERTED. -/

namespace Sys2Proof.Machine

/-! ## Reset and supply (R212) -/

/-- POWER_ON: power comes to the node, which resets it with cause 1. -/
def execPowerOn (s : State) : Host.Outcome State Fault Refusal := .next (resetNode .powerOn s)

/-- The level of the RESET input. -/
def setResetIn (level : Bool) (s : State) : State := s.onControl (fun c => { c with resetIn := level })

/-- The RESET input is asserted: latched while a write is in progress, else taken at once (R212). -/
def assertReset (s : State) : State :=
  if s.control.power == .off then setResetIn true s
  else if s.store.writing.isSome then (setResetIn true s).onControl (fun c => { c with resetLatched := true })
  else resetNode .resetInput (setResetIn true s)

/-- RESET_ASSERTED: the RESET input is asserted. -/
def execResetAsserted (s : State) : Host.Outcome State Fault Refusal := .next (assertReset s)

/-- The write in progress, if any, completes. -/
def finishWrite (s : State) : State :=
  match s.store.writing with
  | some q => commitWrite q s
  | none => s

/-- RESET_TAKES_EFFECT: a latched reset takes effect when the write in progress completes (R212). STORE_WRITE_COMPLETE under a latched
reset is the same step (log entry 7). -/
def execResetTakesEffect (s : State) : Host.Outcome State Fault Refusal :=
  if s.control.resetLatched then .next (resetNode .resetInput (finishWrite s)) else .next s

/-- The RESET input is released: a held node enters STARTING (R212). -/
def releaseReset (s : State) : State :=
  (setResetIn false s).onControl (fun c => { c with power := if c.power == .heldInReset then .running else c.power })

/-- RESET_RELEASED: the RESET input is released. -/
def execResetReleased (s : State) : Host.Outcome State Fault Refusal := .next (releaseReset s)

/-- SUPPLY_LOST: a loss of supply takes effect at once; a write it interrupts leaves its record as it was (R68, R212). -/
def execSupplyLost (s : State) : Host.Outcome State Fault Refusal :=
  .next (State.afterReset s.control.resetCause s.store.contents s.control.resetIn s.control.supplyWarn .off s.pending)

/-! ## The start (R209 to R211) -/

def setMembership (m : Membership) (s : State) : State := s.onInterval (fun u => { u with membership := m })

def setLoad (l : LoadStatus) (s : State) : State := s.onControl (fun c => { c with load := l })

def ResetCause.code : ResetCause → Nat
  | .powerOn => 1
  | .resetInput => 2

/-- Entry to LISTENING: the monitor starts in GAP and the listen time is loaded with L + G (R117, R155). -/
def enterListening (s : State) : State :=
  setMonitor .gap 0 0 (s.onInterval (fun u =>
    { u with membership := .listening, listen := some (s.image.lengthMs + s.image.gatherMs) }))

/-- The start on a VALID image, in the steps of R211. -/
def startValid (img : Image) (s : State) : State :=
  let s1 := (setLoad .valid { s with image := img }).onRoster (fun r => { r with planDigest := planDigest img })
  enterListening (restore (raiseNotice .restarted s.control.resetCause.code s1))

/-- The account table holds its accounts, or none (R54, R211). -/
def setHoldsAccounts (b : Bool) (s : State) : State := s.onTable (fun t => { t with holdsAccounts := b })

/-- The start on an INVALID image (R211): CONFIG_INVALID, and in UNCONFIGURED the account table holds no accounts. -/
def startInvalid (check : Nat) (s : State) : State :=
  setHoldsAccounts false (setMembership .unconfigured (raiseFault .configInvalid check (setLoad (.invalid check) s)))

/-- The load status leaves READING (R211). -/
def finishLoad (bytes : List Byte) (s : State) : State :=
  match firstFailed bytes with
  | none => startValid (parseImage bytes) s
  | some n => startInvalid n s

/-- LOAD_COMPLETE: the transfer of the image has ended and the checks are made. -/
def execLoadComplete (bytes : List Byte) (s : State) : Host.Outcome State Fault Refusal :=
  if s.powered && s.interval.membership == .starting && s.control.load == .reading then .next (finishLoad bytes s)
  else .next s

/-! ## The supply warning (R48, R69, R154, R213) -/

/-- The SETTLE job in flight waits for a write that it has requested and that has not begun (R48). -/
def State.settleWriteWaits (s : State) : Bool := s.store.queue.any (·.awaited)

/-- SUPPLY-WARN asserts while the node runs: held frames, writes and SETTLE waits are counted (R48, R69, R154). -/
def countWarning (s : State) : State :=
  let s1 := if s.live && !s.line.queue.isEmpty then
      s.onLine (fun l =>
        { l with warnCounted := true, counters := { l.counters with warnHolds := bump l.counters.warnHolds } })
    else s
  let s2 := onAccountCounters (fun c => { c with storeHeld := bumpBy s1.store.queue.length c.storeHeld }) s1
  if s2.settleWriteWaits then onEngineCounters (fun c => { c with settleWaits := bump c.settleWaits }) s2 else s2

def setWarn (level : Bool) (s : State) : State := s.onControl (fun c => { c with supplyWarn := level })

/-- SUPPLY_WARN_ASSERTED: the warning asserts. -/
def execSupplyWarnAsserted (s : State) : Host.Outcome State Fault Refusal :=
  if s.control.supplyWarn then .next s
  else if s.powered then .next (setWarn true (countWarning s))
  else .next (setWarn true s)

/-- A SETTLE job that waited for the warning to clear requests its write (R48). -/
def resumeSettle (s : State) : State :=
  match s.engine.flight with
  | some (.settle j) =>
    match j.heldByWarning, j.waiting with
    | true, some w =>
      requestWrite (s.settleContents j.interval w) true (setFlight (some (.settle { j with heldByWarning := false })) s)
    | _, _ => s
  | _ => s

/-- SUPPLY_WARN_DEASSERTED: the warning clears. -/
def execSupplyWarnDeasserted (s : State) : Host.Outcome State Fault Refusal :=
  .next (resumeSettle ((setWarn false s).onLine (fun l => { l with warnCounted := false })))

end Sys2Proof.Machine
end

