-- ==== Sys2Proof/Machine/Dispatch.lean ====
section
/-! DEFINITION. One arm for each command of spec/opcode_table.json. -/

namespace Sys2Proof.Machine

/-- The effect of a command on everything but the queue. -/
def exec (i : Instr) (s : State) : Host.Outcome State Fault Refusal :=
  match i with
  | .powerOn => Sys2Proof.Machine.execPowerOn s
  | .resetAsserted => Sys2Proof.Machine.execResetAsserted s
  | .resetTakesEffect => Sys2Proof.Machine.execResetTakesEffect s
  | .resetReleased => Sys2Proof.Machine.execResetReleased s
  | .supplyLost => Sys2Proof.Machine.execSupplyLost s
  | .loadComplete bytes => Sys2Proof.Machine.execLoadComplete bytes s
  | .supplyWarnAsserted => Sys2Proof.Machine.execSupplyWarnAsserted s
  | .supplyWarnDeasserted => Sys2Proof.Machine.execSupplyWarnDeasserted s
  | .pulseInput ch => Sys2Proof.Machine.execPulseInput ch s
  | .sample ch supply ret contact => Sys2Proof.Machine.execSample ch supply ret contact s
  | .tamperEdge ch => Sys2Proof.Machine.execTamperEdge ch s
  | .lineIdle => Sys2Proof.Machine.execLineIdle s
  | .lineStuck => Sys2Proof.Machine.execLineStuck s
  | .frameStart => Sys2Proof.Machine.execFrameStart s
  | .contentionLost => Sys2Proof.Machine.execContentionLost s
  | .collisionError => Sys2Proof.Machine.execCollisionError s
  | .frameEnded => Sys2Proof.Machine.execFrameEnded s
  | .offerListEntry => Sys2Proof.Machine.execOfferListEntry s
  | .conditionOffer => Sys2Proof.Machine.execConditionOffer s
  | .replyOffer => Sys2Proof.Machine.execReplyOffer s
  | .frameReceived bits => Sys2Proof.Machine.execFrameReceived bits s
  | .ownExpiry => Sys2Proof.Machine.execOwnExpiry s
  | .founding => Sys2Proof.Machine.execFounding s
  | .sendTimeExpiry k => Sys2Proof.Machine.execSendTimeExpiry k s
  | .gatherExpiry k => Sys2Proof.Machine.execGatherExpiry k s
  | .takeClose => Sys2Proof.Machine.execTakeClose s
  | .takeSummary cls => Sys2Proof.Machine.execTakeSummary cls s
  | .takeRecall => Sys2Proof.Machine.execTakeRecall s
  | .takeAnnounce => Sys2Proof.Machine.execTakeAnnounce s
  | .statementQuery => Sys2Proof.Machine.execStatementQuery s
  | .closingQuery => Sys2Proof.Machine.execClosingQuery s
  | .poolQuery => Sys2Proof.Machine.execPoolQuery s
  | .rosterQuery => Sys2Proof.Machine.execRosterQuery s
  | .countersQuery => Sys2Proof.Machine.execCountersQuery s
  | .conditionsQuery => Sys2Proof.Machine.execConditionsQuery s
  | .checkQuery => Sys2Proof.Machine.execCheckQuery s
  | .cut => Sys2Proof.Machine.execCut s
  | .release => Sys2Proof.Machine.execRelease s
  | .ack => Sys2Proof.Machine.execAck s
  | .rejoin => Sys2Proof.Machine.execRejoin s
  | .clearCheck => Sys2Proof.Machine.execClearCheck s
  | .undefinedRequest => Sys2Proof.Machine.execUndefinedRequest s
  | .computeJobStart => Sys2Proof.Machine.execComputeJobStart s
  | .computeJobComplete => Sys2Proof.Machine.execComputeJobComplete s
  | .settleJobStart => Sys2Proof.Machine.execSettleJobStart s
  | .storeWriteStart => Sys2Proof.Machine.execStoreWriteStart s
  | .storeWriteComplete => Sys2Proof.Machine.execStoreWriteComplete s
  | .settleJobComplete => Sys2Proof.Machine.execSettleJobComplete s
  | .heldCloseTaken => Sys2Proof.Machine.execHeldCloseTaken s
  | .drainSettleNext => Sys2Proof.Machine.execDrainSettleNext s
  | .drainEnd => Sys2Proof.Machine.execDrainEnd s
  | .startBit => Sys2Proof.Machine.execStartBit s
  | .receptionError e => Sys2Proof.Machine.execReceptionError e s

end Sys2Proof.Machine
end

