-- ==== Sys2Proof/Machine/Step.lean ====
section
/-! DEFINITION. One step of the block: the command at the front of the queue, or a clock tick on an empty queue. -/

namespace Sys2Proof.Machine

/-- The commands that wait become these. -/
def State.withPending (s : State) (q : List Instr) : State := { s with pending := q }

/-- A remaining time after one tick, in ms (log entry 4). -/
def countDown (ms : Nat) : Nat := ms - Config.tickMs

/-- The interval timer after one tick: it counts down only while RUNNING (R102). -/
def Timer.tick : Timer → Timer
  | .running ms => .running (countDown ms)
  | t => t

/-- The times of a record after one tick (R3, R11, R15). -/
def Record.tick (r : Record) : Record := { r with gather := r.gather.map countDown, send := r.send.map countDown }

/-- A clock tick: every running time counts down; what runs out is a command of its own (DESIGN CHOICE, log entry 4). -/
def tick (s : State) : State :=
  if s.powered then
    (s.onInterval (fun u => { u with timer := u.timer.tick, listen := u.listen.map countDown })).onRing
      (fun r => { r with records := r.records.map Record.tick })
  else s

/-- One step: the command at the front of the queue on the state with the queue's rest; on an empty queue a clock tick. -/
def step (s : State) : Host.Outcome State Fault Refusal :=
  match s.pending with
  | [] => .next (tick s)
  | c :: rest => exec c (s.withPending rest)

/-- s with the command that the word spells put at the front of its queue; s where the word spells none. -/
def State.withFetchWord (s : State) (nbits w : Nat) : State :=
  match decodeTableWord nbits w with
  | some c => s.withPending (c :: s.pending)
  | none => s

end Sys2Proof.Machine
end

