-- ==== Sys2Proof/Safety.lean ====
section
/-! DEFINITION. The invariants of the node (capacities, the ring's order and its place in each membership state), the contents that
a frame can carry, and what it means that a reply is served. -/

namespace Sys2Proof.Machine

/-! ## Invariants -/

/-- The ring's records in a following state: below the OPEN record, which is the newest and has the open interval number, no
record is OPEN (R1, R2). -/
def State.openIsNewest (s : State) : Prop :=
  ∃ (older : List Record) (r : Record),
    s.ring.records = older ++ [r] ∧ r.state = .opened ∧ r.number = s.interval.openNumber ∧ ∀ x ∈ older, x.state ≠ .opened

/-- The node takes closes in its membership state (R101). -/
def State.hasRing (s : State) : Prop := s.interval.membership = .member ∨ s.interval.membership = .observer

/-- The ring holds at most four records in strictly rising order of number, at most one of them SETTLING; in MEMBER and OBSERVER
exactly one is OPEN and it is the newest, elsewhere the ring is empty and no close is held (R1, R2, R113). -/
def State.ringOrdered (s : State) : Prop :=
  s.ring.records.length ≤ 4
    ∧ (s.ring.records.map (·.number)).Pairwise (· < ·)
    ∧ s.ring.records.countP (·.state == .settling) ≤ 1
    ∧ (s.hasRing → s.openIsNewest)
    ∧ (¬ s.hasRing → s.ring.records = [] ∧ s.interval.held = none)
    ∧ ∀ h, s.interval.held = some h → s.interval.openNumber ≤ h.interval

/-- Each class of the transmit queue is held within its reserve (R149). -/
def State.queueBounded (s : State) : Prop := ∀ c : TxClass, classFill c s.line.queue ≤ c.reserve

/-- The receive pool never holds more than 40 frames (R157). -/
def State.poolBounded (s : State) : Prop := s.rx.entries.length ≤ 40

/-- The notice list holds at most 8 notices (R187). -/
def State.noticesBounded (s : State) : Prop := s.cond.notices.length ≤ 8

/-- The roster holds at most 32 entries, in strictly rising order of station (R122). -/
def State.rosterOrdered (s : State) : Prop :=
  s.roster.entries.length ≤ 32 ∧ (s.roster.entries.map (·.station)).Pairwise (· < ·)

/-- The settled digest history holds at most four entries (R26). -/
def State.historyBounded (s : State) : Prop := s.ring.history.length ≤ 4

/-! ## What a close leaves (R7, R94, R95, R106) -/

/-- The channel after its snapshot at a close of a record of this band: interval figures and marks restarted, lifetime figures
increased, all else but the tamper latch as before (R94, R95). -/
def Channel.restartedFrom (t c : Channel) : Prop :=
  t = { c with
    pulses := 0
    volume := 0
    energy := 0
    reverse := 0
    estimated := false
    tampered := false
    overrun := false
    latch := t.latch
    life :=
      { energy := c.life.energy + min c.energy (281474976710655 - c.life.energy)
        reverse := min (c.life.reverse + c.reverse) 281474976710655
        volume := min (c.life.volume + c.volume) 281474976710655 }
    counters := { c.counters with energyClipped := t.counters.energyClipped } }

/-- The closed record c of a close with this cause and station, from the OPEN record r (R7, R8, R11, R15, R135, R136), written out from
the channels, the accounts and the roster of s: rank and send time, expected sets, tenancy snapshots, raw and weighted energies, own
summaries, GATHERING or gone on at once. An energy above 32 bits is a free value (log entry 10). -/
def State.closedFrom (s : State) (r x : Record) (c : Nat) (cause : CloseCause) (station : Option Nat) : Prop :=
  let wired (kind : ChannelKind) (p : PoolId) : List ChannelId :=
    allChannels.filter (fun ch => (s.image.channels.get ch).kind == kind && (s.image.channels.get ch).pool == p)
  let billed (i : AccountId) (p : PoolId) : List ChannelId :=
    (wired .consumer p).filter (fun ch => (s.image.channels.get ch).account == i)
  let energy (ch : ChannelId) : Nat := min (s.channels.get ch).energy (281474976710655 - (s.channels.get ch).life.energy)
  let cost (ch : ChannelId) : Nat := min ((s.channels.get ch).pulses * (s.image.channels.get ch).prices.get r.band) 1099511627775
  let takes (i : AccountId) (p : PoolId) : Bool := (s.image.accounts.get i).mask.has p && s.image.mask.has p
  let tenants (p : PoolId) : List AccountId := allAccounts.filter (fun i => takes i p)
  let part (i : AccountId) (p : PoolId) : AccountPool := (x.accounts.get i).pools.get p
  let factor (i : AccountId) : Nat := (s.image.accounts.get i).factor
  let peers : List Peer := s.roster.entries.filter (fun e => e.role == .node && e.state == .active)
  x.number = c ∧ x.cause = some cause ∧ x.causeStation = station ∧ x.band = r.band ∧ x.partialMark = r.partialMark
    ∧ x.renumbered = (r.renumbered || decide (s.interval.openNumber < c))
    ∧ x.send = some (peers.countP (fun e => decide (e.station < s.image.station)) * s.image.staggerMs)
    ∧ (x.state = .gathering ∧ x.gather = some s.image.gatherMs ∨ x.state = .provisional ∧ x.gather = none)
    ∧ (∀ i, (x.accounts.get i).tenancy = some ⟨(s.table.accounts.get i).tenancy, (s.table.accounts.get i).status⟩)
    ∧ (∀ i p,
        (takes i p = true → ∃ raw weighted,
          part i p = ⟨some raw, some weighted, none, (billed i p).any (fun ch => (s.channels.get ch).estimated),
            (billed i p).any (fun ch => (s.channels.get ch).tampered)⟩
            ∧ raw ≤ 4294967295 ∧ weighted ≤ 4294967295
            ∧ (((billed i p).map energy).sum ≤ 4294967295 → raw = ((billed i p).map energy).sum)
            ∧ (raw * factor i / 256 ≤ 4294967295 → weighted = raw * factor i / 256))
          ∧ (takes i p = false → part i p = ⟨none, none, none, false, false⟩))
    ∧ ∀ p, s.image.mask.has p = true →
        (x.pools.get p).expected = (peers.filter (fun e => e.plan != .mismatch && e.mask.has p)).map (fun e => e.station)
          ∧ (x.pools.get p).own = some
            { values :=
                { e := min ((wired .plant p).map energy).sum 4294967295
                  c := min ((wired .supply p).map cost).sum 1099511627775
                  u := min ((tenants p).map (fun i => (part i p).raw.getD 0)).sum 4294967295
                  m := min ((tenants p).map (fun i => (part i p).weighted.getD 0)).sum 4294967295
                  a := min ((tenants p).map (fun i => (s.image.accounts.get i).area)).sum 16777215 }
              estimated := (wired .plant p ++ wired .supply p ++ wired .consumer p).any (fun ch => (s.channels.get ch).estimated)
              tampered := (wired .plant p ++ wired .supply p ++ wired .consumer p).any (fun ch => (s.channels.get ch).tampered) }

/-- A close of interval c was taken between s and t with this cause, station and next band: the record is closed, c + 1 is the
newest and OPEN, the channels have given their snapshots, no pending cut is left, and the close is counted (R106). -/
def State.closesTo (s t : State) (c : Nat) (cause : CloseCause) (station : Option Nat) (band : Band) : Prop :=
  (∃ older r x, s.ring.records = older ++ [r] ∧ x ∈ t.ring.records ∧ s.closedFrom r x c cause station
      ∧ t.ring.records.map (·.number) = older.map (·.number) ++ [c, c + 1])
    ∧ t.ring.records.getLast? = some (Record.atOpen (c + 1) band false)
    ∧ t.interval.openNumber = c + 1
    ∧ t.interval.counters.closesTaken = bump s.interval.counters.closesTaken
    ∧ (∀ ch, (s.image.channels.get ch).kind ≠ .off → (t.channels.get ch).restartedFrom (s.channels.get ch))
    ∧ (∀ i, (t.table.accounts.get i).pendingCut = none)
    ∧ (∀ i, (s.table.accounts.get i).pendingCut = none → t.table.accounts.get i = s.table.accounts.get i)
    ∧ (∀ e ∈ t.roster.entries, e.frames = 0)
    ∧ t.pending = s.pending ∧ t.image = s.image ∧ t.control = s.control ∧ t.resp = s.resp
    ∧ t.store.contents = s.store.contents ∧ t.store.writing = s.store.writing

/-- No CLOSE is left in the queue of t, and one that s had there is counted as withdrawn by the interval unit (R108, R110). -/
def State.ownCloseLeaves (s t : State) : Prop :=
  (∀ f ∈ t.line.queue, f.body.kind ≠ 1)
    ∧ ((∀ f ∈ s.line.queue, f.body.kind ≠ 1) →
        t.interval.counters.closeWithdrawn = s.interval.counters.closeWithdrawn)
    ∧ ((∃ f ∈ s.line.queue, f.body.kind = 1) →
        t.interval.counters.closeWithdrawn = bump s.interval.counters.closeWithdrawn)

/-- What the line counts of that: the CLOSE that s had is withdrawn and, if it was on the line, cut off, its remains a bad frame to the
node's own receiver; where s had none, nothing is counted (R147, R152). -/
def State.ownCloseCounted (s t : State) : Prop :=
  ((∀ f ∈ s.line.queue, f.body.kind ≠ 1) →
      t.line.counters.txWithdrawn = s.line.counters.txWithdrawn ∧ t.line.counters.txCutOff = s.line.counters.txCutOff)
    ∧ ∀ f before after, s.line.queue = before ++ f :: after → f.body.kind = 1 → (∀ g ∈ before ++ after, g.body.kind ≠ 1) →
        t.line.counters.txWithdrawn = bump s.line.counters.txWithdrawn
          ∧ (f.sending = false → t.line.counters.txCutOff = s.line.counters.txCutOff)
          ∧ (f.sending = true → t.line.counters.txCutOff = bump s.line.counters.txCutOff
              ∧ t.line.counters.rxBadForm = bump s.line.counters.rxBadForm ∧ t.line.monitor = .gap)

/-! ## What a SUMMARY leaves (R17 to R20, R174 to R179) -/

/-- The source is a READER, QUARANTINED or of a plan that does not match: its SUMMARY is refused at intake (R19). -/
def State.refusesAtIntake (s : State) (source : Nat) : Prop :=
  ∃ x, s.peer source = some x ∧ (x.role = .reader ∨ x.state = .quarantined ∨ x.plan = .mismatch)

/-- The SUMMARY of a source that is new to its record and pool has been taken into the record of its interval, the totals with it, or
was refused by the roster as it stands after the close, and counted (R17 to R20). -/
def State.summaryTaken (s t : State) (source : Nat) (b : SummaryBody) : Prop :=
  ∃ r ∈ t.ring.records, r.number = b.interval ∧
    let part := r.pools.get b.pool
    (t.refusesAtIntake source →
        t.ring.counters.sumRefused = bump s.ring.counters.sumRefused ∧ ∀ y ∈ part.contributors, y.station ≠ source)
      ∧ (¬ t.refusesAtIntake source →
          t.ring.counters.sumRefused = s.ring.counters.sumRefused
            ∧ part.totals = ⟨(part.contributors.map (fun y => y.values.e)).sum, (part.contributors.map (fun y => y.values.c)).sum,
              (part.contributors.map (fun y => y.values.u)).sum, (part.contributors.map (fun y => y.values.m)).sum,
              (part.contributors.map (fun y => y.values.a)).sum⟩
            ∧ ∃ late, (⟨source, b.values, b.estimated, b.tampered, late,
                r.state != .opened && !part.expected.contains source, false⟩ : Entry) ∈ part.contributors
              ∧ (r.state ≠ .provisional → late = false))

/-- R175's table and the run of R178 and R179 on the digest of a SUMMARY handed between s and t, for a pool outside the cross-check
mask. -/
def State.digestJudged (s t : State) (source : Nat) (b : SummaryBody) : Prop :=
  let c := s.check.counts.get b.pool
  let counted (x : CheckCounts) : CrossCheck := { s.check with counts := s.check.counts.set b.pool x }
  (b.interval ≤ 3 ∨ (∀ x ∈ s.ring.history, x.number ≠ b.interval - 3) → t.check = counted { c with unheld := bump c.unheld })
    ∧ ∀ h, 3 < b.interval → s.ring.history.find? (fun x => x.number == b.interval - 3) = some h →
      (b.digest = none → t.check = counted { c with absent := bump c.absent })
        ∧ (b.digest = some (h.digests.get b.pool) → t.check = counted { c with compared := bump c.compared })
        ∧ ∀ d, b.digest = some d → d ≠ h.digests.get b.pool →
          let m := b.interval - 3
          let between := ∃ x ∈ s.ring.history, s.check.runInterval < x.number ∧ x.number < m
          let mismatch (run runInterval : Nat) : CrossCheck := { counted { c with mismatched := bump c.mismatched } with
            run := run
            runInterval := runInterval
            capture := match s.check.capture with
              | none => some ⟨m, b.pool, source, h.digests.get b.pool, d⟩
              | some x => some x }
          (s.check.latch = true → t.check = mismatch s.check.run s.check.runInterval)
            ∧ (s.check.latch = false → s.check.runInterval = 0 → t.check = mismatch 1 m)
            ∧ (s.check.latch = false → s.check.runInterval ≠ 0 → m ≤ s.check.runInterval → s.check.run < 4 →
                t.check = mismatch s.check.run s.check.runInterval)
            ∧ (s.check.latch = false → s.check.runInterval ≠ 0 → s.check.runInterval < m →
                (between ∨ ∀ x ∈ s.ring.history, x.number ≠ s.check.runInterval) → t.check = mismatch 1 m)
            ∧ (s.check.latch = false → s.check.runInterval ≠ 0 → s.check.runInterval < m → ¬ between →
                (∃ x ∈ s.ring.history, x.number = s.check.runInterval) →
                (s.check.run < 3 → t.check = mismatch (s.check.run + 1) m)
                  ∧ (s.check.run = 3 → t.check = { mismatch 4 m with latch := true }
                      ∧ (s.cond.record = none → ∃ n, t.cond.record =
                          some ⟨⟨n, .disagreement, source * 256 + b.pool.val, t.interval.openNumber, .unsent⟩, none, none⟩)))

/-! ## What a frame carries (R217 to R220) -/

/-- The totals of a SUMMARY lie in the ranges of its fields (R4, R217). -/
def Totals.inRange (t : Totals) : Prop :=
  t.e ≤ Config.energyMax ∧ t.c ≤ Config.costMax ∧ t.u ≤ Config.energyMax ∧ t.m ≤ Config.energyMax ∧ t.a ≤ Config.areaMax

/-- The contents of a frame lie in the ranges of the fields that carry them, and its length is one that its kind allows. -/
def FrameBody.wf : FrameBody → Prop
  | .close k _ => k ≤ maxInterval
  | .condition p => p.length = 9
  | .recall k _ _ => k ≤ maxInterval
  | .summary b => b.interval ≤ maxInterval ∧ b.values.inRange
  | .announce _ _ _ _ n _ => n ≤ maxInterval
  | .request p => 3 ≤ p.length ∧ p.length ≤ 6
  | .reply p => 4 ≤ p.length ∧ p.length ≤ 32

/-- What the bits of a frame carry of its contents: all but the two figures that R217 names no place for (log entry 57). -/
def FrameBody.onLine : FrameBody → FrameBody
  | .announce role membership mask digest openNumber _ => .announce role membership mask digest openNumber none
  | b => b

/-! ## The line with another queue (R149, R154) -/

/-- SUPPLY-WARN holds back the start that this queue would otherwise have, for the first time in this assertion (R154). -/
def State.holdsStart (s : State) (q : List TxFrame) : Bool :=
  s.control.supplyWarn && !s.line.warnCounted && s.line.monitor == .idle && !q.isEmpty && s.live

/-- The line with this queue after a frame has entered it: a start held back by SUPPLY-WARN is counted once an assertion. -/
def State.lineWith (s : State) (q : List TxFrame) : Line :=
  { s.line with
    queue := q
    warnCounted := s.line.warnCounted || s.holdsStart q
    counters := { s.line.counters with
      warnHolds := if s.holdsStart q then bump s.line.counters.warnHolds else s.line.counters.warnHolds } }

/-- The queue with a frame entered as QUEUED with no attempt made (R149, R150). -/
def queued (b : FrameBody) (q : List TxFrame) : List TxFrame := insertFrame ⟨b, 0, false⟩ q

/-! ## The receive pool (R163 to R167) -/

/-- The class of a frame at its arrival, by R163's table. -/
def State.arrivalClass (s : State) : FrameBody → RxClass
  | .close _ _ => .current
  | .summary b =>
    match s.ring.records, s.ring.records.find? (fun r => r.number == b.interval) with
    | [], _ => .current
    | _, some r => if r.state = .opened ∨ r.state = .gathering then .current else .late
    | _, none => if s.interval.openNumber < b.interval then .current else .late
  | .request _ => .service
  | _ => .late

/-- The frames of a class that the pool holds (R157). -/
def RxPool.holding (x : RxPool) (c : RxClass) : Nat := (x.entries.filter (fun e => e.cls == c)).length

/-- R166's conditions, with the reserve and the limit of the class and the unused reserves of the other two by R165's table. -/
def RxPool.takesFrame (x : RxPool) (c : RxClass) : Prop :=
  let current := x.holding .current
  let late := x.holding .late
  let service := x.holding .service
  let free := 40 - x.entries.length
  0 < free ∧ match x.mode, c with
    | .normal, .current => current < 32 ∧ (current < 16 ∨ (4 - late) + (2 - service) < free)
    | .normal, .late => late < 16 ∧ (late < 4 ∨ (16 - current) + (2 - service) < free)
    | .normal, .service => service < 8 ∧ (service < 2 ∨ (16 - current) + (4 - late) < free)
    | .urgent, .current => current < 36 ∧ (current < 24 ∨ 2 - late < free)
    | .urgent, .late => late < 8 ∧ (late < 2 ∨ 24 - current < free)
    | .urgent, .service => service < 2 ∧ (24 - current) + (2 - late) < free

/-- The pool with the next arrival counted (R157; every frame that reaches the filter takes a number: log entry 42). -/
def RxPool.arrived (x : RxPool) : RxPool := { x with arrivals := x.arrivals + 1 }

/-- The pool after the admission of a frame (R166). -/
def RxPool.admitting (x : RxPool) (f : RxFrame) (c : RxClass) (notAdmitted : Bool) : RxPool :=
  { x with
    arrivals := x.arrivals + 1
    entries := x.entries ++ [⟨f, c, x.arrivals + 1, notAdmitted⟩]
    peak := max x.peak (x.entries.length + 1) }

/-- The pool after the drop of a frame: the class's mark is set and its counter increased (R167). -/
def RxPool.dropping (x : RxPool) : RxClass → RxPool
  | .current => { x with
      arrivals := x.arrivals + 1, dropCurrent := true, counters := { x.counters with dropCurrent := bump x.counters.dropCurrent } }
  | .late => { x with
      arrivals := x.arrivals + 1, dropLate := true, counters := { x.counters with dropLate := bump x.counters.dropLate } }
  | .service => { x with
      arrivals := x.arrivals + 1, dropService := true, counters := { x.counters with dropService := bump x.counters.dropService } }

/-- The class has dropped a frame in this count period (R167). -/
def RxPool.hasDropped (x : RxPool) : RxClass → Bool
  | .current => x.dropCurrent
  | .late => x.dropLate
  | .service => x.dropService

/-- The parameter of RX_DROP: the class code × 256 + the source (R167). -/
def dropParam (source : Nat) : RxClass → Nat
  | .current => 1 * 256 + source
  | .late => 2 * 256 + source
  | .service => 3 * 256 + source

/-- A REQUEST to this node, or a QUERY to 63 (R162). -/
def State.addressedBy (s : State) (p : List Byte) : Prop :=
  fieldAt p 0 1 = s.image.station ∨ (fieldAt p 0 1 = 63 ∧ fieldAt p 2 1 = 1)

/-! ## Requests and replies (chapter 11) -/

/-- A permitted request with payload p waits at the head of SERVICE and the responder is IDLE (R198, R199). -/
def State.asked (s : State) (e : RxEntry) (p : List Byte) : Prop :=
  s.live = true ∧ s.resp.serving = none ∧ s.rxHead .service = some e ∧ e.frame.body = .request p

/-- The requester is a READER of the roster and its frame was admitted (R199). -/
def State.fromReader (s : State) (e : RxEntry) : Prop :=
  e.notAdmitted = false ∧ ∃ x, s.peer e.frame.source = some x ∧ x.role = .reader

/-- The header frame of a reply: requester, tag, index 0, sub-kind, query kind, status, number of lines, value (R219). -/
def headerFrame (requester : Nat) (p : List Byte) (status : Status) (lines value : Nat) : List Byte :=
  beBytes 1 requester ++ beBytes 1 (fieldAt p 1 1) ++ beBytes 1 0 ++ beBytes 1 (fieldAt p 2 1) ++ [headerQueryKind p]
    ++ beBytes 1 status.code ++ beBytes 1 lines ++ beBytes 4 value

/-- A line frame of a reply: requester, tag, index, contents (R219). -/
def lineFrame (requester : Nat) (p : List Byte) (index : Nat) (contents : List Byte) : List Byte :=
  beBytes 1 requester ++ beBytes 1 (fieldAt p 1 1) ++ beBytes 1 index ++ contents

/-- The request in flight right after the take: its reply laid out, nothing offered yet (R198, R201). -/
def servingWith (requester : Nat) (p : List Byte) (status : Status) (value : Nat) (lines : List (List Byte)) : Serving where
  requester := requester
  tag := BitVec.ofNat 8 (fieldAt p 1 1)
  subKind := BitVec.ofNat 8 (fieldAt p 2 1)
  queryKind := headerQueryKind p
  status := status
  value := value
  frames := headerFrame requester p status lines.length value :: lines.zipIdx.map (fun x => lineFrame requester p (x.2 + 1) x.1)
  next := 0
  inQueue := 0
  cutShort := false
  waitsForRoom := false

/-- The pool after the take of the head of a class: that one entry is gone (R169). -/
def RxPool.without (x : RxPool) (e : RxEntry) : RxPool := { x with entries := x.entries.erase e }

/-- The blocks that the take of a request changes whatever it asks: the entry leaves the pool, the request is counted and the
responder serves the reply (R198, R201). -/
def State.serving (s : State) (e : RxEntry) (p : List Byte) (status : Status) (value : Nat) (lines : List (List Byte)) : State :=
  { s with
    rx := s.rx.without e
    resp :=
      { serving := some (servingWith e.frame.source p status value lines)
        counters := { s.resp.counters with requestsTaken := bump s.resp.counters.requestsTaken } } }

/-- The command that takes a request of this kind (one for each sub-kind and query kind, R200). -/
def Request.command : Request → Instr
  | .statement _ => .statementQuery
  | .closing _ => .closingQuery
  | .pool _ => .poolQuery
  | .roster => .rosterQuery
  | .counters _ => .countersQuery
  | .conditions => .conditionsQuery
  | .check => .checkQuery
  | .cut _ _ => .cut
  | .release _ => .release
  | .ack _ => .ack
  | .rejoin => .rejoin
  | .clearCheck => .clearCheck
  | .undefined => .undefinedRequest

/-- The node with the request taken and counted and not yet answered: what a copy is taken from (R198, R201). -/
def State.taken (s : State) (e : RxEntry) : State :=
  { s with
    rx := s.rx.without e
    resp := { s.resp with counters := { s.resp.counters with requestsTaken := bump s.resp.counters.requestsTaken } } }

end Sys2Proof.Machine
end

