-- ==== Sys2Proof/Certificates/Slice0/Obligations.lean ====
section
/-! DEFINITION. The statements for the provers. Each says what a command does, what it leaves unchanged, or what every step keeps. -/

open Sys2Proof Sys2Proof.Machine

/-! ## Steps, the queue and the outcomes -/

/-- The command at the front of the queue runs on the state with the queue's rest. -/
def Obligations.StepRunsTheFrontCommand : Prop :=
  (∀ (c : Instr) (s : State), step (s.withPending (c :: s.pending)) = exec c s)
    ∧ ∀ (c : Instr) (rest : List Instr) (s : State), s.pending = c :: rest → step s = exec c { s with pending := rest }

/-- On an empty queue a running node counts every running time down by 20 ms; the tick is the model's choice (log entry 4). -/
def Obligations.IdleStepCountsTimesDown : Prop :=
  ∀ s : State, s.pending = [] →
    (s.control.power = .running →
      step s = .next { s with
        interval := { s.interval with
          timer := match s.interval.timer with | .running ms => .running (ms - 20) | .stopped => .stopped | .waitingLine => .waitingLine
          listen := s.interval.listen.map (fun ms => ms - 20) }
        ring := { s.ring with
          records := s.ring.records.map (fun r =>
            { r with gather := r.gather.map (fun ms => ms - 20), send := r.send.map (fun ms => ms - 20) }) } })
      ∧ (s.control.power ≠ .running → step s = .next s)

/-- No command stops the node: each answers a next state in every state, and none adds to the queue of waiting commands or takes from
it. That a command whose event cannot come about in its state answers next too is the model's choice (log entry 6). -/
def Obligations.EveryCommandAnswersNext : Prop :=
  ∀ (c : Instr) (s : State), ∃ t, exec c s = .next t ∧ t.pending = s.pending

/-! ## Frames on the line -/

/-- The levels of a frame are received as the frame they were made from: every field at every value its bits admit. The timer and the
held close of an own ANNOUNCE (R100) have no bits (DESIGN CHOICE, log entry 57). -/
def Obligations.ReceiveReadsBackLineBits : Prop :=
  ∀ (source : Nat) (body : FrameBody), 1 ≤ source → source ≤ 62 → body.wf →
    receive (lineBits source body) = .ok ⟨source, body.onLine⟩

/-! ## Invariants -/

/-- Every step keeps the ring's order and its place in each membership state. -/
def Obligations.RingStaysOrdered : Prop := ∀ s t : State, s.ringOrdered → step s = .next t → t.ringOrdered

/-- Every step keeps each class of the transmit queue within its reserve, so the queue within 16 frames. -/
def Obligations.TransmitQueueStaysWithinReserves : Prop :=
  ∀ s t : State, s.queueBounded → step s = .next t → t.queueBounded ∧ t.line.queue.length ≤ 16

/-- Every step keeps the receive pool within 40 frames, the notice list within 8 notices and the history within 4 entries. -/
def Obligations.CapacitiesAreKept : Prop :=
  ∀ s t : State, s.poolBounded → s.noticesBounded → s.historyBounded → step s = .next t →
    t.poolBounded ∧ t.noticesBounded ∧ t.historyBounded

/-- Every step keeps the roster within 32 entries in rising order of station, so no station twice. -/
def Obligations.RosterStaysOrdered : Prop := ∀ s t : State, s.rosterOrdered → step s = .next t → t.rosterOrdered

/-- The state after reset: the values that the spec gives for reset, every counter set zero, and the invariants. The model's own choices
among them: the channels' lifetimes 0 and the accounts undamaged before restore has read the store (DESIGN CHOICE, log entry 3), and the
empty queue of commands (DESIGN CHOICE, log entry 1). -/
def Obligations.ResetStateHoldsItsValues : Prop :=
  let s := State.reset
  (s.ringOrdered ∧ s.queueBounded ∧ s.poolBounded ∧ s.noticesBounded ∧ s.rosterOrdered ∧ s.historyBounded)
    ∧ (s.pending = [] ∧ s.ring.records = [] ∧ s.ring.history = [] ∧ s.ring.view = none)
    ∧ (s.engine.jobs = [] ∧ s.engine.flight = none)
    ∧ (s.interval.membership = .starting ∧ s.interval.timer = .stopped ∧ s.interval.held = none ∧ s.interval.driftRun = 0
        ∧ s.interval.driftMark = false ∧ s.interval.drain = false)
    ∧ (s.roster.entries = [] ∧ s.roster.fullMark = false ∧ s.roster.announce = .none)
    ∧ (s.line.monitor = .gap ∧ s.line.recessive = 0 ∧ s.line.queue = [] ∧ s.line.offers = [])
    ∧ (s.rx.entries = [] ∧ s.rx.mode = .normal ∧ s.rx.dropCurrent = false ∧ s.rx.dropLate = false ∧ s.rx.dropService = false)
    ∧ (s.check.counts = Four.fill ⟨0, 0, 0, 0⟩ ∧ s.check.capture = none ∧ s.check.run = 0 ∧ s.check.runInterval = 0
        ∧ s.check.latch = false)
    ∧ (s.cond.seq = 0 ∧ s.cond.notices = [] ∧ s.cond.record = none ∧ s.faultOutput = false)
    ∧ (s.resp.serving = none ∧ s.control.load = .reading ∧ s.control.resetCause = .powerOn)
    ∧ (s.ring.counters = ⟨0, 0, 0, 0, 0, 0, 0, 0, 0⟩ ∧ s.engine.counters = ⟨0, 0, 0, 0, 0, 0, 0, 0, 0⟩
        ∧ s.table.counters = ⟨0, 0, 0, 0, 0, 0⟩ ∧ s.interval.counters = ⟨0, 0, 0, 0, 0, 0, 0, 0, 0, 0, 0, 0, 0⟩
        ∧ s.roster.counters = ⟨0, 0, 0, 0, 0, 0, 0, 0, 0⟩
        ∧ s.line.counters = ⟨0, 0, 0, 0, 0, 0, 0, 0, 0, 0, 0, 0, 0, 0, 0, 0⟩
        ∧ s.rx.counters = ⟨0, 0, 0, 0, 0, 0, 0, 0, 0⟩ ∧ s.cond.counters = ⟨0, 0, 0, 0, 0, 0, 0, 0⟩
        ∧ s.resp.counters = ⟨0, 0, 0, 0, 0⟩)
    ∧ (s.line.stuckMark = false ∧ s.line.dupMark = false ∧ s.rx.peak = 0 ∧ s.store.writing = none ∧ s.store.queue = [])
    ∧ (∀ i : AccountId, (s.table.accounts.get i).pendingCut = none ∧ (s.table.accounts.get i).damaged = false)
    ∧ ∀ ch : ChannelId, s.channels.get ch =
        { sincePulses := 0, pulses := 0, volume := 0, energy := 0, reverse := 0, forwardRem := 0, reverseRem := 0, held := 0,
          still := false, idle := 0, toRead := none, reversed := false, reverseRun := 0, forwardRun := 0, sensorFault := false,
          badRun := 0, goodRun := 0, lastDelta := none, estimated := false, tampered := false, overrun := false,
          levelSeen := false, latch := false, life := ⟨0, 0, 0⟩, counters := ⟨0, 0, 0, 0, 0, 0⟩ }

/-! ## Supply, reset and start -/

/-- Power-on and a loss of supply: all but the retained records, the input levels and the queue is as after reset; power-on gives
cause 1. The RESET input: an assertion resets at once with cause 2, or is latched while a write is in progress and takes effect with
that write completed; the node is held while the input stays asserted and starts at its release. The reset values that the spec does
not state are the model's (log entries 3, 37, 59 and 60). -/
def Obligations.SupplyAndResetInputReset : Prop :=
  (∀ s : State,
     exec .powerOn s = .next { State.reset with
         pending := s.pending
         control := ⟨if s.control.resetIn then .heldInReset else .running, s.control.resetIn, false, .powerOn,
           s.control.supplyWarn, .reading⟩
         store := ⟨s.store.contents, none, []⟩ }
       ∧ exec .supplyLost s = .next { State.reset with
           pending := s.pending
           control := ⟨.off, s.control.resetIn, false, s.control.resetCause, s.control.supplyWarn, .reading⟩
           store := ⟨s.store.contents, none, []⟩ })
    ∧ (∀ s : State,
         (s.control.power ≠ .off → s.store.writing = none →
           exec .resetAsserted s = .next { State.reset with
             pending := s.pending
             control := ⟨.heldInReset, true, false, .resetInput, s.control.supplyWarn, .reading⟩
             store := ⟨s.store.contents, none, []⟩ })
           ∧ (∀ q, s.control.power ≠ .off → s.store.writing = some q →
               exec .resetAsserted s = .next { s with control := { s.control with resetIn := true, resetLatched := true } })
           ∧ (s.control.power = .off → exec .resetAsserted s = .next { s with control := { s.control with resetIn := true } })
           ∧ (s.control.resetLatched = true →
               exec .resetTakesEffect s = .next { State.reset with
                 pending := s.pending
                 control := ⟨if s.control.resetIn then .heldInReset else .running, s.control.resetIn, false, .resetInput,
                   s.control.supplyWarn, .reading⟩
                 store := ⟨match s.store.writing with | some q => s.store.contents.commit q.write | none => s.store.contents,
                   none, []⟩ })
           ∧ exec .resetReleased s = .next { s with control := { s.control with
               resetIn := false, power := if s.control.power = .heldInReset then .running else s.control.power } })

/-- LOAD_COMPLETE with a VALID image: the image is held, the plan digest computed, RESTARTED raised with the reset cause, then
ACCOUNT_FRESH for each fresh account; lifetimes and the node's last settled interval are restored, one STORE_DAMAGED covers all damaged
records, the monitor is in GAP, and the node LISTENING with L + G to listen. With an INVALID image: CONFIG_INVALID with the number of
the first check that failed is the fault, the node UNCONFIGURED with no accounts, and the FAULT output conducts. That the notices of fresh
accounts are raised by ascending index is log entry 34. -/
def Obligations.LoadCompleteStartsOrUnconfigures : Prop :=
  (∀ (bytes : List Byte) (s : State), s.control.power = .running → s.interval.membership = .starting →
     s.control.load = .reading → firstFailed bytes = none →
       ∃ t, exec (.loadComplete bytes) s = .next t
         ∧ t.image = parseImage bytes
         ∧ t.control = { s.control with load := .valid }
         ∧ t.interval = { s.interval with
             membership := .listening, listen := some (t.image.lengthMs + t.image.gatherMs) }
         ∧ t.roster = { s.roster with planDigest := planDigest t.image }
         ∧ t.line = { s.line with monitor := .gap, recessive := 0, dominant := 0 }
         ∧ (∀ ch, t.channels.get ch = Channel.fresh
             (match s.store.contents.lifetimes.get ch with | .valid l => l | .blank => Lifetime.zero | .damaged => Lifetime.zero))
         ∧ t.table.nodeLast = (match s.store.contents.node with | .valid k => k | .blank => 0 | .damaged => 0)
         ∧ t.store.contents = s.store.contents ∧ t.store.writing = s.store.writing
         ∧ t.pending = s.pending ∧ t.ring = s.ring ∧ t.engine = s.engine ∧ t.rx = s.rx ∧ t.check = s.check ∧ t.resp = s.resp
         ∧ t.table.holdsAccounts = true
         ∧ (let unit (i : AccountId) : Nat := (t.image.accounts.get i).unit
            let fresh := allAccounts.filter (fun i => match s.store.contents.accounts.get i with
              | .valid r => r.unit != unit i
              | .blank => true
              | .damaged => false)
            let shown (c : Condition) : Cause × Nat × Nat × CondSending := (c.cause, c.param, c.interval, c.sending)
            s.cond.notices.length + 1 + fresh.length ≤ 8 →
              t.cond.notices.map shown = s.cond.notices.map shown
                ++ (.restarted, (match s.control.resetCause with | .powerOn => 1 | .resetInput => 2), s.interval.openNumber, .unsent)
                  :: fresh.map (fun i => (.accountFresh, i.val * 4096 + unit i, s.interval.openNumber, .unsent)))
         ∧ (let damaged : List Nat :=
              (allAccounts.filter (fun i => s.store.contents.accounts.get i = .damaged)).map (fun i => i.val)
                ++ (allAccounts.filter (fun i => s.store.contents.statements.get i = .damaged)).map (fun i => 16 + i.val)
                ++ (allChannels.filter (fun ch => s.store.contents.lifetimes.get ch = .damaged)).map (fun ch => 32 + ch.val)
                ++ (if s.store.contents.node = .damaged then [40] else [])
            (damaged = [] → t.cond.record = s.cond.record ∧ t.cond.counters.faultsRaised = s.cond.counters.faultsRaised)
              ∧ ∀ lowest others, damaged = lowest :: others → s.cond.record = none →
                t.cond.counters.faultsRaised = bump s.cond.counters.faultsRaised
                  ∧ ∃ n, t.cond.record = some ⟨⟨n, .storeDamaged, (others.length + 1) * 256 + lowest,
                    s.interval.openNumber, .unsent⟩, none, none⟩))
    ∧ (∀ (bytes : List Byte) (n : Nat) (s : State), s.control.power = .running → s.interval.membership = .starting →
         s.control.load = .reading → firstFailed bytes = some n → s.cond.record = none →
           ∃ t, exec (.loadComplete bytes) s = .next t
             ∧ t = { s with
                 control := { s.control with load := .invalid n }
                 interval := { s.interval with membership := .unconfigured }
                 table := { s.table with holdsAccounts := false }
                 cond := { s.cond with
                   seq := s.nextSeq
                   record := some ⟨⟨s.nextSeq, .configInvalid, n, s.interval.openNumber, .unsent⟩, none, none⟩
                   counters := { s.cond.counters with faultsRaised := bump s.cond.counters.faultsRaised } } }
             ∧ t.faultOutput = true ∧ 1 ≤ n ∧ n ≤ 12)

/-- Restore at LOAD_COMPLETE, for each account index: the statement slot from its record, a PROVISIONAL one FINAL and INCOMPLETE and
rewritten so; the account as stored, fresh, or DAMAGED, above the tenancy of a statement held; a cut whose account write was
interrupted is completed; a fresh account and a completed cut are written. -/
def Obligations.RestoreBuildsAccountsAndStatements : Prop :=
  ∀ (bytes : List Byte) (s : State) (i : AccountId), s.control.power = .running → s.interval.membership = .starting →
    s.control.load = .reading → firstFailed bytes = none →
      ∃ t, exec (.loadComplete bytes) s = .next t
        ∧ (let slot : Option Statement := match s.store.contents.statements.get i with
              | .valid (some st) => some (if st.final then st else { st with final := true, incomplete := true })
              | _ => none
            let next : Nat := match slot with | some st => st.tenancy + 1 | none => 1
            let unit := (t.image.accounts.get i).unit
            let becomes (a : Account) : Prop := t.table.accounts.get i = a
            let requested (n : Nat) : List StoreRequest := t.store.queue.filter (fun q => q.write.recordNumber == n)
            let fresh := s.store.contents.accounts.get i = .blank
              ∨ ∃ r, s.store.contents.accounts.get i = .valid r ∧ r.unit ≠ unit
            t.table.slots.get i = slot
              ∧ (∀ r, s.store.contents.accounts.get i = .valid r → r.unit = unit → (∀ st, slot = some st → st.tenancy < r.tenancy) →
                  becomes ⟨r.tenancy, r.status, ⟨r.settled.last, r.settled.figures.masked (t.image.accounts.get i).mask⟩, none, false⟩)
              ∧ (∀ r st, s.store.contents.accounts.get i = .valid r → r.unit = unit → slot = some st → r.tenancy ≤ st.tenancy →
                  becomes ⟨st.tenancy + 1, st.newStatus, ⟨st.settled.last, Figures.zero⟩, none, false⟩)
              ∧ (fresh → becomes ⟨next, .occupied, ⟨0, Figures.zero⟩, none, false⟩)
              ∧ (s.store.contents.accounts.get i = .damaged → becomes ⟨next, .occupied, ⟨0, Figures.zero⟩, none, true⟩)
              ∧ (s.store.queue = [] →
                  (∀ st, s.store.contents.statements.get i = .valid (some st) → st.final = false →
                    requested (16 + i.val) = [⟨.statement i slot, false⟩])
                    ∧ (fresh → requested i.val = [⟨.account i ⟨unit, next, .occupied, ⟨0, Figures.zero⟩⟩, false⟩])
                    ∧ (∀ r st, s.store.contents.accounts.get i = .valid r → r.unit = unit → slot = some st →
                        r.tenancy ≤ st.tenancy →
                        requested i.val =
                          [⟨.account i ⟨unit, st.tenancy + 1, st.newStatus, ⟨st.settled.last, Figures.zero⟩⟩, false⟩])
                    ∧ (s.store.contents.accounts.get i = .damaged → requested i.val = [])))

/-- SUPPLY-WARN asserts: a queue of frames that waits, every write that waits and a SETTLE job whose write waits are counted. It clears:
starts and writes may go on, and a SETTLE job that waited before a write requests it. That SETTLE_WAITS counts at the assertion for a
write already requested, and STORE_HELD once for each request that waits then, is log entry 36. -/
def Obligations.SupplyWarnHoldsAndReleases : Prop :=
  (∀ s : State,
     (s.control.supplyWarn = false → s.control.power = .running →
       exec .supplyWarnAsserted s = .next { s with
         control := { s.control with supplyWarn := true }
         line :=
           if s.live && !s.line.queue.isEmpty then
             { s.line with
               warnCounted := true
               counters := { s.line.counters with warnHolds := bump s.line.counters.warnHolds } }
           else s.line
         table := { s.table with
           counters := { s.table.counters with storeHeld := bumpBy s.store.queue.length s.table.counters.storeHeld } }
         engine :=
           if s.store.queue.any (fun q => q.awaited) then
             { s.engine with counters := { s.engine.counters with settleWaits := bump s.engine.counters.settleWaits } }
           else s.engine })
       ∧ (s.control.supplyWarn = false → s.control.power ≠ .running →
           exec .supplyWarnAsserted s = .next { s with control := { s.control with supplyWarn := true } })
       ∧ (s.control.supplyWarn = true → exec .supplyWarnAsserted s = .next s))
    ∧ (∀ s : State,
         (∀ j w, s.engine.flight = some (.settle j) → j.heldByWarning = true → j.waiting = some w →
           exec .supplyWarnDeasserted s = .next { s with
             control := { s.control with supplyWarn := false }
             line := { s.line with warnCounted := false }
             engine := { s.engine with flight := some (.settle { j with heldByWarning := false }) }
             store := { s.store with
               queue :=
                 s.store.queue.filter (fun q => q.write.recordNumber != (s.settleContents j.interval w).recordNumber)
                   ++ [⟨s.settleContents j.interval w, true⟩] } })
           ∧ ((∀ j, s.engine.flight = some (.settle j) → j.heldByWarning = false) →
               exec .supplyWarnDeasserted s = .next { s with
                 control := { s.control with supplyWarn := false }
                 line := { s.line with warnCounted := false } }))

/-! ## Meter channels -/

/-- PULSE_INPUT on a channel that is watched counts one pulse for the next sample and changes nothing else; an OFF channel's input is
not read. TAMPER_EDGE on a PULSE tamper input: every edge is counted; one that finds the latch clear sets it, marks the channel
TAMPERED and raises TAMPER, which takes the oldest notice's place when the list is full. A LEVEL tamper input is taken at each sample:
asserted it marks the channel TAMPERED, and where the sample before found it deasserted it is counted and raises TAMPER. -/
def Obligations.PulseAndTamperInputsAreCounted : Prop :=
  (∀ (ch : ChannelId) (s : State),
     (s.live = true → (s.image.channels.get ch).kind ≠ .off →
       exec (.pulseInput ch) s = .next { s with
         channels := s.channels.set ch
           { s.channels.get ch with sincePulses := (s.channels.get ch).sincePulses + 1 } })
       ∧ ((s.image.channels.get ch).kind = .off → exec (.pulseInput ch) s = .next s))
    ∧ (∀ (ch : ChannelId) (s : State), s.live = true → (s.image.channels.get ch).kind ≠ .off →
         (s.image.channels.get ch).tamper = .pulse →
           let c := s.channels.get ch
           let counted : ChannelCounters := { c.counters with tamperEvents := bump c.counters.tamperEvents }
           let marked : Channel := { c with latch := true, tampered := true, counters := counted }
           (c.latch = true →
             exec (.tamperEdge ch) s = .next { s with channels := s.channels.set ch { c with counters := counted } })
             ∧ (c.latch = false → s.cond.notices.length < 8 →
                 exec (.tamperEdge ch) s = .next { s with
                   channels := s.channels.set ch marked
                   cond := { s.cond with
                     seq := s.nextSeq
                     notices := s.cond.notices ++ [⟨s.nextSeq, .tamper, ch.val * 256 + 1, s.interval.openNumber, .unsent⟩] } })
             ∧ (∀ old rest, c.latch = false → s.cond.notices = old :: rest → 8 ≤ s.cond.notices.length → old.cause ≠ .tamper →
                 ∃ n, exec (.tamperEdge ch) s = .next { s with
                   channels := s.channels.set ch marked
                   cond := { s.cond with
                     seq := n
                     notices := rest ++ [⟨n, .tamper, ch.val * 256 + 1, s.interval.openNumber, .unsent⟩]
                     counters := { s.cond.counters with
                       noticesDisplaced := bump s.cond.counters.noticesDisplaced
                       displacedUnsent :=
                         if old.sending = .unsent then bump s.cond.counters.displacedUnsent
                         else s.cond.counters.displacedUnsent } } }))
    ∧ (∀ (ch : ChannelId) (supply ret : Int) (contact : Contact) (s : State), s.live = true →
         (s.image.channels.get ch).kind ≠ .off → (s.image.channels.get ch).tamper = .level →
           let c := s.channels.get ch
           ∃ t, exec (.sample ch supply ret contact) s = .next t
             ∧ (contact ≠ (s.image.channels.get ch).asserted →
                 (t.channels.get ch).levelSeen = false ∧ (t.channels.get ch).tampered = c.tampered
                   ∧ (t.channels.get ch).counters.tamperEvents = c.counters.tamperEvents)
             ∧ (contact = (s.image.channels.get ch).asserted →
                 (t.channels.get ch).levelSeen = true ∧ (t.channels.get ch).tampered = true
                   ∧ (c.levelSeen = true → (t.channels.get ch).counters.tamperEvents = c.counters.tamperEvents)
                   ∧ (c.levelSeen = false → (t.channels.get ch).counters.tamperEvents = bump c.counters.tamperEvents
                       ∧ ∃ n, t.cond.notices.getLast? =
                         some ⟨n, .tamper, ch.val * 256, s.interval.openNumber, .unsent⟩)))

/-- SAMPLE of any kind but OFF takes the pulses since the last sample into the interval's pulses and volume, held at their
maximum, counts an overrun above 40 pulses, and changes no block but the channels and the condition unit. An overrun sets the overrun
mark, and raises PULSE_OVERRUN only where the mark was clear, so once an interval: the snapshot clears it. The flow condition of a
CONSUMER or PLANT follows R87: the thirtieth sample without pulses makes it STILL, reads are then 30 samples apart, and the pulses that
end a standstill integrate nothing and go to the held volume, which the next sample releases. -/
def Obligations.SampleCountsPulsesAndVolume : Prop :=
  ∀ (ch : ChannelId) (supply ret : Int) (contact : Contact) (s : State), s.live = true →
    (s.image.channels.get ch).kind ≠ .off →
      let c := s.channels.get ch
      ∃ t, exec (.sample ch supply ret contact) s = .next t
        ∧ t = { s with channels := t.channels, cond := t.cond }
        ∧ (t.channels.get ch).sincePulses = 0
        ∧ (t.channels.get ch).pulses = min (c.pulses + c.sincePulses) 4294967295
        ∧ (t.channels.get ch).volume = min (c.volume + c.sincePulses * (s.image.channels.get ch).weight) 4294967295
        ∧ (t.channels.get ch).life = c.life
        ∧ (40 < c.sincePulses → (t.channels.get ch).overrun = true
            ∧ (t.channels.get ch).counters.overrunSamples = bump c.counters.overrunSamples
            ∧ (c.overrun = false → ∃ n, (⟨n, .pulseOverrun, ch.val * 256 + min c.sincePulses 255, s.interval.openNumber, .unsent⟩ :
                Condition) ∈ t.cond.notices))
        ∧ (c.overrun = true ∨ c.sincePulses ≤ 40 → ∀ x ∈ t.cond.notices, x.cause = .pulseOverrun → x ∈ s.cond.notices)
        ∧ (c.sincePulses ≤ 40 → (t.channels.get ch).overrun = c.overrun
            ∧ (t.channels.get ch).counters.overrunSamples = c.counters.overrunSamples)
        ∧ (∀ other, other ≠ ch →
            t.channels.get other = { s.channels.get other with latch := (t.channels.get other).latch })
        ∧ ((s.image.channels.get ch).kind = .consumer ∨ (s.image.channels.get ch).kind = .plant →
            let x := t.channels.get ch
            let volume := c.sincePulses * (s.image.channels.get ch).weight
            let noRead := x.lastDelta = c.lastDelta ∧ x.sensorFault = c.sensorFault ∧ x.badRun = c.badRun ∧ x.goodRun = c.goodRun
            (c.still = false → 0 < c.sincePulses → x.still = false ∧ x.idle = 0 ∧ x.toRead = c.toRead ∧ x.held = 0)
              ∧ (c.still = false → c.sincePulses = 0 → c.idle < 29 →
                  x.still = false ∧ x.idle = c.idle + 1 ∧ x.toRead = c.toRead ∧ x.held = 0)
              ∧ (c.still = false → c.sincePulses = 0 → 29 ≤ c.idle →
                  x.still = true ∧ x.idle = 30 ∧ x.toRead = some 30 ∧ x.held = 0)
              ∧ (∀ n, c.still = true → c.sincePulses = 0 → c.toRead = some n → 1 < n →
                  x.still = true ∧ x.idle = c.idle ∧ x.toRead = some (n - 1) ∧ x.held = 0 ∧ noRead)
              ∧ (∀ n, c.still = true → c.sincePulses = 0 → c.toRead = some n → n ≤ 1 →
                  x.still = true ∧ x.idle = c.idle ∧ x.toRead = some 30 ∧ x.held = 0
                    ∧ (-2000 ≤ supply → supply ≤ 15000 → -2000 ≤ ret → ret ≤ 15000 →
                        x.lastDelta = some (match (s.image.pools.get (s.image.channels.get ch).pool).kind with
                          | .heat => supply - ret
                          | .cold => ret - supply)))
              ∧ (c.still = true → 0 < c.sincePulses →
                  x.still = false ∧ x.idle = 0 ∧ x.toRead = none ∧ x.held = min (c.held + volume) 4294967295 ∧ noRead
                    ∧ x.energy = c.energy ∧ x.reverse = c.reverse ∧ x.forwardRem = c.forwardRem ∧ x.reverseRem = c.reverseRem))

/-- A CONSUMER or PLANT sample in flow, or one that releases held volume, with a good read and GOOD sensors: its exact energy goes to the
forward figure when ΔT is above the dead band in FORWARD direction, else to the reverse figure, and within the dead band to none; the
thirtieth sample in a row of the other sense turns the direction, into REVERSED with a notice. Nothing else changes. -/
def Obligations.ForwardSampleAddsExactEnergy : Prop :=
  ∀ (ch : ChannelId) (supply ret : Int) (contact : Contact) (s : State),
    let d := s.image.channels.get ch
    let pool := s.image.pools.get d.pool
    let c := s.channels.get ch
    let delta : Int := match pool.kind with | .heat => supply - ret | .cold => ret - supply
    let volume := c.sincePulses * d.weight + c.held
    let sampled : Channel := { c with
      sincePulses := 0
      pulses := min (c.pulses + c.sincePulses) 4294967295
      volume := min (c.volume + c.sincePulses * d.weight) 4294967295
      idle := if 0 < c.sincePulses then 0 else c.idle + 1
      held := 0
      badRun := 0
      lastDelta := some delta }
    let clipped (energy : Nat) : ChannelCounters :=
      if 4294967295 < energy then { c.counters with energyClipped := bump c.counters.energyClipped } else c.counters
    let total := c.forwardRem + volume * delta.toNat * pool.coeff
    let forward : Channel := { sampled with
      energy := min (c.energy + total / 1000000) 4294967295
      forwardRem := total % 1000000
      counters := clipped (c.energy + total / 1000000) }
    let against (size : Nat) := c.reverseRem + volume * size * pool.coeff
    let reverse (size : Nat) : Channel := { sampled with
      reverse := min (c.reverse + against size / 1000000) 4294967295
      reverseRem := against size % 1000000
      counters := clipped (c.reverse + against size / 1000000) }
    let gives (x : Channel) : Prop := exec (.sample ch supply ret contact) s = .next { s with channels := s.channels.set ch x }
    s.live = true → (d.kind = .consumer ∨ d.kind = .plant) → d.tamper = .pulse → 0 < d.weight →
    (0 < c.sincePulses ∨ (0 < c.held ∧ c.idle < 29)) → c.sincePulses ≤ 40 → c.still = false → c.sensorFault = false →
    -2000 ≤ supply → supply ≤ 15000 → -2000 ≤ ret → ret ≤ 15000 →
      (c.reversed = false → (d.deadBand : Int) < delta → gives { forward with reverseRun := 0 })
        ∧ (c.reversed = true → (d.deadBand : Int) < delta → c.forwardRun < 29 →
            gives { reverse delta.toNat with forwardRun := c.forwardRun + 1 })
        ∧ (c.reversed = true → (d.deadBand : Int) < delta → 29 ≤ c.forwardRun →
            gives { reverse delta.toNat with reversed := false, forwardRun := 0, reverseRun := 0 })
        ∧ (c.reversed = true → delta < -(d.deadBand : Int) → gives { reverse (-delta).toNat with forwardRun := 0 })
        ∧ (c.reversed = false → delta < -(d.deadBand : Int) → c.reverseRun < 29 →
            gives { reverse (-delta).toNat with reverseRun := c.reverseRun + 1 })
        ∧ (c.reversed = false → delta < -(d.deadBand : Int) → 29 ≤ c.reverseRun → s.cond.notices.length < 8 →
            let turned : Channel := reverse (-delta).toNat
            exec (.sample ch supply ret contact) s = .next { s with
              channels := s.channels.set ch { turned with
                reversed := true
                forwardRun := 0
                reverseRun := 0
                counters := { turned.counters with reverseEntries := bump turned.counters.reverseEntries } }
              cond := { s.cond with
                seq := s.nextSeq
                notices := s.cond.notices ++ [⟨s.nextSeq, .reversed, ch.val, s.interval.openNumber, .unsent⟩] } })
        ∧ (-(d.deadBand : Int) ≤ delta → delta ≤ (d.deadBand : Int) →
            gives { sampled with
              forwardRun := if c.reversed then 0 else c.forwardRun
              reverseRun := if c.reversed then c.reverseRun else 0
              counters := { c.counters with deadBandSamples := bump c.counters.deadBandSamples } })

/-- A bad read, of the supply side, the return side or both, makes the sample SUBSTITUTED: the nominal ΔT goes to the forward figure and
ESTIMATED is set; the third bad read in a row enters FAULT and raises SENSOR_FAULT, which says which sensors were bad. In FAULT every
integrating sample is SUBSTITUTED, one with a good read too: a good read sets the last ΔT and counts, the tenth in a row returns the
condition to GOOD, a bad one starts the count again. Every sample in FAULT, with or without flow, sets ESTIMATED and leaves the direction
condition and the reverse figure as they were. -/
def Obligations.BadReadSubstitutesTheNominalDelta : Prop :=
  ∀ (ch : ChannelId) (supply ret : Int) (contact : Contact) (s : State),
    let d := s.image.channels.get ch
    let pool := s.image.pools.get d.pool
    let c := s.channels.get ch
    let bad : Nat := (if -2000 ≤ supply ∧ supply ≤ 15000 then 0 else 1) + (if -2000 ≤ ret ∧ ret ≤ 15000 then 0 else 2)
    let delta : Int := match pool.kind with | .heat => supply - ret | .cold => ret - supply
    let total := c.forwardRem + (c.sincePulses * d.weight + c.held) * pool.nominal * pool.coeff
    let sampled : Channel := { c with
      sincePulses := 0
      pulses := min (c.pulses + c.sincePulses) 4294967295
      volume := min (c.volume + c.sincePulses * d.weight) 4294967295
      idle := 0
      held := 0
      energy := c.energy + total / 1000000
      forwardRem := total % 1000000
      estimated := true }
    let gives (x : Channel) : Prop := exec (.sample ch supply ret contact) s = .next { s with channels := s.channels.set ch x }
    s.live = true → (d.kind = .consumer ∨ d.kind = .plant) →
      (d.tamper = .pulse → 0 < d.weight → 0 < c.sincePulses → c.sincePulses ≤ 40 → c.still = false →
        c.energy + total / 1000000 ≤ 4294967295 →
          (c.sensorFault = false → bad ≠ 0 → c.badRun < 2 → gives { sampled with badRun := c.badRun + 1 })
            ∧ (c.sensorFault = false → bad ≠ 0 → 2 ≤ c.badRun → s.cond.notices.length < 8 →
                exec (.sample ch supply ret contact) s = .next { s with
                  channels := s.channels.set ch { sampled with
                    badRun := 3
                    sensorFault := true
                    goodRun := 0
                    counters := { c.counters with faultEntries := bump c.counters.faultEntries } }
                  cond := { s.cond with
                    seq := s.nextSeq
                    notices :=
                      s.cond.notices ++ [⟨s.nextSeq, .sensorFault, ch.val * 16 + bad, s.interval.openNumber, .unsent⟩] } })
            ∧ (c.sensorFault = true → bad ≠ 0 → gives { sampled with goodRun := 0 })
            ∧ (c.sensorFault = true → bad = 0 → c.goodRun < 9 →
                gives { sampled with lastDelta := some delta, goodRun := c.goodRun + 1 })
            ∧ (c.sensorFault = true → bad = 0 → 9 ≤ c.goodRun →
                gives { sampled with lastDelta := some delta, goodRun := c.goodRun + 1, sensorFault := false, badRun := 0 }))
        ∧ (c.sensorFault = true →
            ∃ t, exec (.sample ch supply ret contact) s = .next t
              ∧ (let x := t.channels.get ch
                 x.estimated = true ∧ x.reversed = c.reversed ∧ x.reverseRun = c.reverseRun ∧ x.forwardRun = c.forwardRun
                   ∧ x.reverse = c.reverse ∧ x.reverseRem = c.reverseRem ∧ x.counters.faultEntries = c.counters.faultEntries))

/-- Over any run of products the watt-hours added and the remainder together are the exact sum, for the forward figure and for
the reverse figure, while no figure is clipped; a clipped figure of either kind is held at its maximum, counted, and its remainder
still set. -/
def Obligations.EnergyIntegrationLosesNothing : Prop :=
  (∀ (ps : List Nat) (c : Channel), c.forwardRem < 1000000 → c.energy + (c.forwardRem + ps.sum) / 1000000 ≤ 4294967295 →
      let t := ps.foldl (fun x p => x.addForward p) c
      t.energy * 1000000 + t.forwardRem = c.energy * 1000000 + c.forwardRem + ps.sum ∧ t.forwardRem < 1000000
        ∧ t = { c with energy := t.energy, forwardRem := t.forwardRem })
    ∧ (∀ (ps : List Nat) (c : Channel), c.reverseRem < 1000000 → c.reverse + (c.reverseRem + ps.sum) / 1000000 ≤ 4294967295 →
        let t := ps.foldl (fun x p => x.addReverse p) c
        t.reverse * 1000000 + t.reverseRem = c.reverse * 1000000 + c.reverseRem + ps.sum ∧ t.reverseRem < 1000000
          ∧ t = { c with reverse := t.reverse, reverseRem := t.reverseRem })
    ∧ (∀ (p : Nat) (c : Channel), 4294967295 < c.energy + (c.forwardRem + p) / 1000000 →
        c.addForward p = { c with
          energy := 4294967295
          forwardRem := (c.forwardRem + p) % 1000000
          counters := { c.counters with energyClipped := bump c.counters.energyClipped } })
    ∧ ∀ (p : Nat) (c : Channel), 4294967295 < c.reverse + (c.reverseRem + p) / 1000000 →
        c.addReverse p = { c with
          reverse := 4294967295
          reverseRem := (c.reverseRem + p) % 1000000
          counters := { c.counters with energyClipped := bump c.counters.energyClipped } }

/-- R96: the cost of a SUPPLY channel's snapshot is its pulses at the price of the record's band, held at its maximum and then
counted; it can be held only above one million pulses; a price of 0 costs nothing. -/
def Obligations.SupplySnapshotCostIsPulsesTimesPrice : Prop :=
  ∀ (ch : ChannelId) (cause : CloseCause) (station : Option Nat) (r : Record) (s : State),
    let d := s.image.channels.get ch
    let c := s.channels.get ch
    d.kind = .supply → findRecord r.number s = some r →
      (c.snapshot d r.band).cost = min (c.pulses * d.prices.get r.band) 1099511627775
        ∧ (((closeRecord r.number cause station s).channels.get ch).counters.energyClipped =
            bumpBy ((if 281474976710655 - c.life.energy < c.energy then 1 else 0)
              + (if 281474976710655 < c.life.reverse + c.reverse then 1 else 0)
              + (if 281474976710655 < c.life.volume + c.volume then 1 else 0)
              + (if 1099511627775 < c.pulses * d.prices.get r.band then 1 else 0)) c.counters.energyClipped)
        ∧ (d.prices.get r.band ≤ 1048575 → 1099511627775 < c.pulses * d.prices.get r.band → 1000000 < c.pulses)
        ∧ (d.prices.get r.band = 0 → (c.snapshot d r.band).cost = 0)
        ∧ (d.pool.val < 4 → s.image.mask.has d.pool = true →
            ((s.closedRecord cause station r).pools.get d.pool).own.map (fun o => o.values.c) =
              some (min ((s.snapshots .supply d.pool r.band (fun _ => true)).map (fun x => x.cost)).sum 1099511627775))
/-! ## The share line: monitor and transmitter -/

/-- Eleven recessive bit times take GAP or STUCK to IDLE; a dominant bit in IDLE starts a frame. A line dominant for more than 64 bit
times puts the monitor in STUCK and is counted; with the stuck mark clear and an empty fault record it becomes the fault LINE_STUCK
and the FAULT output conducts. -/
def Obligations.LineMonitorFollowsTheLine : Prop :=
  (∀ s : State, s.live = true →
     (s.line.monitor = .gap ∨ s.line.monitor = .stuck → s.control.supplyWarn = false →
       exec .lineIdle s = .next { s with line := { s.line with monitor := .idle, recessive := 11, dominant := 0 } })
       ∧ (s.line.monitor = .gap ∨ s.line.monitor = .stuck → s.control.supplyWarn = true → s.line.warnCounted = false →
           s.line.queue ≠ [] →
             exec .lineIdle s = .next { s with line := { s.line with
               monitor := .idle
               recessive := 11
               dominant := 0
               warnCounted := true
               counters := { s.line.counters with warnHolds := bump s.line.counters.warnHolds } } })
       ∧ (s.line.monitor = .idle →
           exec .startBit s = .next { s with line := { s.line with monitor := .frame, recessive := 0, dominant := 1 } }))
    ∧ (∀ s : State, s.live = true → s.line.monitor ≠ .stuck → (∀ f ∈ s.line.queue, f.sending = false) →
         let n := bump s.line.counters.stuckEpisodes
         let stuck : Line := { s.line with
           monitor := .stuck, recessive := 0, dominant := 65, counters := { s.line.counters with stuckEpisodes := n } }
         (s.line.stuckMark = true → exec .lineStuck s = .next { s with line := stuck })
           ∧ (s.line.stuckMark = false → s.cond.record = none →
               ∃ t, exec .lineStuck s = .next t
                 ∧ t = { s with
                     line := { stuck with stuckMark := true }
                     cond := { s.cond with
                       seq := s.nextSeq
                       record := some ⟨⟨s.nextSeq, .lineStuck, n, s.interval.openNumber, .unsent⟩, none, none⟩
                       counters := { s.cond.counters with faultsRaised := bump s.cond.counters.faultsRaised } } }
                 ∧ t.faultOutput = true))

/-- A second fault in MEMBER (here a stuck line) becomes the compound cause and the node enters OBSERVER: its CLOSE, RECALL,
SUMMARY and ANNOUNCE frames leave the queue, the offer list is emptied, own summaries are WITHDRAWN, a queued own CLOSE reloads
the timer, and what else the node holds stays. -/
def Obligations.SecondFaultInMemberEntersObserver : Prop :=
  ∀ (r : FaultRecord) (s : State), s.live = true → s.interval.membership = .member → s.line.monitor ≠ .stuck →
    (∀ f ∈ s.line.queue, f.sending = false) → s.line.stuckMark = false → s.cond.record = some r → r.compound = none →
      ∃ t, exec .lineStuck s = .next t
        ∧ t = { s with interval := t.interval, line := t.line, cond := t.cond, ring := t.ring, roster := t.roster }
        ∧ t.cond.record = some { r with
            compound := some ⟨s.nextSeq, .lineStuck, bump s.line.counters.stuckEpisodes, s.interval.openNumber, .unsent⟩ }
        ∧ t.cond.notices = s.cond.notices
        ∧ t.cond.counters = { s.cond.counters with
            faultsRaised := bump s.cond.counters.faultsRaised, observerEntries := bump s.cond.counters.observerEntries }
        ∧ t.interval.membership = .observer ∧ t.interval.openNumber = s.interval.openNumber ∧ t.interval.held = s.interval.held
        ∧ (t.interval.timer = if s.line.queue.any (fun f => f.body.kind == 1) then .running s.image.lengthMs else s.interval.timer)
        ∧ t.line.queue = s.line.queue.filter (fun f => f.body.kind == 2 || f.body.kind == 7)
        ∧ t.line.offers = [] ∧ t.line.monitor = .stuck
        ∧ t.roster = { s.roster with announce := .none }
        ∧ t.ring = { s.ring with records := s.ring.records.map (fun x =>
            { x with pools := x.pools.map (fun p =>
              { p with
                sending :=
                  if p.sending = some .waiting ∨ p.sending = some .offered ∨ p.sending = some .queued then some .withdrawn
                  else p.sending
                resendQueued := false }) }) }

/-- The transmitter starts the head of the queue when the monitor is IDLE and SUPPLY-WARN is not asserted; under SUPPLY-WARN it
starts nothing. -/
def Obligations.FrameStartSendsTheHead : Prop :=
  ∀ (f : TxFrame) (rest : List TxFrame) (s : State), s.live = true → s.line.queue = f :: rest →
    (s.control.supplyWarn = false → s.line.monitor = .idle → (∀ g ∈ s.line.queue, g.sending = false) →
      exec .frameStart s = .next { s with line := { s.line with
        queue := { f with sending := true } :: rest, monitor := .frame, recessive := 0, dominant := 1 } })
      ∧ (s.control.supplyWarn = true → exec .frameStart s = .next s)

/-- The frame on the line loses contention: it is QUEUED again, its attempts unchanged. A collision error before the fourth attempt
aborts it: QUEUED again with one attempt more, the monitor in GAP, and the node's own receiver, which assembles its own frame like any
other (R147), discards the frame cut off and counts it. The model takes the queue to hold one SENDING frame. That the dominant run is
0 after the abort mark is the model's choice (DESIGN CHOICE, log entry 5). -/
def Obligations.ContentionAndCollisionKeepTheFrame : Prop :=
  ∀ (f : TxFrame) (before after : List TxFrame) (s : State), s.live = true → s.line.queue = before ++ f :: after →
    (∀ g ∈ before ++ after, g.sending = false) → f.sending = true →
      exec .contentionLost s = .next { s with line := { s.line with
          queue := before ++ { f with sending := false } :: after
          counters := { s.line.counters with txContentionLost := bump s.line.counters.txContentionLost } } }
        ∧ (f.attempts < 3 →
            exec .collisionError s = .next { s with line := { s.line with
              queue := before ++ { f with sending := false, attempts := f.attempts + 1 } :: after
              monitor := .gap
              recessive := 0
              dominant := 0
              counters := { s.line.counters with
                txCollisions := bump s.line.counters.txCollisions, rxBadForm := bump s.line.counters.rxBadForm } } })

/-- The fourth collision error abandons the frame: it leaves the queue and is counted, its producer is told, and TX_ABANDON is
raised for every kind but CONDITION, with kind × 256 + interval mod 256 for a frame that names an interval; in a full notice list it
takes the place of the oldest. The node's own receiver counts the frame cut off (R147). Whether an ANNOUNCE names an interval is open
(log entry 15); that the dominant run is 0 after the abort mark is the model's choice (DESIGN CHOICE, log entry 5). -/
def Obligations.FourthCollisionAbandonsTheFrame : Prop :=
  ∀ (f : TxFrame) (before after : List TxFrame) (s : State), s.live = true → s.line.queue = before ++ f :: after →
    (∀ g ∈ before ++ after, g.sending = false) → f.sending = true → 3 ≤ f.attempts →
      let kept := if 8 ≤ s.cond.notices.length then s.cond.notices.tail else s.cond.notices
      ∃ t, exec .collisionError s = .next t
        ∧ t.line = { s.line with
            queue := before ++ after
            monitor := .gap
            recessive := 0
            dominant := 0
            counters := { s.line.counters with
              txCollisions := bump s.line.counters.txCollisions
              txAbandoned := bump s.line.counters.txAbandoned
              rxBadForm := bump s.line.counters.rxBadForm } }
        ∧ t = { s with
            line := t.line, interval := t.interval, ring := t.ring, roster := t.roster, cond := t.cond, resp := t.resp
            channels := t.channels }
        ∧ (s.cond.notices.length < 8 → t.channels = s.channels)
        ∧ (∀ ch, t.channels.get ch = { s.channels.get ch with latch := (t.channels.get ch).latch })
        ∧ (∀ k band, f.body = .close k band →
            t.interval = { s.interval with timer := .running s.image.lengthMs } ∧ t.ring = s.ring ∧ t.roster = s.roster
              ∧ t.resp = s.resp ∧ ∃ n, t.cond.notices =
                kept ++ [⟨n, .txAbandon, 1 * 256 + k % 256, s.interval.openNumber, .unsent⟩])
        ∧ (∀ p, f.body = .condition p →
            t.interval = s.interval ∧ t.ring = s.ring ∧ t.roster = s.roster ∧ t.resp = s.resp
              ∧ t.cond.notices = s.cond.notices.map (fun c => if c.seq = conditionSeq p then { c with sending := .unsent } else c)
              ∧ t.cond.counters = s.cond.counters)
        ∧ (∀ b, f.body = .summary b →
            t.ring = { s.ring with records := s.ring.records.map (fun x =>
                if x.number = b.interval then
                  { x with
                    pools := x.pools.set b.pool
                      (if b.resend then { x.pools.get b.pool with resendQueued := false }
                      else { x.pools.get b.pool with sending := some .notSent }) }
                else x) }
              ∧ t.interval = s.interval ∧ t.roster = s.roster ∧ t.resp = s.resp
              ∧ ∃ n, t.cond.notices =
                kept ++ [⟨n, .txAbandon, 4 * 256 + b.interval % 256, s.interval.openNumber, .unsent⟩])
        ∧ (∀ role m mask d n u, f.body = .announce role m mask d n u →
            t.roster = { s.roster with announce := .none } ∧ t.interval = s.interval ∧ t.ring = s.ring ∧ t.resp = s.resp
              ∧ ∃ q param, (param = 5 * 256 ∨ param = 5 * 256 + n % 256) ∧ t.cond.notices =
                kept ++ [⟨q, .txAbandon, param, s.interval.openNumber, .unsent⟩])
        ∧ (∀ k p missing, f.body = .recall k p missing →
            t.interval = s.interval ∧ t.ring = s.ring ∧ t.roster = s.roster ∧ t.resp = s.resp
              ∧ ∃ n, t.cond.notices =
                kept ++ [⟨n, .txAbandon, 3 * 256 + k % 256, s.interval.openNumber, .unsent⟩])
        ∧ (∀ p v, f.body = .reply p → s.resp.serving = some v →
            t.interval = s.interval ∧ t.ring = s.ring ∧ t.roster = s.roster
              ∧ t.resp.serving = (if v.inQueue ≤ 1 then none
                  else some { v with inQueue := v.inQueue - 1, cutShort := true, waitsForRoom := false })
              ∧ (t.resp.counters.repliesCut =
                  if v.cutShort then s.resp.counters.repliesCut else bump s.resp.counters.repliesCut)
              ∧ ∃ n, t.cond.notices = kept ++ [⟨n, .txAbandon, 7 * 256, s.interval.openNumber, .unsent⟩])

/-- The own frame ends on the line: it leaves the queue, TX_FRAMES counts it, the monitor enters GAP and its producer is told. The node's
own receiver has assembled it like any other valid frame, so RX_FRAMES counts it too, and it is not handed on. -/
def Obligations.FrameEndTellsTheProducer : Prop :=
  ∀ (f : TxFrame) (before after : List TxFrame) (s : State), s.live = true → s.line.queue = before ++ f :: after →
    (∀ g ∈ before ++ after, g.sending = false) → f.sending = true →
        let line : Line := { s.line with
          queue := before ++ after
          monitor := .gap
          recessive := 0
          dominant := 0
          counters := { s.line.counters with
            txFrames := bump s.line.counters.txFrames, rxFrames := bump s.line.counters.rxFrames } }
        (∀ k band, f.body = .close k band →
          exec .frameEnded s = .next { s with
            line := line
            interval := { s.interval with
              timer := .running s.image.lengthMs
              counters := { s.interval.counters with closesSent := bump s.interval.counters.closesSent } } })
          ∧ (∀ p, f.body = .condition p →
              let sent : Condition → Condition := fun c => if c.seq = conditionSeq p then { c with sending := .sent } else c
              exec .frameEnded s = .next { s with
                line := line
                cond := { s.cond with
                  notices := s.cond.notices.map sent
                  record := s.cond.record.map (fun r => { r with fault := sent r.fault, compound := r.compound.map sent })
                  counters := { s.cond.counters with conditionsSent := bump s.cond.counters.conditionsSent } } })
          ∧ (∀ b, f.body = .summary b →
              exec .frameEnded s = .next { s with
                line := line
                ring := { s.ring with records := s.ring.records.map (fun x =>
                  if x.number = b.interval then
                    { x with
                      pools := x.pools.set b.pool
                        (if b.resend then { x.pools.get b.pool with resendQueued := false }
                        else { x.pools.get b.pool with sending := some .sent }) }
                  else x) } })
          ∧ (∀ role m mask d k u, f.body = .announce role m mask d k u →
              exec .frameEnded s = .next { s with
                line := line
                roster := { s.roster with
                  announce := .none
                  counters := { s.roster.counters with announcesSent := bump s.roster.counters.announcesSent } } })
          ∧ (∀ k p missing, f.body = .recall k p missing → exec .frameEnded s = .next { s with line := line })
          ∧ (∀ p v, f.body = .reply p → s.resp.serving = some v →
              exec .frameEnded s = .next { s with
                line := line
                resp :=
                  { serving :=
                      if v.inQueue ≤ 1 ∧ (v.cutShort = true ∨ v.frames.length ≤ v.next) then none
                      else some { v with inQueue := v.inQueue - 1, waitsForRoom := false }
                    counters := { s.resp.counters with replyFrames := bump s.resp.counters.replyFrames } } })

/-- A frame enters the queue in its place by kind and behind every frame of its kind: an ordered queue stays ordered, no frame is
lost, and the frames before the place and behind it keep their order. -/
def Obligations.FrameEntersByKindThenAge : Prop :=
  ∀ (b : FrameBody) (q : List TxFrame), (q.map (fun f => f.body.kind)).Pairwise (· ≤ ·) →
    ((queued b q).map (fun f => f.body.kind)).Pairwise (· ≤ ·)
      ∧ ∃ before behind, q = before ++ behind ∧ queued b q = before ++ ⟨b, 0, false⟩ :: behind
        ∧ (∀ f ∈ before, f.body.kind ≤ b.kind) ∧ ∀ f ∈ behind, b.kind < f.body.kind

/-! ## Offers -/

/-- With room in the PEER class the oldest entry of the offer list enters the queue and its producer is told: the SUMMARY with the
contents of its offer, the ANNOUNCE with the contents of this moment (the timer and the held close among them: DESIGN CHOICE, log entry
57). -/
def Obligations.OldestOfferEntersTheQueue : Prop :=
  ∀ (o : Offer) (rest : List Offer) (s : State), s.live = true → classFill .peer s.line.queue < 8 → s.line.offers = o :: rest →
    (∀ b, o = .summary b →
      exec .offerListEntry s = .next { s with
        line := { s.lineWith (queued (.summary b) s.line.queue) with offers := rest }
        ring := { s.ring with records := s.ring.records.map (fun x =>
          if x.number = b.interval then
            { x with pools := x.pools.set b.pool { x.pools.get b.pool with sending := some .queued } }
          else x) } })
      ∧ (o = .announce →
          exec .offerListEntry s = .next { s with
            line := { s.lineWith (queued
              (.announce .node (some s.interval.membership) s.image.mask s.roster.planDigest s.interval.openNumber
                (some ⟨s.interval.timer, s.interval.held⟩))
              s.line.queue) with offers := rest }
            roster := { s.roster with announce := .queued } })

/-- With room in its class the condition unit offers the UNSENT condition that comes first: the fault, then the compound cause,
then the oldest UNSENT notice; the frame carries its nine bytes and the condition is QUEUED. -/
def Obligations.FirstUnsentConditionIsOffered : Prop :=
  ∀ (c : Condition) (compound : Bool) (s : State), s.live = true → classFill .condition s.line.queue < 2 →
    c.sending = .unsent →
    ((∃ r, s.cond.record = some r ∧ r.fault = c ∧ compound = false)
      ∨ (∃ r, s.cond.record = some r ∧ r.fault.sending ≠ .unsent ∧ r.compound = some c ∧ compound = true)
      ∨ (∃ before after, s.cond.notices = before ++ c :: after ∧ (∀ x ∈ before, x.sending ≠ .unsent) ∧ compound = false
          ∧ ∀ r, s.cond.record = some r → r.fault.sending ≠ .unsent ∧ ∀ x, r.compound = some x → x.sending ≠ .unsent)) →
      let mark : Condition → Condition := fun x => if x.seq = c.seq then { x with sending := .queued } else x
      exec .conditionOffer s = .next { s with
        line := s.lineWith (queued (.condition
          (beBytes 1 c.seq
            ++ beBytes 1 ((if c.cause.isFault then 128 else 0) + (if compound then 64 else 0) + c.cause.code)
            ++ beBytes 2 c.param ++ beBytes 4 c.interval ++ beBytes 1 s.interval.membership.code)) s.line.queue)
        cond := { s.cond with
          notices := s.cond.notices.map mark
          record := s.cond.record.map (fun r => { r with fault := mark r.fault, compound := r.compound.map mark }) } }

/-- The responder offers the next frame of its reply: with room it enters the queue; with the REPLY class full the offer is refused
and counted, and the responder waits for room; a reply cut short offers nothing. -/
def Obligations.ReplyFramesAreOfferedInOrder : Prop :=
  ∀ (v : Serving) (payload : List Byte) (s : State), s.live = true → s.resp.serving = some v → v.frames[v.next]? = some payload →
    (v.cutShort = false → v.waitsForRoom = false → classFill .reply s.line.queue < 5 →
      exec .replyOffer s = .next { s with
        line := s.lineWith (queued (.reply payload) s.line.queue)
        resp := { s.resp with serving := some { v with next := v.next + 1, inQueue := v.inQueue + 1 } } })
      ∧ (v.cutShort = false → v.waitsForRoom = false → 5 ≤ classFill .reply s.line.queue →
          exec .replyOffer s = .next { s with
            line := { s.line with counters := { s.line.counters with txRefused := bump s.line.counters.txRefused } }
            resp :=
              { serving := some { v with waitsForRoom := true }
                counters := { s.resp.counters with replyWaits := bump s.resp.counters.replyWaits } } })
      ∧ (v.cutShort = true → exec .replyOffer s = .next s)
/-! ## The receiver, the roster and the receive pool -/

/-- A frame that fails a receive check is discarded: the check's counter increases by one and the monitor enters GAP, whether the check
fails at the frame's end or in its middle. A valid frame with the node's own number that the node did not send is discarded and
counted; with the duplicate mark clear and an empty fault record it becomes the fault DUPLICATE_STATION with the frame's kind. The run of
dominant bits at 0 after a failure (log entry 5), and a list of levels that fails in its middle counted as RECEPTION_ERROR would (log
entry 40), are the model's choices. -/
def Obligations.FailedAndDuplicateFramesAreCounted : Prop :=
  (∀ s : State, s.live = true → s.line.monitor = .frame → (∀ f ∈ s.line.queue, f.sending = false) →
     let k := s.line.counters
     let gap (c : LinkCounters) : State := { s with line := { s.line with
       monitor := .gap, recessive := 0, dominant := 0, counters := c } }
     (∀ bits, receive bits = .error .badForm →
       exec (.frameReceived bits) s = .next (gap { k with rxBadForm := bump k.rxBadForm }))
       ∧ (∀ bits, receive bits = .error .badLength →
           exec (.frameReceived bits) s = .next (gap { k with rxBadLength := bump k.rxBadLength }))
       ∧ (∀ bits, receive bits = .error .badCheck →
           exec (.frameReceived bits) s = .next (gap { k with rxBadCheck := bump k.rxBadCheck }))
       ∧ (∀ bits, receive bits = .error .badKind →
           exec (.frameReceived bits) s = .next (gap { k with rxBadKind := bump k.rxBadKind }))
       ∧ (∀ bits, receive bits = .error .badSource →
           exec (.frameReceived bits) s = .next (gap { k with rxBadSource := bump k.rxBadSource }))
       ∧ exec (.receptionError .fillViolation) s = .next (gap { k with rxBadForm := bump k.rxBadForm })
       ∧ exec (.receptionError .lengthOutOfRange) s = .next (gap { k with rxBadLength := bump k.rxBadLength }))
    ∧ (∀ (bits : List Bool) (f : RxFrame) (s : State), s.live = true → s.line.monitor = .frame →
         (∀ g ∈ s.line.queue, g.sending = false) → receive bits = .ok f → f.source = s.image.station →
           let line : Line := { s.line with
             monitor := .gap
             recessive := 0
             dominant := 0
             counters := { s.line.counters with
               rxFrames := bump s.line.counters.rxFrames, rxOwnSource := bump s.line.counters.rxOwnSource } }
           (s.line.dupMark = true → exec (.frameReceived bits) s = .next { s with line := line })
             ∧ (s.line.dupMark = false → s.cond.record = none →
                 exec (.frameReceived bits) s = .next { s with
                   line := { line with dupMark := true }
                   cond := { s.cond with
                     seq := s.nextSeq
                     record := some
                       ⟨⟨s.nextSeq, .duplicateStation, f.body.kind, s.interval.openNumber, .unsent⟩, none, none⟩
                     counters := { s.cond.counters with faultsRaised := bump s.cond.counters.faultsRaised } } }))

/-- A frame from a station that the roster does not hold. With room in the roster, or a SILENT NODE entry to evict (the highest missed
count, then the lowest station), the station is learned as ACTIVE at its place: READER by an ANNOUNCE that says so, else NODE, with a
SUMMARY's pool in its mask. A frame that the filter passes is admitted to its class by R163, R165 and R166, else dropped and counted, with
RX_DROP at the first drop of the class in the period. With neither, NOT_ADMITTED counts the frame, the first of the period raises
ROSTER_FULL, and none but a REQUEST goes further; a REQUEST to the node is admitted or dropped with the source-not-admitted mark. That a
frame dropped or not admitted takes an arrival number too is the model's reading (DEDUCED, log entry 42), and so is that an undefined
sub-kind sent to 63 is not addressed (log entry 28). -/
def Obligations.NewStationIsLearnedAndItsFrameAdmitted : Prop :=
  ∀ (bits : List Bool) (f : RxFrame) (s : State), s.live = true → s.line.monitor = .frame →
    (∀ g ∈ s.line.queue, g.sending = false) → f.source ≠ s.image.station → (∀ e ∈ s.roster.entries, e.station ≠ f.source) →
    receive bits = .ok f →
      let line : Line := { s.line with
        monitor := .gap
        recessive := 0
        dominant := 0
        counters := { s.line.counters with rxFrames := bump s.line.counters.rxFrames } }
      let evictable (e : Peer) : Prop := e ∈ s.roster.entries ∧ e.state = .silent ∧ e.role = .node
      let role : Role := match f.body with | .announce role _ _ _ _ _ => role | _ => .node
      let mask : PoolMask := match f.body with | .summary b => PoolMask.add 0#4 b.pool | _ => 0#4
      let passes : Prop := match f.body with
        | .close _ _ => True
        | .summary b => s.image.mask.has b.pool = true
        | .recall _ p _ => s.image.mask.has p = true
        | .announce _ _ _ _ _ _ => True
        | .request p => s.addressedBy p
        | _ => False
      let cls := s.arrivalClass f.body
      ((s.roster.entries.length < 32 ∨ ∃ e, evictable e) →
          ∃ t, exec (.frameReceived bits) s = .next t
            ∧ t = { s with line := line, roster := t.roster, rx := t.rx, cond := t.cond, channels := t.channels }
            ∧ (⟨f.source, role, mask, .unknown, .active, 0, 1, 0, s.interval.openNumber, none, none⟩ : Peer) ∈ t.roster.entries
            ∧ (s.roster.entries.length < 32 →
                t.roster.counters = { s.roster.counters with learned := bump s.roster.counters.learned }
                  ∧ t.roster.entries.filter (fun e => e.station != f.source) = s.roster.entries)
            ∧ (∀ old, 32 ≤ s.roster.entries.length → s.rosterOrdered → evictable old →
                (∀ e, evictable e → e.missed < old.missed ∨ (e.missed = old.missed ∧ old.station ≤ e.station)) →
                t.roster.counters = { s.roster.counters with
                    learned := bump s.roster.counters.learned, evicted := bump s.roster.counters.evicted }
                  ∧ t.roster.entries.filter (fun e => e.station != f.source)
                    = s.roster.entries.filter (fun e => e.station != old.station))
            ∧ (passes → s.rx.takesFrame cls → t.rx = s.rx.admitting f cls false ∧ t.cond = s.cond ∧ t.channels = s.channels)
            ∧ (passes → ¬ s.rx.takesFrame cls →
                t.rx = s.rx.dropping cls
                  ∧ (s.rx.hasDropped cls = true → t.cond = s.cond)
                  ∧ (s.rx.hasDropped cls = false → ∃ n, t.cond.notices.getLast? =
                      some ⟨n, .rxDrop, dropParam f.source cls, s.interval.openNumber, .unsent⟩))
            ∧ (¬ passes → t.rx = { s.rx.arrived with counters := t.rx.counters } ∧ t.cond = s.cond ∧ t.channels = s.channels))
        ∧ (32 ≤ s.roster.entries.length → (∀ e, ¬ evictable e) →
            ∃ t, exec (.frameReceived bits) s = .next t
              ∧ t = { s with
                  line := line
                  roster := { s.roster with
                    fullMark := true
                    counters := { s.roster.counters with notAdmitted := bump s.roster.counters.notAdmitted } }
                  rx := t.rx
                  cond := t.cond
                  channels := t.channels }
              ∧ (f.body.kind ≠ 6 → t.rx = s.rx.arrived
                  ∧ (s.roster.fullMark = true → t.cond = s.cond)
                  ∧ (s.roster.fullMark = false → ∃ n, t.cond.notices.getLast? =
                      some ⟨n, .rosterFull, f.source, s.interval.openNumber, .unsent⟩))
              ∧ ∀ p, f.body = .request p →
                  (s.addressedBy p → s.rx.takesFrame .service →
                    t.rx = s.rx.admitting f .service true ∧ (s.roster.fullMark = true → t.cond = s.cond))
                    ∧ (s.addressedBy p → ¬ s.rx.takesFrame .service → t.rx = s.rx.dropping .service)
                    ∧ (¬ s.addressedBy p →
                        t.rx = { s.rx.arrived with
                            counters := { s.rx.counters with notAddressed := bump s.rx.counters.notAddressed } }
                          ∧ (s.roster.fullMark = true → t.cond = s.cond)))

/-- A frame from a station of the roster counts in its frames of the period and sets its last heard interval; above the rate limit
it is discarded and counted; below it, the filter's steps discard by kind, refuse by state and plan, and discard by pool and
address, each with its counter. Every other frame is admitted to its class by R163, R165 and R166, or dropped and counted, with RX_DROP at
the first drop of the class in the period. At its arrival an ANNOUNCE sets the role, a change of role clears the missed count and makes
the entry ACTIVE unless it is QUARANTINED; a SUMMARY, refused or discarded ones too, adds its pool and returns a SILENT entry to
ACTIVE. That a discarded frame takes an
arrival number is log entry 42, and that an undefined sub-kind sent to station 63 is not addressed is log entry 28. -/
def Obligations.KnownStationsFramesAreRateCountedAndFiltered : Prop :=
  ∀ (bits : List Bool) (f : RxFrame) (e : Peer) (before after : List Peer) (s : State), s.live = true →
    s.line.monitor = .frame → (∀ g ∈ s.line.queue, g.sending = false) → receive bits = .ok f → f.source ≠ s.image.station →
    s.roster.entries = before ++ e :: after → e.station = f.source → (∀ x ∈ before ++ after, x.station ≠ f.source) →
      let frames := min (e.frames + 1) 255
      let line : Line := { s.line with
        monitor := .gap
        recessive := 0
        dominant := 0
        counters := { s.line.counters with rxFrames := bump s.line.counters.rxFrames } }
      let heard : Peer := { e with frames := frames, lastHeard := s.interval.openNumber }
      let roster (x : Peer) : Roster := { s.roster with entries := before ++ x :: after }
      let rx (c : RxCounters) : RxPool := { s.rx with arrivals := s.rx.arrivals + 1, counters := c }
      let summed (p : PoolId) : Peer :=
        if e.state = .silent then { heard with mask := e.mask.add p, state := .active, missed := 0 }
        else { heard with mask := e.mask.add p }
      (s.image.rateLimit < frames →
        exec (.frameReceived bits) s = .next { s with
          line := line
          roster := { roster heard with
            counters := { s.roster.counters with rateDiscarded := bump s.roster.counters.rateDiscarded } }
          rx := rx s.rx.counters })
        ∧ (frames ≤ s.image.rateLimit → (∃ p, f.body = .condition p ∨ f.body = .reply p) →
            exec (.frameReceived bits) s = .next { s with
              line := line
              roster := roster heard
              rx := rx { s.rx.counters with kindDiscarded := bump s.rx.counters.kindDiscarded } })
        ∧ (frames ≤ s.image.rateLimit → (∃ j band, f.body = .close j band) → (e.state = .quarantined ∨ e.plan = .mismatch) →
            exec (.frameReceived bits) s = .next { s with
              line := line
              roster := roster heard
              rx := rx { s.rx.counters with peerRefused := bump s.rx.counters.peerRefused } })
        ∧ (∀ b, frames ≤ s.image.rateLimit → f.body = .summary b → (e.state = .quarantined ∨ e.plan = .mismatch) →
            exec (.frameReceived bits) s = .next { s with
              line := line
              roster := roster (summed b.pool)
              rx := rx { s.rx.counters with peerRefused := bump s.rx.counters.peerRefused } })
        ∧ (∀ k p missing, frames ≤ s.image.rateLimit → f.body = .recall k p missing → s.image.mask.has p = false →
            exec (.frameReceived bits) s = .next { s with
              line := line
              roster := roster heard
              rx := rx { s.rx.counters with poolDiscarded := bump s.rx.counters.poolDiscarded } })
        ∧ (∀ b, frames ≤ s.image.rateLimit → f.body = .summary b → e.state ≠ .quarantined → e.plan ≠ .mismatch →
            s.image.mask.has b.pool = false →
            exec (.frameReceived bits) s = .next { s with
              line := line
              roster := roster (summed b.pool)
              rx := rx { s.rx.counters with poolDiscarded := bump s.rx.counters.poolDiscarded } })
        ∧ (∀ p, frames ≤ s.image.rateLimit → f.body = .request p → fieldAt p 0 1 ≠ s.image.station →
            (fieldAt p 0 1 ≠ 63 ∨ fieldAt p 2 1 ≠ 1) →
            exec (.frameReceived bits) s = .next { s with
              line := line
              roster := roster heard
              rx := rx { s.rx.counters with notAddressed := bump s.rx.counters.notAddressed } })
        ∧ (let passes : Prop := match f.body with
             | .close _ _ => e.state ≠ .quarantined ∧ e.plan ≠ .mismatch
             | .summary b => e.state ≠ .quarantined ∧ e.plan ≠ .mismatch ∧ s.image.mask.has b.pool = true
             | .recall _ p _ => s.image.mask.has p = true
             | .announce _ _ _ _ _ _ => True
             | .request p => s.addressedBy p
             | _ => False
           let now : Peer := match f.body with
             | .announce role _ _ _ _ _ =>
               if e.role = role then heard
               else { heard with role := role, missed := 0, state := if e.state = .quarantined then .quarantined else .active }
             | .summary b => summed b.pool
             | _ => heard
           let cls := s.arrivalClass f.body
           frames ≤ s.image.rateLimit → passes →
             (s.rx.takesFrame cls →
               exec (.frameReceived bits) s = .next { s with
                 line := line, roster := roster now, rx := s.rx.admitting f cls false })
               ∧ (¬ s.rx.takesFrame cls → s.rx.hasDropped cls = true →
                   exec (.frameReceived bits) s = .next { s with line := line, roster := roster now, rx := s.rx.dropping cls })
               ∧ (¬ s.rx.takesFrame cls → s.rx.hasDropped cls = false → s.cond.notices.length < 8 →
                   exec (.frameReceived bits) s = .next { s with
                     line := line
                     roster := roster now
                     rx := s.rx.dropping cls
                     cond := { s.cond with
                       seq := s.nextSeq
                       notices := s.cond.notices
                         ++ [⟨s.nextSeq, .rxDrop, dropParam f.source cls, s.interval.openNumber, .unsent⟩] } }))

/-- TAKE_ANNOUNCE: the ANNOUNCE at the head of LATE leaves the pool and its source's entry takes the announced mask, interval and
membership; a NODE's plan state follows the comparison of the digests, a READER's becomes UNKNOWN; a new MISMATCH is counted and
raises CONFIG_MISMATCH. -/
def Obligations.AnnounceIsTakenIntoTheRoster : Prop :=
  ∀ (source arrival n : Nat) (role : Role) (m : Option Membership) (mask : PoolMask) (d : Digest) (u : Option UnitFigures)
    (x : Bool) (e : Peer) (before after : List Peer) (s : State), s.live = true →
    s.rxHead .late = some ⟨⟨source, .announce role m mask d n u⟩, .late, arrival, x⟩ →
    s.roster.entries = before ++ e :: after → e.station = source → (∀ y ∈ before ++ after, y.station ≠ source) →
      let rx := s.rx.without ⟨⟨source, .announce role m mask d n u⟩, .late, arrival, x⟩
      let told : Peer := { e with mask := mask, announcedInterval := some n, announcedMembership := m }
      (e.role = .reader →
        exec .takeAnnounce s = .next { s with
          rx := rx, roster := { s.roster with entries := before ++ { told with plan := .unknown } :: after } })
        ∧ (e.role = .node → d = s.roster.planDigest →
            exec .takeAnnounce s = .next { s with
              rx := rx, roster := { s.roster with entries := before ++ { told with plan := .isMatch } :: after } })
        ∧ (e.role = .node → d ≠ s.roster.planDigest → e.plan = .mismatch →
            exec .takeAnnounce s = .next { s with
              rx := rx, roster := { s.roster with entries := before ++ { told with plan := .mismatch } :: after } })
        ∧ (e.role = .node → d ≠ s.roster.planDigest → e.plan ≠ .mismatch → s.cond.notices.length < 8 →
            exec .takeAnnounce s = .next { s with
              rx := rx
              roster := { s.roster with
                entries := before ++ { told with plan := .mismatch } :: after
                counters := { s.roster.counters with planMismatches := bump s.roster.counters.planMismatches } }
              cond := { s.cond with
                seq := s.nextSeq
                notices :=
                  s.cond.notices ++ [⟨s.nextSeq, .configMismatch, source, s.interval.openNumber, .unsent⟩] } })
/-! ## The interval unit -/

/-- An own expiry of interval 4294967295 only reloads the timer and is counted; one that finds no empty slot or a close held is
held or merged, reloads the timer and ends the count period, and leaves the ring as it is. No own CLOSE is in the queue: while one waits
the timer waits for the line and does not expire (R108). The end of a count period evaluates every
entry by R132's table on its frames: noisy run, quarantine with NOISY_PEER, release. That the notices of one boundary are raised by
ascending station is log entry 25. -/
def Obligations.OwnExpiryAtTheLimitOrHeld : Prop :=
  ∀ (ms : Nat) (s : State), s.following = true → s.interval.timer = .running ms →
    (s.interval.openNumber = 4294967295 →
      exec .ownExpiry s = .next { s with interval := { s.interval with
        timer := .running s.image.lengthMs
        counters := { s.interval.counters with numberLimit := bump s.interval.counters.numberLimit } } })
      ∧ (s.interval.openNumber ≠ 4294967295 →
          (s.interval.held ≠ none ∨ s.interval.drain = true ∨ 4 ≤ s.ring.records.length) →
          (∀ f ∈ s.line.queue, f.body.kind ≠ 1) →
          ∃ t, exec .ownExpiry s = .next t
            ∧ t = { s with
                interval := t.interval, roster := t.roster, line := t.line, rx := t.rx, cond := t.cond, channels := t.channels }
            ∧ (s.interval.held = none →
                t.interval = { s.interval with
                  timer := .running s.image.lengthMs
                  held := some ⟨s.interval.openNumber, .own, none, .schedule⟩
                  counters := { s.interval.counters with closesHeld := bump s.interval.counters.closesHeld } })
            ∧ (∀ h, s.interval.held = some h →
                t.interval = { s.interval with
                  timer := .running s.image.lengthMs
                  held := some ⟨max h.interval s.interval.openNumber, .own, none, .schedule⟩
                  counters := { s.interval.counters with heldMerged := bump s.interval.counters.heldMerged } })
            ∧ t.roster.entries = s.roster.entries.map (fun e => { e.evaluate s.image.rateLimit with frames := 0 })
            ∧ t.roster.fullMark = false
            ∧ t.line = { s.line with stuckMark := false, dupMark := false }
            ∧ t.rx = { s.rx with dropCurrent := false, dropLate := false, dropService := false }
            ∧ (let limit := s.image.rateLimit
               let entering := s.roster.entries.filter (fun e =>
                 e.state != .quarantined && decide (limit < e.frames) && decide (2 ≤ e.noisy))
               let shown (c : Condition) : Cause × Nat × Nat × CondSending := (c.cause, c.param, c.interval, c.sending)
               t.roster.counters = { s.roster.counters with
                   quarantines := bumpBy entering.length s.roster.counters.quarantines
                   quarantineReleases := bumpBy
                     (s.roster.entries.countP (fun e => e.state == .quarantined && decide (e.frames ≤ limit / 2)))
                     s.roster.counters.quarantineReleases }
                 ∧ (s.cond.notices.length + entering.length ≤ 8 →
                     t.cond.notices.map shown = s.cond.notices.map shown
                       ++ entering.map (fun e => (.noisyPeer, e.station, s.interval.openNumber, .unsent)))))
      ∧ ∀ (limit : Nat) (e : Peer),
          (e.state ≠ .quarantined →
            (limit < e.frames → 2 ≤ e.noisy → e.evaluate limit = { e with noisy := 3, state := .quarantined })
              ∧ (limit < e.frames → e.noisy < 2 → e.evaluate limit = { e with noisy := e.noisy + 1 })
              ∧ (e.frames ≤ limit → e.evaluate limit = { e with noisy := 0 }))
            ∧ (e.state = .quarantined →
                (limit < e.frames → e.evaluate limit = { e with noisy := min (e.noisy + 1) 3 })
                  ∧ (limit / 2 < e.frames → e.frames ≤ limit → e.evaluate limit = { e with noisy := 0 })
                  ∧ (e.frames ≤ limit / 2 → e.evaluate limit = { e with state := .active, missed := 0, noisy := 0 }))

/-- An own expiry with an empty slot and no close held takes the close with cause OWN. In MEMBER CLOSE(k) with the band of k + 1
is queued and the timer waits for the line; in OBSERVER none is queued and the timer is loaded. The ring advance: of three records that
are neither OPEN nor SETTLING the oldest goes to SETTLING, a GATHERING one with a COMPUTE job first, its waiting summaries NOT_SENT and
out of the offer list. The closed record: the own entry joins each contributor list at its place, the others not expected get UNEXPECTED,
totals, flags and COMPLETE follow the list, the own summary is WAITING, and the record goes on to PROVISIONAL with a COMPUTE job when
every pool is COMPLETE, else it stays GATHERING. The model's own: the own entry carries no UNEXPECTED (DEDUCED, log entry 20) and joins a
list of any length (DESIGN CHOICE, log entry 53); pool parts outside the node's mask keep the values of opening (DESIGN CHOICE, log entry
44); the rank counts 32 lower ACTIVE nodes as 32, where R136 gives 0..31 (DEDUCED, log entry 45); a raw or weighted energy above 32 bits
is open (log entry 10). No own CLOSE is in the queue: while one waits the timer does not expire (R108). -/
def Obligations.OwnExpiryTakesTheClose : Prop :=
  ∀ (ms : Nat) (s : State), s.following = true → s.ringOrdered → s.interval.timer = .running ms →
    s.interval.openNumber ≠ 4294967295 → s.interval.held = none → s.interval.drain = false → s.ring.records.length < 4 →
    (∀ f ∈ s.line.queue, f.body.kind ≠ 1) →
      let k := s.interval.openNumber
      let band := s.image.scheduledBand (k + 1)
      ∃ t, exec .ownExpiry s = .next t ∧ s.closesTo t k .own none band ∧ t.check = s.check
        ∧ t.interval.membership = s.interval.membership ∧ t.interval.driftRun = 0 ∧ t.interval.driftMark = false
        ∧ (s.interval.membership = .member →
            t.interval.timer = .waitingLine ∧ ∃ before behind, t.line.queue = before ++ ⟨.close k band, 0, false⟩ :: behind
              ∧ ∀ f ∈ before ++ behind, f.body.kind ≠ 1)
        ∧ (s.interval.membership = .observer →
            t.interval.timer = .running s.image.lengthMs ∧ ∀ f ∈ t.line.queue, f.body.kind ≠ 1)
        ∧ (∃ own : List Job, ∃ closed ∈ t.ring.records, closed.number = k
            ∧ (∀ older r, s.ring.records = older ++ [r] →
                let complete := ∀ p, s.image.mask.has p = true → (closed.pools.get p).complete = true
                (complete → own = [⟨.compute, k⟩] ∧ closed.state = .provisional ∧ closed.gather = none)
                  ∧ (¬ complete → own = [] ∧ closed.state = .gathering ∧ closed.gather = some s.image.gatherMs)
                  ∧ ∀ p,
                    (s.image.mask.has p = false → closed.pools.get p = r.pools.get p)
                      ∧ ∀ mine lower higher, s.image.mask.has p = true → (closed.pools.get p).own = some mine →
                        (r.pools.get p).contributors = lower ++ higher → (∀ z ∈ lower, z.station < s.image.station) →
                        (∀ z ∈ higher, s.image.station < z.station) →
                          let expected := (closed.pools.get p).expected
                          let marked (z : Entry) : Entry := { z with unexpected := !expected.contains z.station }
                          let all := lower.map marked
                            ++ ⟨s.image.station, mine.values, mine.estimated, mine.tampered, false, false, false⟩ :: higher.map marked
                          closed.pools.get p = { r.pools.get p with
                            expected := expected
                            contributors := all
                            totals := ⟨(all.map (fun z => z.values.e)).sum, (all.map (fun z => z.values.c)).sum,
                              (all.map (fun z => z.values.u)).sum, (all.map (fun z => z.values.m)).sum,
                              (all.map (fun z => z.values.a)).sum⟩
                            estimated := all.any (fun z => z.estimated)
                            tampered := all.any (fun z => z.tampered)
                            complete := (r.pools.get p).complete
                              || expected.all (fun st => all.any (fun z => z.station == st))
                            own := some mine
                            sending := some .waiting })
            ∧ (∀ x y r, s.ring.records = [x, y, r] → x.state ≠ .settling → y.state ≠ .settling →
                t.engine.jobs = s.engine.jobs ++ own
                    ++ (if x.state = .gathering then [⟨.compute, x.number⟩] else []) ++ [⟨.settle, x.number⟩]
                  ∧ (∀ b, Offer.summary b ∈ t.line.offers ↔ Offer.summary b ∈ s.line.offers ∧ b.interval ≠ x.number)
                  ∧ ∃ z, t.ring.records =
                    [{ x with
                        state := .settling
                        gather := none
                        pools := x.pools.map (fun p =>
                          { p with
                            sending :=
                              if p.sending = some .waiting ∨ p.sending = some .offered then some .notSent else p.sending }) },
                      y, z, Record.atOpen (k + 1) band false])
            ∧ (∀ older r, s.ring.records = older ++ [r] → (older.length < 2 ∨ ∃ x ∈ older, x.state = .settling) →
                t.engine.jobs = s.engine.jobs ++ own
                  ∧ (∀ b, Offer.summary b ∈ t.line.offers ↔ Offer.summary b ∈ s.line.offers)
                  ∧ ∃ z, t.ring.records = older ++ [z, Record.atOpen (k + 1) band false]))

/-- In LISTENING the end of the listen time founds the image's number, and a CLOSE or SUMMARY of an interval from 1 to 4294967294
is taken for adoption and opens the next: the record is PARTIAL and OPEN, the timer loaded, the node MEMBER, the roster starts a
count period and its ANNOUNCE is queued, also past offers that wait (log entry 19). A frame naming 4294967295 is counted (R103) and one
naming 0 goes unheeded (R220). The model's own (DESIGN CHOICE): no listen time is held afterwards (log entry 59), the digest of a
SUMMARY(4294967295) is not handed on (log entry 61), and the queued ANNOUNCE holds the timer and the held close (log entry 57). -/
def Obligations.FoundingAndAdoptionOpenTheFirstRecord : Prop :=
  ∀ s : State, s.live = true → s.interval.membership = .listening → s.ring.records = [] → s.roster.announce = .none →
    classFill .peer s.line.queue < 8 → (∀ e ∈ s.roster.entries, e.frames ≤ s.image.rateLimit) →
      let opens (x : State) (n : Nat) (band : Band) (c : IntervalCounters) : State :=
        { x with
          ring := { x.ring with records := [Record.atOpen n band true] }
          interval := { x.interval with
            membership := .member, openNumber := n, timer := .running x.image.lengthMs, listen := none, counters := c }
          roster := { x.roster with
            entries := x.roster.entries.map (fun e => { e.evaluate x.image.rateLimit with frames := 0 })
            fullMark := false
            announce := .queued
            counters := { x.roster.counters with
              quarantineReleases := bumpBy (x.roster.released x.image.rateLimit) x.roster.counters.quarantineReleases } }
          line := { x.lineWith (queued (.announce .node (some .member) x.image.mask x.roster.planDigest n
              (some ⟨.running x.image.lengthMs, x.interval.held⟩)) x.line.queue) with
            stuckMark := false, dupMark := false }
          rx := { x.rx with dropCurrent := false, dropLate := false, dropService := false } }
      let adopting : IntervalCounters := { s.interval.counters with adoptions := bump s.interval.counters.adoptions }
      let limited : IntervalUnit := { s.interval with
        counters := { s.interval.counters with numberLimit := bump s.interval.counters.numberLimit } }
      exec .founding s = .next (opens s s.image.founding (s.image.scheduledBand s.image.founding)
          { s.interval.counters with foundings := bump s.interval.counters.foundings })
        ∧ (∀ e j band, s.rxHead .current = some e → e.frame.body = .close j band →
            let taken : State := { s with rx := s.rx.without e }
            (1 ≤ j → j < 4294967295 → exec .takeClose s = .next (opens taken (j + 1) band adopting))
              ∧ (j = 4294967295 → exec .takeClose s = .next { taken with interval := limited })
              ∧ (j = 0 → exec .takeClose s = .next taken))
        ∧ (∀ cls e b, s.rxHead (rxClassOf cls) = some e → e.frame.body = .summary b →
            let taken : State := { s with rx := s.rx.without e }
            (1 ≤ b.interval → b.interval < 4294967295 →
              exec (.takeSummary cls) s =
                .next (opens taken (b.interval + 1) (s.image.scheduledBand (b.interval + 1)) adopting))
              ∧ (b.interval = 4294967295 → exec (.takeSummary cls) s = .next { taken with interval := limited })
              ∧ (b.interval = 0 → exec (.takeSummary cls) s = .next taken))

/-- A CLOSE(j) that takes no close: of interval 4294967295 it is counted; the node's own queued CLOSE(j) is withdrawn and the OPEN
record takes the frame's band, and a CLOSE that is cut off on the line is discarded by the node's own receiver too (R147); one held by
a closed record is a duplicate; one below the open interval and held by none is behind. That the dominant run is 0 after the abort mark
of a CLOSE cut off is the model's choice (DESIGN CHOICE, log entry 5). -/
def Obligations.ForeignCloseThatClosesNothing : Prop :=
  ∀ (e : RxEntry) (j : Nat) (band : Band) (s : State), s.following = true → s.rxHead .current = some e →
    e.frame.body = .close j band →
      let counted (c : IntervalCounters) : State :=
        { s with rx := s.rx.without e, interval := { s.interval with counters := c } }
      let k := s.interval.counters
      (j = 4294967295 → exec .takeClose s = .next (counted { k with numberLimit := bump k.numberLimit }))
        ∧ (∀ f own before after, j ≠ 4294967295 → s.line.queue = before ++ f :: after → f.body = .close j own →
            (∀ g ∈ before ++ after, g.body.kind ≠ 1) →
            exec .takeClose s = .next { s with
              rx := s.rx.without e
              interval := { s.interval with
                timer := .running s.image.lengthMs, counters := { k with closeWithdrawn := bump k.closeWithdrawn } }
              line := { s.line with
                queue := before ++ after
                monitor := if f.sending then .gap else s.line.monitor
                recessive := if f.sending then 0 else s.line.recessive
                dominant := if f.sending then 0 else s.line.dominant
                counters := { s.line.counters with
                  rxBadForm := if f.sending then bump s.line.counters.rxBadForm else s.line.counters.rxBadForm
                  txWithdrawn := bump s.line.counters.txWithdrawn
                  txCutOff := if f.sending then bump s.line.counters.txCutOff else s.line.counters.txCutOff } }
              ring := { s.ring with records := s.ring.records.map (fun r =>
                if r.number = s.interval.openNumber then { r with band := band } else r) } })
        ∧ (j < s.interval.openNumber → j ≠ 4294967295 → (∀ f ∈ s.line.queue, f.body.kind ≠ 1) →
            (∃ r ∈ s.ring.records, r.number = j) →
            exec .takeClose s = .next (counted { k with closeDuplicate := bump k.closeDuplicate }))
        ∧ (j < s.interval.openNumber → j ≠ 4294967295 → (∀ f ∈ s.line.queue, f.body.kind ≠ 1) →
            (∀ r ∈ s.ring.records, r.number ≠ j) →
            exec .takeClose s = .next (counted { k with closeBehind := bump k.closeBehind }))

/-- A CLOSE(j) of the open interval or above it, with an empty slot and no close held, closes the OPEN record as j, FOREIGN or, above
the open number, by JUMP with the record renumbered and the jump reported; the next band is the frame's and the timer is loaded.
With no empty slot it becomes the held close, and with a close held it merges into it. An own CLOSE that waits or is on the line, but not
that of j itself (ForeignCloseThatClosesNothing), is withdrawn and counted (R108, R110). The model's own: the rank counts 32 lower ACTIVE
nodes as 32, where R136 gives 0..31 (DEDUCED, log entry 45). -/
def Obligations.ForeignCloseClosesOrIsHeld : Prop :=
  ∀ (e : RxEntry) (j : Nat) (band : Band) (s : State), s.following = true → s.ringOrdered → s.rxHead .current = some e →
    e.frame.body = .close j band → s.interval.openNumber ≤ j → j < 4294967295 →
    (∀ f ∈ s.line.queue, ∀ own, f.body ≠ .close j own) →
      ∃ t, exec .takeClose s = .next t ∧ s.ownCloseLeaves t ∧ s.ownCloseCounted t
        ∧ t.interval.timer = .running s.image.lengthMs
        ∧ t.rx.entries = (s.rx.without e).entries
        ∧ t.check = s.check
        ∧ t.interval.membership = s.interval.membership
        ∧ (s.interval.held = none → s.interval.drain = false → s.ring.records.length < 4 →
            (s.interval.openNumber = j → s.closesTo t j .foreign (some e.frame.source) band
              ∧ t.interval.counters.jumps = s.interval.counters.jumps)
              ∧ (s.interval.openNumber < j → s.closesTo t j .jump (some e.frame.source) band
                ∧ t.interval.counters.jumps = bump s.interval.counters.jumps
                ∧ ∃ n, t.cond.notices.getLast? =
                  some ⟨n, .numberingJump, min (j - s.interval.openNumber) 65535, j, .unsent⟩))
        ∧ (s.interval.held = none → (s.interval.drain = true ∨ 4 ≤ s.ring.records.length) →
            t.interval.held = some ⟨j, .foreign, some e.frame.source, .frame band⟩
              ∧ t.interval.counters.closesHeld = bump s.interval.counters.closesHeld ∧ t.ring = s.ring)
        ∧ (∀ h, s.interval.held = some h →
            t.interval.held = some ⟨max h.interval j, .foreign, some e.frame.source, .frame band⟩
              ∧ t.interval.counters.heldMerged = bump s.interval.counters.heldMerged ∧ t.ring = s.ring)

/-- The drift monitor at a foreign close of the open interval taken at once while the timer is RUNNING: above 2 % of L remaining the
run increases, at three with the mark clear CLOCK_DEVIATION is raised with the station; at 2 % or less the run and the mark are
cleared. Whether that notice carries the number before or after the close is open (log entry 16). -/
def Obligations.ForeignCloseConsultsTheDriftMonitor : Prop :=
  ∀ (e : RxEntry) (k ms : Nat) (band : Band) (s : State), s.following = true → s.ringOrdered → s.rxHead .current = some e →
    e.frame.body = .close k band → s.interval.openNumber = k → k < 4294967295 → (∀ f ∈ s.line.queue, f.body.kind ≠ 1) →
    s.interval.held = none → s.interval.drain = false → s.ring.records.length < 4 → s.interval.timer = .running ms →
      ∃ t, exec .takeClose s = .next t
        ∧ (ms * 100 ≤ s.image.lengthMs * 2 →
            t.interval.driftRun = 0 ∧ t.interval.driftMark = false
              ∧ t.interval.counters.deviations = s.interval.counters.deviations)
        ∧ (s.image.lengthMs * 2 < ms * 100 →
            t.interval.driftRun = min (s.interval.driftRun + 1) 3
              ∧ t.interval.counters.deviations = bump s.interval.counters.deviations
              ∧ t.interval.driftMark = (s.interval.driftMark || decide (2 ≤ s.interval.driftRun)))
        ∧ (s.image.lengthMs * 2 < ms * 100 → s.interval.driftRun = 2 → s.interval.driftMark = false →
            (∀ x ∈ s.roster.entries, x.frames ≤ s.image.rateLimit) →
            ∃ n m, (m = k ∨ m = k + 1) ∧ t.cond.notices.getLast? = some ⟨n, .clockDeviation, e.frame.source, m, .unsent⟩)

/-- The held close is taken when the ring reports an empty slot: with its latest cause, or by JUMP above the open number; the timer
runs on and no CLOSE is queued. The roster ages: a NODE by its summaries in the previous record, a READER by frames heard under the
number that the closing record had while open; an entry that has missed too much is freed, then the count period ends. The model's own:
the rank counts 32 lower ACTIVE nodes as 32, where R136 gives 0..31 (DEDUCED, log entry 45). -/
def Obligations.HeldCloseIsTaken : Prop :=
  ∀ (h : HeldClose) (s : State), s.following = true → s.ringOrdered → s.interval.held = some h → s.interval.drain = false →
    s.ring.records.length < 4 →
      let band := match h.source with | .frame b => b | .schedule => s.image.scheduledBand (h.interval + 1)
      ∃ t, exec .heldCloseTaken s = .next t ∧ t.interval.held = none ∧ t.interval.timer = s.interval.timer
        ∧ t.check = s.check ∧ t.rx.entries = s.rx.entries
        ∧ t.interval.membership = s.interval.membership
        ∧ t.line.queue.countP (fun f => f.body.kind == 1) = s.line.queue.countP (fun f => f.body.kind == 1)
        ∧ (h.interval = s.interval.openNumber → s.closesTo t h.interval h.cause h.station band)
        ∧ (s.interval.openNumber < h.interval → s.closesTo t h.interval .jump h.station band
            ∧ t.interval.counters.jumps = bump s.interval.counters.jumps)
        ∧ ∀ older r, s.ring.records = older ++ [r] →
            let limit := s.image.codeA
            let reported (x : Record) (e : Peer) : Bool :=
              x.pools.toList.any (fun p => p.contributors.any (fun y => y.station == e.station))
            let aged (e : Peer) : Peer :=
              if e.role = .reader then
                { e with missed := if e.lastHeard = s.interval.openNumber then 0 else e.missed + 1 }
              else match older.getLast? with
                | none => e
                | some x =>
                  if reported x e = true then { e with missed := 0, state := if e.state = .silent then .active else e.state }
                  else { e with
                    missed := e.missed + 1
                    state := if e.state = .active ∧ limit ≤ e.missed + 1 then .silent else e.state }
            let leaves (e : Peer) : Bool := decide (255 ≤ e.missed) || (e.role == .reader && decide (limit ≤ e.missed))
            t.roster.entries = ((s.roster.entries.map aged).filter (fun e => !leaves e)).map (fun e =>
                { e.evaluate s.image.rateLimit with frames := 0 })
              ∧ t.roster.counters.freed = bumpBy ((s.roster.entries.map aged).countP leaves) s.roster.counters.freed

/-- The drain: with no record SETTLING the oldest non-OPEN record goes to SETTLING with its SETTLE job; with none left the OPEN record
is dropped, the close held discarded, the drift monitor and the drain mark cleared and the node LISTENING, the LATE summaries and
recalls purged. That the frames of the count period start at 0 is the model's reading (log entry 47). -/
def Obligations.DrainSettlesEachRecordAndEndsListening : Prop :=
  ∀ s : State, s.control.power = .running → s.interval.drain = true →
    (∀ r rest, s.ring.records = r :: rest → ((s.ring.records.map (·.number)).Pairwise (· < ·)) → r.state ≠ .opened →
      (∀ x ∈ s.ring.records, x.state ≠ .settling) →
      exec .drainSettleNext s = .next { s with
        ring := { s.ring with
          records :=
            { r with
              state := .settling
              gather := none
              pools := r.pools.map (fun p =>
                { p with
                  sending :=
                    if p.sending = some .waiting ∨ p.sending = some .offered then some .notSent else p.sending }) } :: rest }
        engine := { s.engine with jobs := s.engine.jobs ++ [⟨.settle, r.number⟩] }
        line := { s.line with
          offers := s.line.offers.filter (fun o => match o with | .summary b => b.interval != r.number | .announce => true) } })
      ∧ ((∀ x ∈ s.ring.records, x.state = .opened) →
          exec .drainEnd s = .next { s with
            ring := { s.ring with records := [] }
            interval := { s.interval with
              membership := .listening
              openNumber := 0
              timer := .stopped
              listen := some (s.image.lengthMs + s.image.gatherMs)
              held := none
              driftRun := 0
              driftMark := false
              drain := false }
            roster := { s.roster with entries := s.roster.entries.map (fun e => { e with frames := 0 }) }
            rx := { s.rx with
              entries := s.rx.entries.filter (fun e =>
                !(e.cls == .late && (e.frame.body.kind == 4 || e.frame.body.kind == 3)))
              counters := { s.rx.counters with
                purged := bumpBy (s.rx.entries.countP (fun e =>
                  e.cls == .late && (e.frame.body.kind == 4 || e.frame.body.kind == 3))) s.rx.counters.purged } } })
/-! ## The interval ring -/

/-- SEND_TIME_EXPIRY: for each pool of the mask whose own summary is WAITING, in ascending pool number, one SUMMARY is offered, with the
digest of interval k − 3 from the history or the absent flag: into the queue while the PEER class has room, also past offers that wait
(log entry 19), then into the offer list, counted as refused. Outside MEMBER each becomes NOT_SENT. Where an older record's send time
has run out too, its frames are offered first. The model's own, not the spec's: the time is absent afterwards (log entry 12), a WITHDRAWN
summary stays WITHDRAWN outside MEMBER (DESIGN CHOICE, log entry 13), and an older record is due when it has no more time left than the
record named, not only at 0 (DESIGN CHOICE, log entry 8). -/
def Obligations.SendTimeExpiryOffersTheSummary : Prop :=
  (∀ (k ms : Nat) (r : Record) (before after : List Record) (s : State), s.following = true →
    s.ring.records = before ++ r :: after → (∀ x ∈ before ++ after, x.number ≠ k) → r.number = k → r.send = some ms →
    (∀ x ∈ before ++ after, x.number < k → ∀ m, x.send = some m → ms < m) →
      let due := s.image.mask.pools.filter (fun p => (r.pools.get p).sending = some .waiting)
      let body (p : PoolId) : SummaryBody :=
        let own := ((r.pools.get p).own).getD ⟨⟨0, 0, 0, 0, 0⟩, false, false⟩
        { interval := k
          pool := p
          values := own.values
          estimated := own.estimated
          tampered := own.tampered
          resend := false
          digest := if k ≤ 3 then none
            else (s.ring.history.find? (fun e => e.number == k - 3)).map (fun e => e.digests.get p) }
      let entering := due.take (8 - classFill .peer s.line.queue)
      let listed := due.drop (8 - classFill .peer s.line.queue)
      let ring (x : PoolId → Option Sending) : Ring := { s.ring with
        records := before ++ { r with
          send := none, pools := Four.ofFn (fun p => { r.pools.get p with sending := x p }) } :: after }
      (s.interval.membership = .member →
        let queue := entering.foldl (fun q p => queued (.summary (body p)) q) s.line.queue
        let line : Line := if entering = [] then s.line else s.lineWith queue
        exec (.sendTimeExpiry k) s = .next { s with
          ring := ring (fun p =>
            if p ∈ entering then some .queued else if p ∈ listed then some .offered else (r.pools.get p).sending)
          line := { line with
            offers := s.line.offers ++ listed.map (fun p => .summary (body p))
            counters := { line.counters with txRefused := bumpBy listed.length s.line.counters.txRefused } } })
        ∧ (s.interval.membership = .observer →
            exec (.sendTimeExpiry k) s = .next { s with
              ring := ring (fun p => if p ∈ due then some .notSent else (r.pools.get p).sending) }))
    ∧ ∀ (k j m ms : Nat) (r x : Record) (s : State), s.following = true →
        (s.ring.records.map (fun y => y.number)).Pairwise (· < ·) →
        findRecord k s = some r → r.send = some ms → findRecord j s = some x → x.send = some m → j < k → m ≤ ms →
        (∀ y ∈ s.ring.records, y.number < j → ∀ n, y.send = some n → ms < n) →
          ∃ t, exec (.sendTimeExpiry j) s = .next t ∧ exec (.sendTimeExpiry k) s = exec (.sendTimeExpiry k) t

/-- GATHER_EXPIRY: the record goes to PROVISIONAL with a COMPUTE job. In MEMBER, for each pool of the mask that is not COMPLETE, one
RECALL with the expected stations that have no entry is queued and RECALLED set while the PEER class has room; the others are dropped and
counted. In OBSERVER none is offered. The pool mode is URGENT while another record is GATHERING, else NORMAL. That the pools are taken in
ascending number is the model's choice (DESIGN CHOICE, log entry 54), and so is that the gather time is absent afterwards (DESIGN CHOICE,
log entry 12). -/
def Obligations.GatherExpiryRecallsAndComputes : Prop :=
  ∀ (k : Nat) (r : Record) (before after : List Record) (s : State), s.following = true →
    s.ring.records = before ++ r :: after → (∀ x ∈ before ++ after, x.number ≠ k) → r.number = k → r.state = .gathering →
      let incomplete := s.image.mask.pools.filter (fun p => !(r.pools.get p).complete)
      let called := incomplete.take (8 - classFill .peer s.line.queue)
      let dropped := incomplete.drop (8 - classFill .peer s.line.queue)
      let missing (p : PoolId) : BitVec 64 :=
        ((r.pools.get p).expected.filter (fun st => !(r.pools.get p).contributors.any (fun e => e.station == st))).foldl
          (fun b st => b ||| (1#64 <<< st)) 0#64
      let engine : Engine := { s.engine with jobs := s.engine.jobs ++ [⟨.compute, k⟩] }
      let ended (recalled : List PoolId) (c : RingCounters) : Ring := { s.ring with
        counters := c
        records := before ++ { r with
          state := .provisional
          gather := none
          pools := Four.ofFn (fun p =>
            if p ∈ recalled then { r.pools.get p with recalled := true } else r.pools.get p) } :: after }
      let rx : RxPool :=
        if ∃ x ∈ before ++ after, x.state = .gathering then
          { s.rx with
            mode := .urgent
            counters := { s.rx.counters with
              urgentEntries := if s.rx.mode = .normal then bump s.rx.counters.urgentEntries else s.rx.counters.urgentEntries } }
        else { s.rx with mode := .normal }
      (s.interval.membership = .member →
        let line : Line :=
          if called = [] then s.line
          else s.lineWith (called.foldl (fun q p => queued (.recall k p (missing p)) q) s.line.queue)
        exec (.gatherExpiry k) s = .next { s with
          ring := ended called { s.ring.counters with
            recallDropped := bumpBy dropped.length s.ring.counters.recallDropped }
          engine := engine
          rx := rx
          line := { line with counters := { line.counters with
            txRefused := bumpBy dropped.length s.line.counters.txRefused } } })
        ∧ (s.interval.membership = .observer →
            exec (.gatherExpiry k) s = .next { s with ring := ended [] s.ring.counters, engine := engine, rx := rx })

/-- A SUMMARY taken in MEMBER or OBSERVER into a GATHERING or PROVISIONAL record, or into the OPEN record while a close is held, its
source a NODE of good standing: a repeat of its entry is counted as a duplicate; a different one
keeps the entry, marks CONFLICT and raises the
notice once; a new one is inserted by station with LATE and UNEXPECTED as the rules say. The entry that makes every pool COMPLETE ends
the gather with a COMPUTE job; one in PROVISIONAL requests a RECOMPUTE; in OPEN neither UNEXPECTED nor COMPLETE is judged (R18) and the
held close stays as it is (R111). A refused source changes nothing. The pool is in the cross-check mask, or the comparison of its digest
(HandedDigestIsCompared) meets no fault record that is held, so brings no entry to OBSERVER. R4 has at most 33 entries in a
list and does not say what a further one does: that a 34th is inserted like any other is the model's choice (DESIGN CHOICE, log entry
53). -/
def Obligations.SummaryIntakeAddsRepeatsOrRefuses : Prop :=
  ∀ (cls : SummaryClass) (e : RxEntry) (b : SummaryBody) (r : Record) (x : Peer) (before after : List Record) (s : State),
    s.following = true → s.rxHead (rxClassOf cls) = some e → e.frame.body = .summary b →
    s.ring.records = before ++ r :: after → (∀ y ∈ before ++ after, y.number ≠ b.interval) → r.number = b.interval →
    (r.state = .gathering ∨ r.state = .provisional ∨ r.state = .opened ∧ s.interval.held ≠ none) →
    s.peer e.frame.source = some x →
    (s.image.checkMask.has b.pool = true ∨ s.check.latch = true ∨ s.check.run < 3 ∨ s.cond.record = none) →
      let quiet := s.image.checkMask.has b.pool = true ∨ s.check.latch = true ∨ s.check.run < 3
      let source := e.frame.source
      let part := r.pools.get b.pool
      ∃ t, exec (.takeSummary cls) s = .next t
        ∧ t = { s with
            ring := t.ring, engine := t.engine, rx := t.rx, cond := t.cond, channels := t.channels, check := t.check }
        ∧ t.rx.entries = (s.rx.without e).entries
        ∧ (s.image.checkMask.has b.pool = true → t.check = s.check)
        ∧ (x.role = .reader ∨ x.state = .quarantined ∨ x.plan = .mismatch →
            t.ring = { s.ring with counters := { s.ring.counters with sumRefused := bump s.ring.counters.sumRefused } }
              ∧ t.engine = s.engine ∧ t.cond = s.cond)
        ∧ (x.role = .node → x.state ≠ .quarantined → x.plan ≠ .mismatch →
            (∀ y, part.contributors.find? (fun z => z.station == source) = some y →
              (y.values = b.values ∧ y.estimated = b.estimated ∧ y.tampered = b.tampered →
                t.ring = { s.ring with
                    counters := { s.ring.counters with sumDuplicate := bump s.ring.counters.sumDuplicate } }
                  ∧ t.engine = s.engine ∧ (quiet → t.cond = s.cond))
                ∧ (¬ (y.values = b.values ∧ y.estimated = b.estimated ∧ y.tampered = b.tampered) →
                    t.ring = { s.ring with
                        counters := { s.ring.counters with sumConflict := bump s.ring.counters.sumConflict }
                        records := before ++ { r with
                          pools := r.pools.set b.pool { part with
                            contributors := part.contributors.map (fun z =>
                              if z.station = source then { z with conflict := true } else z) } } :: after }
                      ∧ t.engine = s.engine
                      ∧ (y.conflict = true → quiet → t.cond = s.cond)
                      ∧ (y.conflict = false → ∃ n, t.cond.notices.getLast? =
                          some ⟨n, .summaryConflict, source * 256 + b.pool.val, s.interval.openNumber, .unsent⟩)))
              ∧ ∀ lower higher, part.contributors = lower ++ higher → (∀ z ∈ lower, z.station < source) →
                  (∀ z ∈ higher, source < z.station) →
                  let y : Entry := ⟨source, b.values, b.estimated, b.tampered, decide (r.state = .provisional),
                    r.state != .opened && !part.expected.contains source, false⟩
                  let all := lower ++ y :: higher
                  let filled : Record := { r with
                    pools := r.pools.set b.pool { part with
                      contributors := all
                      totals := ⟨(all.map (fun z => z.values.e)).sum, (all.map (fun z => z.values.c)).sum,
                        (all.map (fun z => z.values.u)).sum, (all.map (fun z => z.values.m)).sum,
                        (all.map (fun z => z.values.a)).sum⟩
                      estimated := all.any (fun z => z.estimated)
                      tampered := all.any (fun z => z.tampered)
                      complete := part.complete
                        || (r.state != .opened && part.expected.all (fun st => all.any (fun z => z.station == st))) }
                    compute := if r.state = .provisional ∧ r.compute = .computed then .stale else r.compute }
                  let ring (z : Record) : Ring := { s.ring with records := before ++ z :: after }
                  let complete := ∀ p, s.image.mask.has p = true → (filled.pools.get p).complete = true
                  (quiet → t.cond = s.cond)
                    ∧ (r.state = .opened → t.ring = ring filled ∧ t.engine = s.engine)
                    ∧ (r.state = .gathering → ¬ complete → t.ring = ring filled ∧ t.engine = s.engine)
                    ∧ (r.state = .gathering → complete →
                        t.ring = ring { filled with state := .provisional, gather := none }
                          ∧ t.engine = { s.engine with jobs := s.engine.jobs ++ [⟨.compute, b.interval⟩] }
                          ∧ ((∀ z ∈ before ++ after, z.state ≠ .gathering) → t.rx.mode = .normal))
                    ∧ (r.state = .provisional → t.ring = ring filled
                        ∧ ((∀ j ∈ s.engine.jobs, j.interval ≠ b.interval ∨ j.kind = .settle) →
                            t.engine.jobs = s.engine.jobs ++ [⟨.recompute, b.interval⟩])
                        ∧ ((∃ j ∈ s.engine.jobs, j.interval = b.interval ∧ j.kind ≠ .settle) →
                            t.engine.jobs = s.engine.jobs
                              ∧ t.engine.counters.recomputeCoalesced = bump s.engine.counters.recomputeCoalesced)
                        ∧ (∀ j, s.engine.flight = some (.compute j) → j.interval = b.interval →
                            t.engine.flight = some (.compute { j with overtaken := true }))))

/-- A SUMMARY that is too late, for the SETTLING record or below the OPEN record and held by none, is discarded and counted, and a
pool in the cross-check mask is not compared. -/
def Obligations.SummaryTooLateIsCounted : Prop :=
  ∀ (cls : SummaryClass) (e : RxEntry) (b : SummaryBody) (s : State), s.following = true →
    s.rxHead (rxClassOf cls) = some e → e.frame.body = .summary b → s.image.checkMask.has b.pool = true →
    ((∃ r, findRecord b.interval s = some r ∧ r.state = .settling)
      ∨ (b.interval < s.interval.openNumber ∧ ∀ r ∈ s.ring.records, r.number ≠ b.interval)) →
      exec (.takeSummary cls) s = .next { s with
        rx := s.rx.without e
        ring := { s.ring with counters := { s.ring.counters with sumTooLate := bump s.ring.counters.sumTooLate } } }

/-- A SUMMARY of the OPEN record, with an empty slot and no close held, closes it with cause IMPLICIT; one above it closes by JUMP;
the next band is the schedule's and the timer is loaded. With no empty slot the SUMMARY of the OPEN record becomes the held close and
counts as an implicit close already then (DEDUCED, log entry 26); one above it, then or with a close held, becomes or merges into the
held close and is counted as unplaced. One that closes or becomes the held close of its interval is then taken into the record of that
interval, closed or OPEN, unless the roster refuses its source after the close (R17). An own CLOSE that waits or is on the line is
withdrawn and counted (R108, R110); the line's counts are stated where its digest brings no entry to OBSERVER, which would withdraw other
frames too (R153, R179). A SUMMARY of
4294967295 that would do any of this is discarded and counted (DEDUCED where it would jump, log entry 38), its digest not handed on
(DESIGN CHOICE, log entry 61). The model's own besides: the rank counts 32 lower ACTIVE nodes as 32, where R136 gives 0..31 (DEDUCED, log
entry 45). A SUMMARY of the OPEN record with a close held is SummaryIntakeAddsRepeatsOrRefuses. -/
def Obligations.SummaryClosesTheOpenInterval : Prop :=
  ∀ (cls : SummaryClass) (e : RxEntry) (b : SummaryBody) (s : State), s.following = true → s.ringOrdered →
    s.rxHead (rxClassOf cls) = some e → e.frame.body = .summary b → s.interval.openNumber ≤ b.interval →
    (s.interval.held = none ∨ s.interval.openNumber < b.interval) →
      (b.interval = 4294967295 → exec (.takeSummary cls) s = .next { s with
          rx := s.rx.without e
          interval := { s.interval with
            counters := { s.interval.counters with numberLimit := bump s.interval.counters.numberLimit } } })
        ∧ (b.interval < 4294967295 →
            let band := s.image.scheduledBand (b.interval + 1)
            let unplaced := s.interval.openNumber < b.interval
              ∧ (s.interval.held ≠ none ∨ s.interval.drain = true ∨ 4 ≤ s.ring.records.length)
            let quiet := s.image.checkMask.has b.pool = true ∨ s.check.latch = true ∨ s.check.run < 3 ∨ s.cond.record = none
              ∨ s.interval.membership = .observer
            ∃ t, exec (.takeSummary cls) s = .next t ∧ t.rx.entries = (s.rx.without e).entries
              ∧ t.interval.timer = .running s.image.lengthMs
              ∧ s.ownCloseLeaves t ∧ (unplaced ∨ quiet → s.ownCloseCounted t)
              ∧ (¬ unplaced → e.frame.source ≠ s.image.station →
                  (s.interval.openNumber = b.interval → ∀ older r, s.ring.records = older ++ [r] →
                    ∀ y ∈ (r.pools.get b.pool).contributors, y.station ≠ e.frame.source) →
                  s.summaryTaken t e.frame.source b)
              ∧ (s.interval.held = none → s.interval.drain = false → s.ring.records.length < 4 →
                  (s.interval.openNumber = b.interval →
                      s.closesTo t b.interval .implicit (some e.frame.source) band
                        ∧ t.interval.counters.implicitCloses = bump s.interval.counters.implicitCloses)
                    ∧ (s.interval.openNumber < b.interval →
                        s.closesTo t b.interval .jump (some e.frame.source) band
                          ∧ t.interval.counters.jumps = bump s.interval.counters.jumps))
              ∧ (s.interval.openNumber = b.interval → (s.interval.drain = true ∨ 4 ≤ s.ring.records.length) →
                  t.interval.held = some ⟨b.interval, .implicit, some e.frame.source, .schedule⟩
                    ∧ t.interval.counters = { s.interval.counters with
                      closesHeld := bump s.interval.counters.closesHeld
                      implicitCloses := bump s.interval.counters.implicitCloses
                      closeWithdrawn := t.interval.counters.closeWithdrawn })
              ∧ (s.interval.openNumber < b.interval → s.interval.held = none →
                  (s.interval.drain = true ∨ 4 ≤ s.ring.records.length) →
                    t.interval.held = some ⟨b.interval, .implicit, some e.frame.source, .schedule⟩
                      ∧ t.ring = { s.ring with
                        counters := { s.ring.counters with sumUnplaced := bump s.ring.counters.sumUnplaced } })
              ∧ (∀ h, s.interval.openNumber < b.interval → s.interval.held = some h →
                    t.interval.held = some ⟨max h.interval b.interval, .implicit, some e.frame.source, .schedule⟩
                      ∧ t.ring = { s.ring with
                        counters := { s.ring.counters with sumUnplaced := bump s.ring.counters.sumUnplaced } }))

/-- TAKE_RECALL: a RECALL that does not name the node has no effect; one that names it is unanswered outside MEMBER and for a record
that is OPEN, SETTLING or not held, answered by the pending frame while the own summary is on its way, at its limit after two
re-sends, and otherwise answered with a re-send, or dropped when the PEER class is full. -/
def Obligations.RecallIsAnsweredByTheTable : Prop :=
  ∀ (e : RxEntry) (k : Nat) (p : PoolId) (missing : BitVec 64) (s : State), s.live = true → s.rxHead .late = some e →
    e.frame.body = .recall k p missing →
      let taken : State := { s with rx := s.rx.without e }
      let counts (c : RingCounters) : State := { taken with ring := { s.ring with counters := c } }
      let named := missing.getLsbD s.image.station = true
      let c := s.ring.counters
      (missing.getLsbD s.image.station = false → exec .takeRecall s = .next taken)
        ∧ (named → s.interval.membership ≠ .member →
            exec .takeRecall s = .next (counts { c with recallUnanswered := bump c.recallUnanswered }))
        ∧ (named → (∀ r ∈ s.ring.records, r.number = k → r.state = .settling ∨ r.state = .opened) →
            exec .takeRecall s = .next (counts { c with recallUnanswered := bump c.recallUnanswered }))
        ∧ ∀ r before after, named → s.interval.membership = .member → s.ring.records = before ++ r :: after →
            (∀ x ∈ before ++ after, x.number ≠ k) → r.number = k → (r.state = .gathering ∨ r.state = .provisional) →
            let part := r.pools.get p
            ((part.sending = some .waiting ∨ part.sending = some .offered ∨ part.sending = some .queued
                ∨ part.resendQueued = true) → exec .takeRecall s = .next taken)
              ∧ (part.sending = some .sent ∨ part.sending = some .notSent ∨ part.sending = some .withdrawn →
                  part.resendQueued = false →
                  (2 ≤ part.resends →
                    exec .takeRecall s = .next (counts { c with resendLimit := bump c.resendLimit }))
                    ∧ (part.resends < 2 → 8 ≤ classFill .peer s.line.queue →
                        exec .takeRecall s = .next { counts { c with resendDropped := bump c.resendDropped } with
                          line := { s.line with
                            counters := { s.line.counters with txRefused := bump s.line.counters.txRefused } } })
                    ∧ (∀ own, part.resends < 2 → classFill .peer s.line.queue < 8 → part.own = some own →
                        exec .takeRecall s = .next { taken with
                          ring := { s.ring with
                            records := before ++ { r with
                              pools := r.pools.set p
                                { part with resendQueued := true, resends := part.resends + 1 } } :: after }
                          line := s.lineWith (queued (.summary
                            { interval := k
                              pool := p
                              values := own.values
                              estimated := own.estimated
                              tampered := own.tampered
                              resend := true
                              digest := if k ≤ 3 then none
                                else (s.ring.history.find? (fun x => x.number == k - 3)).map (fun x => x.digests.get p) })
                            s.line.queue) }))
/-! ## Service requests -/

/-- A request that is not permitted is answered NOT_PERMITTED with no line frames and not executed, and is counted: each of the
thirteen request commands, for a source not admitted, without an entry, or whose role is NODE. The query kind byte in the header of the
answer to an UNDEFINED_REQUEST is the model's choice (DESIGN CHOICE, log entry 33). -/
def Obligations.UnpermittedRequestsAreRefused : Prop :=
  ∀ (e : RxEntry) (p : List Byte) (s : State), s.asked e p →
    (e.notAdmitted = true ∨ s.peer e.frame.source = none ∨ ∃ x, s.peer e.frame.source = some x ∧ x.role = .node) →
      exec (parseRequest p).command s = .next { s with
        rx := s.rx.without e
        resp :=
          { serving := some (servingWith e.frame.source p .notPermitted 0 [])
            counters := { s.resp.counters with
              requestsTaken := bump s.resp.counters.requestsTaken
              requestsRefused := bump s.resp.counters.requestsRefused } } }

/-- A permitted STATEMENT, CLOSING, POOL, ROSTER, COUNTERS, CONDITIONS or CHECK query is answered DONE with the copy that it names,
laid out in lines, and changes nothing else; where there is nothing to copy, and for an undefined request, the answer is NO_SUCH. Then
the bytes of every line: POOL, ROSTER, CONDITIONS, CHECK and the fifteen sections of COUNTERS. Open are the rounding of a time to seconds
(log entry 11), the interval of an ANNOUNCE or CONDITION at the head (log entry 15) and the line for an absent capture (log entry 18).
The model's own: the monitor's count in bits 7..2 of section 3's marks byte (DESIGN CHOICE, log entry 9), the QUEUED count as the CONDITION frames in the queue (DEDUCED,
log entry 31), the slots oldest first and zeros for what is absent in COUNTERS (DEDUCED, log entry 32), and the header of the answer to an
undefined request (DESIGN CHOICE, log entry 33). A listen time that does not run reads 0 in section 0 (DESIGN CHOICE, log entry 59). -/
def Obligations.QueriesCopyWhatTheyName : Prop :=
  (∀ (e : RxEntry) (p : List Byte) (s : State), s.asked e p → s.fromReader e →
    let counting (i : AccountId) (tenancy last : Nat) (band : Band) : List Record := s.ring.records.filter (fun r =>
      r.state != .opened
        && (match (r.accounts.get i).tenancy with | some x => x.number == tenancy | none => false)
        && decide (last < r.number) && r.band == band)
    let figures (i : AccountId) (tenancy : Nat) (x : Settled) (pool : PoolId) (band : Band) : List Byte :=
      let f := (x.figures.get pool).get band
      let parts := (counting i tenancy x.last band).map (fun r => (r.accounts.get i).pools.get pool)
      beBytes 1 (pool.val * 4 + band.val) ++ beBytes 5 f.energy ++ beBytes 6 f.cost
        ++ beBytes 5 (parts.map (fun y => y.raw.getD 0)).sum ++ beBytes 6 (parts.map (fun y => y.posting.getD 0)).sum
        ++ beBytes 2 f.estimated
    let status (x : AccountStatus) : Nat := match x with | .occupied => 0 | .vacant => 1
    (∀ sel, parseRequest p = .statement sel →
      (accountOf s.image sel = none → exec .statementQuery s = .next (s.serving e p .noSuch 0 []))
        ∧ ∀ i, accountOf s.image sel = some i →
          let a := s.table.accounts.get i
          let pendingBits : Nat := match a.pendingCut with | none => 0 | some x => 2 + 4 * status x
          let slot : Nat := match s.table.slots.get i with | none => 0 | some st => if st.final then 2 else 1
          exec .statementQuery s = .next (s.serving e p .done 0
            ((beBytes 1 i.val ++ beBytes 2 (s.image.accounts.get i).unit ++ beBytes 2 a.tenancy
                ++ beBytes 1 (status a.status + pendingBits + (if a.damaged then 8 else 0) + 16 * slot) ++ beBytes 4 a.settled.last)
              :: (s.image.accounts.get i).mask.pools.flatMap (fun pool =>
                ([0, 1, 2, 3] : List Band).map (fun band => figures i a.tenancy a.settled pool band)))))
      ∧ (∀ sel, parseRequest p = .closing sel →
          (accountOf s.image sel = none → exec .closingQuery s = .next (s.serving e p .noSuch 0 []))
            ∧ ∀ i, accountOf s.image sel = some i →
              (s.table.slots.get i = none → exec .closingQuery s = .next (s.serving e p .noSuch 0 []))
                ∧ ∀ st, s.table.slots.get i = some st →
                  exec .closingQuery s = .next (s.serving e p .done 0
                    ((beBytes 1 i.val ++ beBytes 2 st.unit ++ beBytes 2 st.tenancy
                        ++ beBytes 1 (status st.oldStatus + 2 * status st.newStatus + (if st.final then 4 else 0)
                          + (if st.incomplete then 8 else 0))
                        ++ beBytes 4 st.cut ++ beBytes 4 st.settled.last)
                      :: (s.image.accounts.get i).mask.pools.flatMap (fun pool =>
                        ([0, 1, 2, 3] : List Band).map (fun band => figures i st.tenancy st.settled pool band
                          ++ beBytes 2 ((st.settled.figures.get pool).get band).tampered)))))
      ∧ (∀ n, parseRequest p = .pool n →
          (4 ≤ n ∨ s.ring.view = none → exec .poolQuery s = .next (s.serving e p .noSuch 0 []))
            ∧ ∀ pool : PoolId, pool.val = n →
              (s.image.mask.has pool = false → exec .poolQuery s = .next (s.serving e p .noSuch 0 []))
                ∧ ∀ v, s.image.mask.has pool = true → s.ring.view = some v →
                  exec .poolQuery s = .next (s.serving e p .done 0 (poolLines v pool)))
      ∧ (parseRequest p = .roster → exec .rosterQuery s = .next (s.serving e p .done 0 s.rosterLines))
      ∧ (∀ n, parseRequest p = .counters n →
          (14 < n → exec .countersQuery s = .next (s.serving e p .noSuch 0 []))
            ∧ ∀ lines, (s.taken e).sectionLines n = some lines →
              exec .countersQuery s = .next (s.serving e p .done 0 lines))
      ∧ (∀ n, n ≤ 14 → (s.sectionLines n).isSome = true)
      ∧ (parseRequest p = .conditions → exec .conditionsQuery s = .next (s.serving e p .done 0 s.conditionLines))
      ∧ (parseRequest p = .check → exec .checkQuery s = .next (s.serving e p .done 0 s.checkLines))
      ∧ (parseRequest p = .undefined → exec .undefinedRequest s = .next (s.serving e p .noSuch 0 [])))
    ∧ (∀ (v : SettledView) (p : PoolId),
         let x := v.pools.get p
         let bit (n : Nat) (b : Bool) : Nat := if b then 2 ^ n else 0
         let cause : Nat := match v.cause with
           | none => 0 | some .own => 1 | some .foreign => 2 | some .implicit => 3 | some .jump => 4
         let two (c : Entry) : List Byte := beBytes 2 (c.station * 1024 + bit 4 c.estimated + bit 3 c.tampered + bit 2 c.late
           + bit 1 c.unexpected + bit 0 c.conflict)
         poolLines v p =
           (beBytes 4 v.number
             ++ beBytes 1 (v.band.val + 4 * cause + bit 5 v.renumbered + bit 6 v.partialMark + bit 7 v.unallocated)
             ++ beBytes 1 (v.causeStation.getD 0)
             ++ beBytes 1 (match v.compute with | .none => 0 | .computed => 1 | .stale => 2) ++ beBytes 1 p.val)
           :: (beBytes 5 x.totals.e ++ beBytes 6 x.totals.c ++ beBytes 5 x.totals.u ++ beBytes 5 x.totals.m
             ++ beBytes 4 x.totals.a
             ++ beBytes 1 (bit 0 x.complete + bit 1 x.recalled + bit 2 x.estimated + bit 3 x.tampered + bit 4 x.orphan
               + bit 5 x.imbalance)
             ++ beBytes 1 x.contributors.length)
           :: (List.range ((x.contributors.length + 13) / 14)).map (fun n =>
             ((x.contributors.drop (14 * n)).take 14).flatMap two))
    ∧ (∀ s : State,
         s.rosterLines =
           (beBytes 1 s.roster.entries.length ++ beBytes 4 s.roster.planDigest.toNat
             ++ beBytes 1 (match s.roster.announce with | .none => 0 | .waiting => 1 | .queued => 2)
             ++ beBytes 1 (if s.roster.fullMark then 1 else 0) ++ beBytes 1 s.image.rateLimit ++ beBytes 1 s.image.codeA)
           :: s.roster.entries.map (fun e =>
             beBytes 1 e.station
               ++ beBytes 1 ((if e.role = .reader then 128 else 0) + (if e.announcedInterval = none then 0 else 64)
                 + 16 * (match e.state with | .active => 0 | .silent => 1 | .quarantined => 2)
                 + (match e.plan with | .unknown => 0 | .isMatch => 1 | .mismatch => 2))
               ++ beBytes 1 e.mask.toNat ++ beBytes 1 e.missed ++ beBytes 1 e.frames ++ beBytes 1 e.noisy
               ++ beBytes 4 e.lastHeard ++ beBytes 4 (e.announcedInterval.getD 0)
               ++ beBytes 1 (match e.announcedMembership with | none => 255 | some m => m.code)))
    ∧ (∀ s : State,
         let nine (seq : Nat) (cause : Cause) (param interval : Nat) (compound : Bool) (last : Nat) : List Byte :=
           beBytes 1 seq ++ beBytes 1 ((if cause.isFault then 128 else 0) + (if compound then 64 else 0) + cause.code)
             ++ beBytes 2 param ++ beBytes 4 interval ++ beBytes 1 last
         let held (compound : Bool) (c : Condition) : List Byte := nine c.seq c.cause c.param c.interval compound
           (match c.sending with | .unsent => 0 | .queued => 1 | .sent => 2)
         let all : List (List Byte) := s.cond.notices.map (held false)
           ++ (match s.cond.record with
             | none => []
             | some r => held false r.fault :: ((r.compound.map (held true)).toList
               ++ (r.latest.map (fun l => nine 0 l.cause l.param l.interval false 255)).toList))
         let presence : Nat := match s.cond.record with
           | none => 0
           | some r => 1 + (if r.compound = none then 0 else 2) + (if r.latest = none then 0 else 4)
         s.conditionLines =
           (beBytes 1 s.cond.seq ++ beBytes 1 (s.line.queue.countP (fun f => f.body.kind == 2))
             ++ beBytes 1 (if s.interval.drain then 1 else 0) ++ beBytes 1 s.cond.notices.length ++ beBytes 1 presence)
           :: (List.range ((all.length + 2) / 3)).map (fun n => ((all.drop (3 * n)).take 3).flatten))
    ∧ (∀ s : State, ∃ capture : List (List Byte),
         (∀ c, s.check.capture = some c → capture =
           [beBytes 4 c.interval ++ beBytes 1 c.pool.val ++ beBytes 1 c.station ++ beBytes 4 c.own.toNat
             ++ beBytes 4 c.received.toNat])
         ∧ (s.check.capture = none → capture = [] ∨ ∃ line, capture = [line] ∧ line.length = 14)
         ∧ s.checkLines =
           (beBytes 1 s.image.checkMask.toNat ++ beBytes 1 s.check.run ++ beBytes 4 s.check.runInterval
             ++ beBytes 1 (if s.check.latch then 1 else 0) ++ beBytes 1 (if s.check.capture = none then 0 else 1))
           :: (([0, 1, 2, 3] : List PoolId).map (fun p =>
               let x := s.check.counts.get p
               beBytes 1 p.val ++ beBytes 2 x.compared ++ beBytes 2 x.mismatched ++ beBytes 2 x.absent ++ beBytes 2 x.unheld)
             ++ capture
             ++ s.ring.history.map (fun h => beBytes 4 h.number ++ beBytes 1 h.band.val
               ++ s.image.mask.pools.flatMap (fun p => beBytes 4 (h.digests.get p).toNat))))
    ∧ (∀ s : State, ∃ sec : Nat → Nat, ((∀ ms, sec ms = ms / 1000) ∨ (∀ ms, sec ms = (ms + 999) / 1000)) ∧
         let two (l : List Nat) : List Byte := l.flatMap (beBytes 2)
         let u := s.interval
         let ic := u.counters
         let rc := s.ring.counters
         let ec := s.engine.counters
         let tc := s.table.counters
         let lc := s.line.counters
         let xc := s.rx.counters
         let pc := s.resp.counters
         let oc := s.roster.counters
         let cc := s.cond.counters
         let frames (c : TxClass) : List Byte := beBytes 1 (classFill c s.line.queue)
         s.sectionLines 0 = some
             [ beBytes 1 u.membership.code ++ beBytes 4 u.openNumber
                 ++ (match u.timer with
                   | .stopped => beBytes 1 0 ++ beBytes 2 0
                   | .running ms => beBytes 1 1 ++ beBytes 2 (sec ms)
                   | .waitingLine => beBytes 1 2 ++ beBytes 2 0)
                 ++ beBytes 2 (sec (u.listen.getD 0))
                 ++ (match u.held with
                   | none => beBytes 8 0
                   | some h => beBytes 1 1 ++ beBytes 4 h.interval
                     ++ beBytes 1 (match h.cause with | .own => 1 | .foreign => 2 | .implicit => 3 | .jump => 4)
                     ++ beBytes 1 (h.station.getD 0)
                     ++ beBytes 1 (match h.source with | .schedule => 0 | .frame b => 4 + b.val))
                 ++ beBytes 1 u.driftRun ++ beBytes 1 (if u.drain then 1 else 0),
               two [ic.closesTaken, ic.closesSent, ic.closeWithdrawn, ic.closeDuplicate, ic.closeBehind, ic.implicitCloses,
                 ic.jumps, ic.closesHeld, ic.heldMerged, ic.deviations, ic.numberLimit, ic.adoptions, ic.foundings] ]
           ∧ s.sectionLines 1 = some
             [ beBytes 1 s.ring.records.length
                 ++ s.ring.records.flatMap (fun r =>
                   beBytes 1 (match r.state with | .opened => 1 | .gathering => 2 | .provisional => 3 | .settling => 4)
                     ++ beBytes 4 r.number)
                 ++ List.replicate (5 * (4 - s.ring.records.length)) 0#8,
               two [rc.sumDuplicate, rc.sumConflict, rc.sumTooLate, rc.sumUnplaced, rc.sumRefused, rc.recallDropped,
                 rc.recallUnanswered, rc.resendLimit, rc.resendDropped, ec.computeRuns, ec.recomputeRuns,
                 ec.recomputeCoalesced, ec.staleResults, ec.mSubstituted],
               two [ec.settleRuns, ec.settleSkipped, ec.settleUncomputed, ec.settleWaits],
               beBytes 1 s.engine.jobs.length
                 ++ (match s.engine.flight with
                   | none => beBytes 5 0
                   | some (.compute j) => beBytes 1 (if j.recompute then 2 else 1) ++ beBytes 4 j.interval
                   | some (.settle j) => beBytes 1 3 ++ beBytes 4 j.interval)
                 ++ beBytes 4 s.table.nodeLast ]
           ∧ s.sectionLines 2 = some
             [two [tc.cutsApplied, tc.repairCuts, tc.releases, tc.noTarget, tc.saturatedAdds, tc.storeHeld]
               ++ beBytes 1 s.store.queue.length]
           ∧ (∃ head : List Byte,
               (s.line.queue = [] → head = beBytes 5 0)
                 ∧ (∀ f rest, s.line.queue = f :: rest →
                     (∀ k b, f.body = .close k b → head = beBytes 1 1 ++ beBytes 4 k)
                       ∧ (∀ k p m, f.body = .recall k p m → head = beBytes 1 3 ++ beBytes 4 k)
                       ∧ (∀ b, f.body = .summary b → head = beBytes 1 4 ++ beBytes 4 b.interval)
                       ∧ (∀ b, f.body = .reply b → head = beBytes 1 7 ++ beBytes 4 0)
                       ∧ (∀ b, f.body = .condition b → head.take 1 = beBytes 1 2 ∧ head.length = 5)
                       ∧ (∀ a b c d n u, f.body = .announce a b c d n u →
                           head = beBytes 1 5 ++ beBytes 4 0 ∨ head = beBytes 1 5 ++ beBytes 4 n))
                 ∧ s.sectionLines 3 = some
                   [ beBytes 1 (match s.line.monitor with | .gap => 0 | .idle => 1 | .frame => 2 | .stuck => 3) ++ frames .close ++ frames .condition
                       ++ frames .peer ++ frames .reply ++ beBytes 1 s.line.offers.length ++ head
                       ++ beBytes 1 ((if s.line.stuckMark then 1 else 0) + (if s.line.dupMark then 2 else 0) + 4 * s.line.recessive),
                     two [lc.txFrames, lc.txContentionLost, lc.txCollisions, lc.txAbandoned, lc.txWithdrawn, lc.txCutOff,
                       lc.txRefused, lc.warnHolds, lc.stuckEpisodes, lc.rxFrames, lc.rxBadForm, lc.rxBadLength,
                       lc.rxBadCheck, lc.rxBadKind],
                     two [lc.rxBadSource, lc.rxOwnSource] ])
           ∧ s.sectionLines 4 = some
             [ beBytes 1 (match s.rx.mode with | .normal => 0 | .urgent => 1) ++ beBytes 1 (s.rx.fill .current)
                 ++ beBytes 1 (s.rx.fill .late) ++ beBytes 1 (s.rx.fill .service) ++ beBytes 1 (40 - s.rx.entries.length)
                 ++ beBytes 1 ((if s.rx.dropCurrent then 1 else 0) + (if s.rx.dropLate then 2 else 0)
                   + (if s.rx.dropService then 4 else 0))
                 ++ beBytes 1 s.rx.peak,
               two [xc.kindDiscarded, xc.peerRefused, xc.poolDiscarded, xc.notAddressed, xc.dropCurrent, xc.dropLate,
                 xc.dropService, xc.purged, xc.urgentEntries, pc.requestsTaken, pc.requestsRefused, pc.replyFrames,
                 pc.replyWaits, pc.repliesCut] ]
           ∧ s.sectionLines 5 = some
             [two [oc.learned, oc.evicted, oc.notAdmitted, oc.freed, oc.rateDiscarded, oc.quarantines, oc.quarantineReleases,
               oc.planMismatches, oc.announcesSent]]
           ∧ s.sectionLines 6 = some
             [two [cc.faultsRaised, cc.laterFaults, cc.observerEntries, cc.noticesDisplaced, cc.displacedUnsent,
               cc.conditionsSent, cc.acks, cc.rejoins]]
           ∧ ∀ ch : ChannelId,
             let c := s.channels.get ch
             let kind := (s.image.channels.get ch).kind
             s.sectionLines (7 + ch.val) = some
               [ beBytes 1 (match kind with | .off => 0 | .consumer => 1 | .plant => 2 | .supply => 3)
                   ++ beBytes 1 (if kind = .supply ∨ kind = .off then 0 else if c.sensorFault then 3 else if c.still then 1
                     else if c.reversed then 2 else 0)
                   ++ beBytes 4 c.pulses ++ beBytes 4 c.volume ++ beBytes 4 c.energy ++ beBytes 4 c.reverse
                   ++ beBytes 4 c.held,
                 beBytes 6 c.life.energy ++ beBytes 6 c.life.reverse ++ beBytes 6 c.life.volume,
                 two [c.counters.overrunSamples, c.counters.deadBandSamples, c.counters.reverseEntries,
                   c.counters.faultEntries, c.counters.tamperEvents, c.counters.energyClipped] ])

/-- CUT is answered by the first line of R60's table that applies, with the account's tenancy number; only ACCEPTED changes anything:
the account's pending cut becomes present with the new status. At the next close, here the node's own, the cut forms the closing
statement, with the figures of a SETTLE step under way, zeroes the account under its next tenancy and requests the two writes, the
statement's first; a DAMAGED account is repaired instead, without a statement. -/
def Obligations.CutIsAnsweredByTheTable : Prop :=
  (∀ (e : RxEntry) (p : List Byte) (sel status : Nat) (s : State), s.asked e p → s.fromReader e →
    parseRequest p = .cut sel status →
      (accountOf s.image sel = none ∨ 1 < status → exec .cut s = .next (s.serving e p .noSuch 0 []))
        ∧ ∀ i, accountOf s.image sel = some i → status ≤ 1 →
          let a := s.table.accounts.get i
          let refused (st : Status) : Prop := exec .cut s = .next (s.serving e p st a.tenancy [])
          let inRing := s.interval.membership = .member ∨ s.interval.membership = .observer
          (¬ inRing → refused .state)
            ∧ (inRing → s.image.cutEnable = false → refused .notPermitted)
            ∧ (inRing → s.image.cutEnable = true → a.pendingCut ≠ none → refused .pending)
            ∧ (inRing → s.image.cutEnable = true → a.pendingCut = none → s.table.slots.get i ≠ none → refused .held)
            ∧ (inRing → s.image.cutEnable = true → a.pendingCut = none → s.table.slots.get i = none → a.tenancy = 65535 →
                refused .limit)
            ∧ (inRing → s.image.cutEnable = true → a.pendingCut = none → s.table.slots.get i = none → a.tenancy ≠ 65535 →
                exec .cut s = .next { s.serving e p .accepted a.tenancy [] with
                  table := { s.table with
                    accounts := s.table.accounts.set i
                      { a with pendingCut := some (if status = 1 then .vacant else .occupied) } } }))
    ∧ ∀ (ms : Nat) (s : State), s.following = true → s.ringOrdered → s.interval.timer = .running ms →
        s.interval.openNumber ≠ 4294967295 → s.interval.held = none → s.interval.drain = false → s.ring.records.length < 4 →
        (∀ f ∈ s.line.queue, f.body.kind ≠ 1) →
          let k := s.interval.openNumber
          let pending (damaged : Bool) : Nat := allAccounts.countP (fun i =>
            (s.table.accounts.get i).pendingCut.isSome && (s.table.accounts.get i).damaged == damaged)
          ∃ t, exec .ownExpiry s = .next t
            ∧ t.table.counters.cutsApplied = bumpBy (pending false) s.table.counters.cutsApplied
            ∧ t.table.counters.repairCuts = bumpBy (pending true) s.table.counters.repairCuts
            ∧ ∀ i status, (s.table.accounts.get i).pendingCut = some status →
                let a := s.table.accounts.get i
                let unit := (s.image.accounts.get i).unit
                let writes : List StoreWrite := (t.store.queue.filter (fun q =>
                  q.write.recordNumber == i.val || q.write.recordNumber == 16 + i.val)).map (fun q => q.write)
                (a.damaged = false →
                  let figures : Settled := match s.engine.flight with
                    | some (.settle j) => (match j.waiting with
                      | some (.step h false x) => if h = i ∧ j.absorbed = false then x else a.settled
                      | _ => a.settled)
                    | _ => a.settled
                  let st : Statement := ⟨unit, a.tenancy, a.status, status, k, false, false, figures⟩
                  t.table.slots.get i = some st
                    ∧ t.table.accounts.get i =
                      ⟨a.tenancy + 1, status, ⟨a.settled.last, Figures.zero⟩, none, false⟩
                    ∧ writes = [.statement i (some st),
                      .account i ⟨unit, a.tenancy + 1, status, ⟨a.settled.last, Figures.zero⟩⟩])
                  ∧ (a.damaged = true →
                      t.table.slots.get i = s.table.slots.get i
                        ∧ t.table.accounts.get i = ⟨a.tenancy + 1, status, ⟨k, Figures.zero⟩, none, false⟩
                        ∧ writes.filter (fun w => w.recordNumber == i.val) =
                          [.account i ⟨unit, a.tenancy + 1, status, ⟨k, Figures.zero⟩⟩])

/-- RELEASE: no account or an empty slot is NO_SUCH, a PROVISIONAL statement NOT_FINAL; a FINAL one is released: the slot is empty,
RELEASES counts it, the record's write as free is requested, and the answer is DONE with the statement's tenancy number. That the new
request is awaited where the one it replaces was is log entry 41, and STORE_HELD counted at a request made in the warning log entry
36. -/
def Obligations.ReleaseEmptiesAFinalSlot : Prop :=
  ∀ (e : RxEntry) (p : List Byte) (sel : Nat) (s : State), s.asked e p → s.fromReader e → parseRequest p = .release sel →
    (accountOf s.image sel = none → exec .release s = .next (s.serving e p .noSuch 0 []))
      ∧ ∀ i, accountOf s.image sel = some i →
        (s.table.slots.get i = none → exec .release s = .next (s.serving e p .noSuch 0 []))
          ∧ (∀ st, s.table.slots.get i = some st → st.final = false →
              exec .release s = .next (s.serving e p .notFinal 0 []))
          ∧ ∀ st, s.table.slots.get i = some st → st.final = true →
              exec .release s = .next { s.serving e p .done st.tenancy [] with
                table := { s.table with
                  slots := s.table.slots.set i none
                  counters := { s.table.counters with
                    releases := bump s.table.counters.releases
                    storeHeld :=
                      if s.control.supplyWarn then bump s.table.counters.storeHeld else s.table.counters.storeHeld } }
                store := { s.store with
                  queue :=
                    s.store.queue.filter (fun q => q.write.recordNumber != 16 + i.val)
                      ++ [⟨.statement i none, s.store.queue.any (fun q => q.write.recordNumber == 16 + i.val && q.awaited)⟩] } }

/-- ACK removes the notice it names, clearing the channel's latch for a PULSE-mode TAMPER notice, or empties the fault record if it
names the fault or the compound cause, and is counted; a number that names no held condition is NO_SUCH. -/
def Obligations.AckRemovesTheNamedCondition : Prop :=
  ∀ (e : RxEntry) (p : List Byte) (n : Nat) (s : State), s.asked e p → s.fromReader e → parseRequest p = .ack n →
    let acked : CondCounters := { s.cond.counters with acks := bump s.cond.counters.acks }
    (∀ c before after, s.cond.notices = before ++ c :: after → c.seq = n → (∀ x ∈ before ++ after, x.seq ≠ n) →
      (c.cause ≠ .tamper ∨ c.param % 256 ≠ 1 →
        exec .ack s = .next { s.serving e p .done n [] with
          cond := { s.cond with notices := before ++ after, counters := acked } })
        ∧ ∀ ch : ChannelId, c.cause = .tamper → c.param = ch.val * 256 + 1 →
          exec .ack s = .next { s.serving e p .done n [] with
            cond := { s.cond with notices := before ++ after, counters := acked }
            channels := s.channels.set ch { s.channels.get ch with latch := false } })
      ∧ (∀ r, (∀ x ∈ s.cond.notices, x.seq ≠ n) → s.cond.record = some r →
          (r.fault.seq = n ∨ ∃ c, r.compound = some c ∧ c.seq = n) →
          let t : State := { s.serving e p .done n [] with cond := { s.cond with record := none, counters := acked } }
          exec .ack s = .next t ∧ t.faultOutput = false)
      ∧ ((∀ x ∈ s.cond.notices, x.seq ≠ n) →
          (∀ r, s.cond.record = some r → r.fault.seq ≠ n ∧ ∀ c, r.compound = some c → c.seq ≠ n) →
          exec .ack s = .next (s.serving e p .noSuch n []))

/-- REJOIN is accepted in OBSERVER with no drain under way and an empty fault record: DONE, counted, the drain marked, every gather
ended without RECALL or COMPUTE, and with no record SETTLING the oldest non-OPEN record goes to SETTLING. Else STATE, and nothing
changes. CLEAR-CHECK is answered DONE and clears the cross-check unit and nothing else. -/
def Obligations.RejoinDrainsAndClearCheckClears : Prop :=
  ∀ (e : RxEntry) (p : List Byte) (s : State), s.asked e p → s.fromReader e →
    (parseRequest p = .rejoin →
      (s.interval.membership ≠ .observer ∨ s.interval.drain = true ∨ s.cond.record ≠ none →
        exec .rejoin s = .next (s.serving e p .state s.interval.openNumber []))
        ∧ (s.interval.membership = .observer → s.interval.drain = false → s.cond.record = none →
            let ended (r : Record) : Record :=
              if r.state = .gathering then { r with state := .provisional, gather := none } else r
            let base : State := { s.serving e p .done s.interval.openNumber [] with
              cond := { s.cond with counters := { s.cond.counters with rejoins := bump s.cond.counters.rejoins } }
              interval := { s.interval with drain := true }
              rx := { s.rx.without e with mode := .normal } }
            ((∃ r ∈ s.ring.records, r.state = .settling) ∨ (∀ r ∈ s.ring.records, r.state = .opened) →
              exec .rejoin s = .next { base with ring := { s.ring with records := s.ring.records.map ended } })
              ∧ (∀ r rest, s.ring.records = r :: rest → r.state ≠ .opened → (∀ x ∈ s.ring.records, x.state ≠ .settling) →
                  (∀ x ∈ rest, x.number ≠ r.number) →
                  exec .rejoin s = .next { base with
                    ring := { s.ring with
                      records :=
                        { r with
                          state := .settling
                          gather := none
                          pools := r.pools.map (fun x =>
                            { x with
                              sending :=
                                if x.sending = some .waiting ∨ x.sending = some .offered then some .notSent
                                else x.sending }) } :: rest.map ended }
                    engine := { s.engine with jobs := s.engine.jobs ++ [⟨.settle, r.number⟩] }
                    line := { s.line with
                      offers := s.line.offers.filter (fun o =>
                        match o with | .summary b => b.interval != r.number | .announce => true) } })))
      ∧ (parseRequest p = .clearCheck →
          exec .clearCheck s = .next { s.serving e p .done 0 [] with
            check := ⟨Four.fill ⟨0, 0, 0, 0⟩, none, 0, 0, false⟩ })

/-! ## The allocation engine and the store -/

/-- COMPUTE_JOB_START: with no job in flight the compute job at the head leaves the list and starts, with its copy of the record's
totals and of the DAMAGED marks, and is counted by its kind. -/
def Obligations.ComputeJobStartsWithItsCopy : Prop :=
  ∀ (k : Nat) (rest : List Job) (r : Record) (s : State), s.following = true → s.engine.flight = none →
    findRecord k s = some r →
      let flight (recompute : Bool) : Option Flight := some (.compute
        ⟨recompute, k, r.pools.map (fun x => x.totals), s.table.accounts.map (fun a => a.damaged), false⟩)
      (s.engine.jobs = ⟨.compute, k⟩ :: rest →
        exec .computeJobStart s = .next { s with engine :=
          ⟨rest, flight false, { s.engine.counters with computeRuns := bump s.engine.counters.computeRuns }⟩ })
        ∧ (s.engine.jobs = ⟨.recompute, k⟩ :: rest →
            exec .computeJobStart s = .next { s with engine :=
              ⟨rest, flight true, { s.engine.counters with recomputeRuns := bump s.engine.counters.recomputeRuns }⟩ })

/-- COMPUTE_JOB_COMPLETE, in a state whose ring is in order: each account that takes part in a pool gets its posting:
base × a / A plus rest × m / M, with the local sum for M where that is larger, a for m where M is 0, and 0 for A = 0, a DAMAGED account or a node in OBSERVER, where UNALLOCATED is
set. ORPHAN and IMBALANCE follow, ORPHAN_COST and METER_IMBALANCE are raised with the pool number where the rules say and at most once a
record and pool, the compute state is COMPUTED, or STALE for a job overtaken, and no job is in flight. The order of several notices, pool
by pool ascending and ORPHAN_COST first, is the model's choice (DESIGN CHOICE, log entry 49). -/
def Obligations.ComputeJobPostsTheShares : Prop :=
  ∀ (j : ComputeJob) (r : Record) (before after : List Record) (s : State), s.control.power = .running → s.ringOrdered →
    s.engine.flight = some (.compute j) → s.ring.records = before ++ r :: after → r.number = j.interval →
    (∀ x ∈ before ++ after, x.number ≠ j.interval) →
      ∃ t x, exec .computeJobComplete s = .next t
        ∧ t = { s with ring := t.ring, engine := t.engine, cond := t.cond, channels := t.channels }
        ∧ t.ring = { s.ring with records := before ++ x :: after }
        ∧ x = { r with unallocated := x.unallocated, compute := x.compute, pools := x.pools, accounts := x.accounts }
        ∧ x.compute = (if j.overtaken then .stale else .computed)
        ∧ x.unallocated = (r.unallocated || decide (s.interval.membership = .observer))
        ∧ t.engine.flight = none ∧ t.engine.jobs = s.engine.jobs
        ∧ (t.engine.counters.staleResults =
            if j.overtaken then bump s.engine.counters.staleResults else s.engine.counters.staleResults)
        ∧ (∀ (i : AccountId) (p : PoolId),
            let c := j.copy.get p
            let m (h : AccountId) : Nat := (((r.accounts.get h).pools.get p).weighted).getD 0
            let taking (h : AccountId) : Bool := (s.image.accounts.get h).mask.has p && s.image.mask.has p
            let divisor := max c.m (((allAccounts.filter taking).map m).sum)
            let base := c.c * (s.image.pools.get p).base / 100
            let area := (s.image.accounts.get i).area
            (x.accounts.get i).tenancy = (r.accounts.get i).tenancy
              ∧ (x.accounts.get i).pools.get p = { (r.accounts.get i).pools.get p with
                posting :=
                  if taking i = false then ((r.accounts.get i).pools.get p).posting
                  else if s.interval.membership = .observer ∨ c.a = 0 ∨ j.damaged.get i = true then some 0
                  else some (base * area / c.a
                    + (if divisor = 0 then (c.c - base) * area / c.a else (c.c - base) * m i / divisor)) })
        ∧ (∀ p : PoolId,
            let c := j.copy.get p
            let part := r.pools.get p
            x.pools.get p =
              if s.image.mask.has p then
                { part with
                  orphan := decide (c.a = 0)
                  orphanNotice := part.orphanNotice || (decide (c.a = 0) && decide (0 < c.c))
                  imbalance := part.imbalance || (decide (0 < c.e) && decide (c.e + c.e / 16 < c.u)) }
              else part)
        ∧ (let orphaned (p : PoolId) : Prop := (j.copy.get p).a = 0 ∧ 0 < (j.copy.get p).c ∧ (r.pools.get p).orphanNotice = false
           let unbalanced (p : PoolId) : Prop := 0 < (j.copy.get p).e
             ∧ (j.copy.get p).e + (j.copy.get p).e / 16 < (j.copy.get p).u ∧ (r.pools.get p).imbalance = false
           let notice (seq : Nat) (cause : Cause) (p : PoolId) : Condition := ⟨seq, cause, p.val, s.interval.openNumber, .unsent⟩
           let shown (y : Condition) : Cause × Nat × Nat × CondSending := (y.cause, y.param, y.interval, y.sending)
           let raised : List Condition := s.image.mask.pools.flatMap (fun p =>
             (if orphaned p then [notice 0 .orphanCost p] else []) ++ (if unbalanced p then [notice 0 .meterImbalance p] else []))
           (raised = [] → t.cond = s.cond ∧ t.channels = s.channels)
             ∧ (s.cond.notices.length + raised.length ≤ 8 →
                 t.cond.notices.map shown = s.cond.notices.map shown ++ raised.map shown
                   ∧ t.cond.record = s.cond.record ∧ t.channels = s.channels)
             ∧ (s.cond.notices.length < 8 → ∀ p, s.image.mask.pools = [p] →
                 (orphaned p → ¬ unbalanced p → t.cond = { s.cond with
                   seq := s.nextSeq, notices := s.cond.notices ++ [notice s.nextSeq .orphanCost p] })
                   ∧ (¬ orphaned p → unbalanced p → t.cond = { s.cond with
                       seq := s.nextSeq, notices := s.cond.notices ++ [notice s.nextSeq .meterImbalance p] })))

/-- R31: the engine splits the cost total C that it takes from the record into the base part C × b / 100, rounded down, and the
consumption part, the rest: the two always add up to C; b = 0 shares all by energy and b = 100 all by area. -/
def Obligations.CostSplitsIntoBaseAndConsumption : Prop :=
  ∀ (recompute : Bool) (k : Nat) (r : Record) (p : PoolId) (b a m divisor : Nat) (s : State), findRecord k s = some r → b ≤ 100 →
    let t := (s.computeJob recompute k).copy.get p
    let base := basePart t.c b
    t.c = (r.pools.get p).totals.c
      ∧ base = t.c * b / 100 ∧ base + (t.c - base) = t.c ∧ (b = 0 → base = 0) ∧ (b = 100 → t.c - base = 0)
      ∧ (b = 0 → 0 < divisor → share b t divisor a m = t.c * m / divisor)
      ∧ (b = 100 → share b t divisor a m = t.c * a / t.a)

/-- For one record and pool the postings that a compute gives the node's accounts never exceed the cost total C, as long as the local
area weights add up to at most A. -/
def Obligations.PostingsNeverExceedTheCost : Prop :=
  ∀ (img : Image) (observer : Bool) (j : ComputeJob) (r : Record) (p : PoolId), (img.pools.get p).base ≤ 100 →
    ((allAccounts.filter (fun i => img.takesPart i p)).map (fun i => (img.accounts.get i).area)).sum ≤ (j.copy.get p).a →
      ((allAccounts.filter (fun i => img.takesPart i p)).map (fun i => posting img observer j r i p)).sum ≤ (j.copy.get p).c

/-- A SETTLE job: its start computes the pool digests, zeroes the postings in OBSERVER, counts a record without a compute in
SETTLE_UNCOMPUTED (log entry 23), passes over DAMAGED accounts, counts those without a target and those that the guard skips, makes the
additions of the next account into it or its closing statement, held at their maxima with ACCUMULATOR_LIMIT, and requests that write,
the table unchanged; with none left it goes on to the node record. All writes done, its completion frees the slot, enters the digests in
the history, each number once (log entry 48), keeps the view and is counted. -/
def Obligations.SettleJobAddsWritesAndFreesTheSlot : Prop :=
  (∀ (k : Nat) (rest : List Job) (r : Record) (s : State), s.following = true → s.engine.flight = none →
    s.engine.jobs = ⟨.settle, k⟩ :: rest → findRecord k s = some r → r.number = k → s.control.supplyWarn = false →
      let account (i : AccountId) : Account := s.table.accounts.get i
      let mine (i : AccountId) : Bool := match (r.accounts.get i).tenancy with
        | some x => x.number == (account i).tenancy
        | none => false
      let statement (i : AccountId) : Option Statement := match (r.accounts.get i).tenancy, s.table.slots.get i with
        | some x, some st => if x.number = st.tenancy ∧ mine i = false then some st else none
        | _, _ => none
      let lost (i : AccountId) : Bool := !(account i).damaged && !mine i && (statement i).isNone
      let guarded (i : AccountId) : Bool := !(account i).damaged
        && (if mine i then decide (k ≤ (account i).settled.last)
          else match statement i with | some st => decide (k ≤ st.settled.last) | none => false)
      let passed (i : AccountId) : Bool := (account i).damaged || lost i || guarded i
      let most : Four Nat := ⟨1099511627775, 281474976710655, 65535, 65535⟩
      let held (x : Settled) (p : PoolId) (band : Band) : Four Nat :=
        let f := (x.figures.get p).get band
        ⟨f.energy, f.cost, f.estimated, f.tampered⟩
      let added (i : AccountId) (p : PoolId) : Four Nat :=
        let part := (r.accounts.get i).pools.get p
        ⟨part.raw.getD 0, if s.interval.membership = .observer then 0 else part.posting.getD 0, part.estimated.toNat,
          part.tampered.toNat⟩
      let takes (i : AccountId) (p : PoolId) : Bool := (s.image.accounts.get i).mask.has p && s.image.mask.has p
      let sums (x y : Settled) (i : AccountId) : Prop := y.last = k ∧ ∀ (p : PoolId) (band : Band) (f : Fin 4),
        (held x p band).get f ≤ most.get f →
          (held y p band).get f =
            if takes i p = true ∧ band = r.band then min ((held x p band).get f + (added i p).get f) (most.get f)
            else (held x p band).get f
      let full (x : Settled) (i : AccountId) (p : PoolId) (f : Fin 4) : Bool :=
        decide (0 < (added i p).get f) && decide (most.get f ≤ (held x p r.band).get f)
      let reaches (x : Settled) (i : AccountId) (p : PoolId) (f : Fin 4) : Bool := takes i p
        && decide ((held x p r.band).get f < most.get f)
        && decide (most.get f ≤ (held x p r.band).get f + (added i p).get f)
      ∃ t j, exec .settleJobStart s = .next t ∧ t.engine.flight = some (.settle j) ∧ j.interval = k ∧ t.engine.jobs = rest
        ∧ t.table.accounts = s.table.accounts ∧ t.table.slots = s.table.slots
        ∧ t.store.contents = s.store.contents ∧ t.store.writing = s.store.writing
        ∧ (s.interval.membership = .member → t.interval.membership = .member → t.ring = s.ring)
        ∧ (s.interval.membership = .observer → t.ring = { s.ring with records := s.ring.records.map (fun x =>
            if x.number = k then
              { x with
                unallocated := true
                accounts := x.accounts.map (fun y =>
                  { y with pools := y.pools.map (fun z => { z with posting := z.posting.map (fun _ => 0) }) }) }
            else x) })
        ∧ (∀ p, s.image.mask.has p = true → j.digests.get p =
            poolDigest k p r.band ((r.pools.get p).contributors.map (fun x => x.station)) (r.pools.get p).totals)
        ∧ (t.engine.counters.settleUncomputed =
            if r.compute = .none then bump s.engine.counters.settleUncomputed else s.engine.counters.settleUncomputed)
        ∧ (let requested (w : StoreWrite) : Prop := t.store.queue =
             s.store.queue.filter (fun q => q.write.recordNumber != w.recordNumber) ++ [⟨w, true⟩]
           let counted (l : List AccountId) : Prop :=
             t.table.counters.noTarget = bumpBy (l.countP lost) s.table.counters.noTarget
               ∧ t.engine.counters.settleSkipped = bumpBy (l.countP guarded) s.engine.counters.settleSkipped
           (∀ before i others, s.image.settleAccountList = before ++ i :: others → (∀ h ∈ before, passed h = true) →
             passed i = false →
               counted before ∧ j.accountsLeft = others
                 ∧ ∃ x y : Settled, sums x y i
                   ∧ (mine i = true → x = (account i).settled ∧ j.waiting = some (.step i false y)
                       ∧ requested (.account i ⟨(s.image.accounts.get i).unit, (account i).tenancy, (account i).status, y⟩))
                   ∧ (∀ st, statement i = some st → x = st.settled ∧ j.waiting = some (.step i true y)
                       ∧ requested (.statement i (some { st with settled := y })))
                   ∧ (t.table.counters.saturatedAdds = bumpBy ((((allPools.filter (takes i)).map (fun p =>
                       ([0, 1, 2, 3] : List (Fin 4)).countP (full x i p))).sum)) s.table.counters.saturatedAdds)
                   ∧ ((∀ p f, reaches x i p f = false) → t.cond = s.cond ∧ t.interval = s.interval)
                   ∧ ∀ p f, reaches x i p f = true → (∀ q g, reaches x i q g = true → q = p ∧ g = f) →
                       s.cond.record = none →
                         t.cond.counters.faultsRaised = bump s.cond.counters.faultsRaised
                           ∧ t.cond.record = some ⟨⟨s.nextSeq, .accumulatorLimit,
                             (if mine i then i.val else 16 + i.val) * 256 + p.val * 16 + r.band.val * 4 + f.val,
                             s.interval.openNumber, .unsent⟩, none, none⟩)
             ∧ ((∀ i ∈ s.image.settleAccountList, passed i = true) →
                 counted s.image.settleAccountList
                   ∧ ((∀ i st, s.table.slots.get i = some st → st.cut ≠ k) → j.waiting = some .node ∧ requested (.node k)))))
    ∧ ∀ (j : SettleJob) (r : Record) (before after : List Record) (s : State), s.control.power = .running →
        s.engine.flight = some (.settle j) → j.waiting = none → s.ring.records = before ++ r :: after → r.number = j.interval →
        (∀ x ∈ before ++ after, x.number ≠ j.interval) → r.state = .settling → s.ring.history.length ≤ 4 →
          let others := s.ring.history.filter (fun e => e.number != r.number)
          exec .settleJobComplete s = .next { s with
            ring := { s.ring with
              records := before ++ after
              history := (if others.length = 4 then others.tail else others) ++ [⟨r.number, r.band, j.digests⟩]
              view := some ⟨r.number, r.band, r.cause, r.causeStation, r.renumbered, r.partialMark, r.unallocated, r.compute,
                r.pools.map (fun x =>
                  ⟨x.totals, x.contributors, x.complete, x.recalled, x.estimated, x.tampered, x.orphan, x.imbalance⟩)⟩ }
            engine := { s.engine with
              flight := none
              counters := { s.engine.counters with settleRuns := bump s.engine.counters.settleRuns } } }

/-- The store starts its oldest waiting request, one at a time, and none under SUPPLY-WARN; a completed write is in the store, all of
it. A latched reset takes effect with that write, and nothing else of the node goes on (reset values the spec does not state: log entries
3, 37, 59 and 60); else the SETTLE job that waits for it goes on: the figures of an account or a closing statement reach the table with their write; the
accounts done, each statement whose cut interval is k becomes FINAL with its write, by ascending index (log entry 50), then the node
record's write ends the job's writes, the last settled interval taken at that completion (log entry 24). -/
def Obligations.StoreWritesStartAndComplete : Prop :=
  ∀ (q : StoreRequest) (s : State), s.live = true →
    (∀ rest, s.store.queue = q :: rest → s.store.writing = none →
      (s.control.supplyWarn = false → s.control.resetLatched = false →
        exec .storeWriteStart s = .next { s with store := ⟨s.store.contents, some q, rest⟩ })
        ∧ (s.control.supplyWarn = true → exec .storeWriteStart s = .next s))
      ∧ (s.store.writing = some q → q.awaited = false → s.control.resetLatched = false →
          exec .storeWriteComplete s = .next { s with store := ⟨s.store.contents.commit q.write, none, s.store.queue⟩ })
      ∧ (s.store.writing = some q → s.control.resetLatched = true →
          exec .storeWriteComplete s = .next { State.reset with
            pending := s.pending
            control := ⟨if s.control.resetIn then .heldInReset else .running, s.control.resetIn, false, .resetInput,
              s.control.supplyWarn, .reading⟩
            store := ⟨s.store.contents.commit q.write, none, []⟩ })
      ∧ (∀ j, s.store.writing = some q → q.awaited = true → s.control.resetLatched = false → s.engine.flight = some (.settle j) →
          let table (i : AccountId) : SettleWrite → AccountTable
            | .step _ false figures =>
              { s.table with accounts := s.table.accounts.set i { s.table.accounts.get i with settled := figures } }
            | .step _ true figures => { s.table with
                slots := s.table.slots.set i ((s.table.slots.get i).map (fun st => { st with settled := figures })) }
            | _ => { s.table with slots := s.table.slots.set i ((s.table.slots.get i).map (fun st => { st with final := true })) }
          let goesOn (t : AccountTable) (w : StoreWrite) (next : SettleWrite) (left : List AccountId) : Prop :=
            exec .storeWriteComplete s = .next { s with
              store :=
                ⟨s.store.contents.commit q.write, none,
                  s.store.queue.filter (fun x => x.write.recordNumber != w.recordNumber) ++ [⟨w, true⟩]⟩
              engine := { s.engine with
                flight := some (.settle { j with
                  accountsLeft := [], finalsLeft := left, waiting := some next, absorbed := false, heldByWarning := false }) }
              table := t }
          let final (t : AccountTable) (i : AccountId) (left : List AccountId) : Prop :=
            goesOn t (.statement i ((t.slots.get i).map (fun st => { st with final := true }))) (.final i) left
          (j.waiting = some .node →
            exec .storeWriteComplete s = .next { s with
              store := ⟨s.store.contents.commit q.write, none, s.store.queue⟩
              engine := { s.engine with flight := some (.settle { j with waiting := none }) }
              table := { s.table with nodeLast := j.interval } })
            ∧ (∀ i onStatement figures, j.waiting = some (.step i onStatement figures) → j.absorbed = false →
                j.accountsLeft = [] → s.control.supplyWarn = false →
                  let t := table i (.step i onStatement figures)
                  let ending := allAccounts.filter (fun h => match s.table.slots.get h with
                    | some st => st.cut == j.interval
                    | none => false)
                  (ending = [] → goesOn t (.node j.interval) .node [])
                    ∧ ∀ h left, ending = h :: left → final t h left)
            ∧ (∀ i, j.waiting = some (.final i) → s.control.supplyWarn = false →
                  let t := table i (.final i)
                  (j.finalsLeft = [] → goesOn t (.node j.interval) .node [])
                    ∧ ∀ h left, j.finalsLeft = h :: left → final t h left))
      ∧ ∀ (i : AccountId) (ch : ChannelId) (k : Nat) (c : StoreContents),
          (∀ x, (c.commit (.account i x)) = { c with accounts := c.accounts.set i (.valid x) })
            ∧ (∀ x, (c.commit (.statement i x)) = { c with statements := c.statements.set i (.valid x) })
            ∧ (∀ x, (c.commit (.lifetime ch x)) = { c with lifetimes := c.lifetimes.set ch (.valid x) })
            ∧ c.commit (.node k) = { c with node := .valid k }

/-! ## The cross-check unit -/

/-- The digest of a SUMMARY of interval k and a pool outside the cross-check mask, one that comes too late for its record or one that is
taken into a GATHERING, PROVISIONAL or OPEN record, as it stands or right after the close it brings about, is judged by R175's table
against the history entry k − 3: UNHELD, ABSENT, COMPARED or MISMATCHED. A mismatch fills an empty capture and updates the run, and the
fourth in a row sets the latch and raises DISAGREEMENT. A SUMMARY refused at intake or unplaced hands none (R174). The model's own:
a SUMMARY too late for its record hands its digest on (DEDUCED, log entry 46); what lies between two intervals and what follows one is judged by number, also in a history
that does not ascend (DESIGN CHOICE, log entry 52); and R178's table holds also after a rejoin, where R180 could be read otherwise
(DESIGN CHOICE, log entry 56). -/
def Obligations.HandedDigestIsCompared : Prop :=
  (∀ (cls : SummaryClass) (e : RxEntry) (b : SummaryBody) (s : State), s.following = true →
    s.rxHead (rxClassOf cls) = some e → e.frame.body = .summary b → s.image.checkMask.has b.pool = false →
    b.interval < s.interval.openNumber → (∀ r ∈ s.ring.records, r.number ≠ b.interval) →
      let taken : State := { s with
        rx := s.rx.without e
        ring := { s.ring with counters := { s.ring.counters with sumTooLate := bump s.ring.counters.sumTooLate } } }
      let c := s.check.counts.get b.pool
      let counted (x : CheckCounts) : CrossCheck := { s.check with counts := s.check.counts.set b.pool x }
      (b.interval ≤ 3 ∨ (∀ x ∈ s.ring.history, x.number ≠ b.interval - 3) →
        exec (.takeSummary cls) s = .next { taken with check := counted { c with unheld := bump c.unheld } })
        ∧ ∀ h, 3 < b.interval → s.ring.history.find? (fun x => x.number == b.interval - 3) = some h →
          (b.digest = none →
            exec (.takeSummary cls) s = .next { taken with check := counted { c with absent := bump c.absent } })
            ∧ (b.digest = some (h.digests.get b.pool) →
                exec (.takeSummary cls) s = .next { taken with check := counted { c with compared := bump c.compared } })
            ∧ ∀ d, b.digest = some d → d ≠ h.digests.get b.pool →
              let m := b.interval - 3
              let mismatch (run runInterval : Nat) : CrossCheck := { counted { c with mismatched := bump c.mismatched } with
                run := run
                runInterval := runInterval
                capture := match s.check.capture with
                  | none => some ⟨m, b.pool, e.frame.source, h.digests.get b.pool, d⟩
                  | some x => some x }
              let next (run runInterval : Nat) : Prop :=
                exec (.takeSummary cls) s = .next { taken with check := mismatch run runInterval }
              let between := ∃ x ∈ s.ring.history, s.check.runInterval < x.number ∧ x.number < m
              (s.check.latch = true → next s.check.run s.check.runInterval)
                ∧ (s.check.latch = false → s.check.runInterval = 0 → next 1 m)
                ∧ (s.check.latch = false → s.check.runInterval ≠ 0 → m ≤ s.check.runInterval → s.check.run < 4 →
                    next s.check.run s.check.runInterval)
                ∧ (s.check.latch = false → s.check.runInterval ≠ 0 → s.check.runInterval < m →
                    (between ∨ ∀ x ∈ s.ring.history, x.number ≠ s.check.runInterval) → next 1 m)
                ∧ (s.check.latch = false → s.check.runInterval ≠ 0 → s.check.runInterval < m → ¬ between →
                    (∃ x ∈ s.ring.history, x.number = s.check.runInterval) →
                    (s.check.run < 3 → next (s.check.run + 1) m)
                      ∧ (s.check.run = 3 → s.cond.record = none →
                          exec (.takeSummary cls) s = .next { taken with
                            check := { mismatch 4 m with latch := true }
                            cond := { s.cond with
                              seq := s.nextSeq
                              record := some ⟨⟨s.nextSeq, .disagreement, e.frame.source * 256 + b.pool.val,
                                s.interval.openNumber, .unsent⟩, none, none⟩
                              counters := { s.cond.counters with faultsRaised := bump s.cond.counters.faultsRaised } } })))
    ∧ ∀ (cls : SummaryClass) (e : RxEntry) (b : SummaryBody) (s : State), s.following = true → s.ringOrdered →
        s.rxHead (rxClassOf cls) = some e → e.frame.body = .summary b → s.image.checkMask.has b.pool = false →
        b.interval ≠ 4294967295 →
          let room := s.interval.held = none ∧ s.interval.drain = false ∧ s.ring.records.length < 4
          let placed := (∃ r ∈ s.ring.records, r.number = b.interval ∧ r.state ≠ .settling)
            ∨ (s.interval.openNumber < b.interval ∧ room)
          ∃ t, exec (.takeSummary cls) s = .next t
            ∧ (placed → ¬ t.refusesAtIntake e.frame.source → s.digestJudged t e.frame.source b)
            ∧ (placed → t.refusesAtIntake e.frame.source → t.check = s.check)
            ∧ (s.interval.openNumber < b.interval → ¬ room → t.check = s.check)
end

