-- ==== Sys2Proof/Laws/State.lean ====
section
/-! SUPPORT. What each update of one block does to every block, the containers of fixed size, and folds of operations. -/

namespace Sys2Proof

theorem Four.get_set {α : Type} (t : Four α) (i j : Fin 4) (a : α) : (t.set i a).get j = if i = j then a else t.get j := by
  revert i j; intro i j; fin_cases i <;> fin_cases j <;> rfl

@[simp] theorem Four.get_set_self {α : Type} (t : Four α) (i : Fin 4) (a : α) : (t.set i a).get i = a := by
  simp [Four.get_set]

theorem Four.get_modify {α : Type} (t : Four α) (i j : Fin 4) (f : α → α) :
    (t.modify i f).get j = if i = j then f (t.get j) else t.get j := by
  unfold Four.modify
  rw [Four.get_set]
  split
  · next h => rw [h]
  · rfl

@[simp] theorem Four.get_map {α β : Type} (t : Four α) (f : α → β) (i : Fin 4) : (t.map f).get i = f (t.get i) := by
  fin_cases i <;> rfl

@[simp] theorem Four.get_ofFn {α : Type} (f : Fin 4 → α) (i : Fin 4) : (Four.ofFn f).get i = f i := by
  fin_cases i <;> rfl

@[simp] theorem Four.get_fill {α : Type} (a : α) (i : Fin 4) : (Four.fill a).get i = a := by
  fin_cases i <;> rfl

theorem Table.get_set {n : Nat} {α : Type} (t : Table n α) (i j : Fin n) (a : α) :
    (t.set i a).get j = if i = j then a else t.get j := by
  simp only [Table.get, Table.set, List.getElem_set, Fin.ext_iff]

@[simp] theorem Table.get_set_self {n : Nat} {α : Type} (t : Table n α) (i : Fin n) (a : α) : (t.set i a).get i = a := by
  simp [Table.get_set]

theorem Table.get_modify {n : Nat} {α : Type} (t : Table n α) (i j : Fin n) (f : α → α) :
    (t.modify i f).get j = if i = j then f (t.get j) else t.get j := by
  unfold Table.modify
  rw [Table.get_set]
  split
  · next h => rw [h]
  · rfl

@[simp] theorem Table.get_modify_self {n : Nat} {α : Type} (t : Table n α) (i : Fin n) (f : α → α) :
    (t.modify i f).get i = f (t.get i) := by
  simp [Table.get_modify]

@[simp] theorem Table.get_map {n : Nat} {α β : Type} (t : Table n α) (f : α → β) (i : Fin n) :
    (t.map f).get i = f (t.get i) := by
  simp [Table.get, Table.map]

@[simp] theorem Table.get_ofFn {n : Nat} {α : Type} (f : Fin n → α) (i : Fin n) : (Table.ofFn f).get i = f i := by
  simp [Table.get, Table.ofFn]

@[simp] theorem Table.get_fill {n : Nat} {α : Type} (a : α) (i : Fin n) : (Table.fill n a).get i = a := by
  simp [Table.get, Table.fill]

namespace Machine

variable (s : State)

/-- What every operation of a fold keeps, the fold keeps. -/
theorem foldl_keeps {σ α β : Type} (g : σ → β) (f : σ → α → σ) (h : ∀ t a, g (f t a) = g t) (l : List α) (t : σ) :
    g (l.foldl f t) = g t := by
  induction l generalizing t with
  | nil => rfl
  | cons a l ih => rw [List.foldl_cons, ih, h]

@[simp] theorem State.onControl_blocks (f : Control → Control) :
    (s.onControl f).pending = s.pending ∧ (s.onControl f).control = f s.control ∧ (s.onControl f).image = s.image ∧
      (s.onControl f).interval = s.interval ∧ (s.onControl f).ring = s.ring ∧ (s.onControl f).engine = s.engine ∧
      (s.onControl f).table = s.table ∧ (s.onControl f).store = s.store ∧ (s.onControl f).channels = s.channels ∧
      (s.onControl f).roster = s.roster ∧ (s.onControl f).line = s.line ∧ (s.onControl f).rx = s.rx ∧
      (s.onControl f).check = s.check ∧ (s.onControl f).cond = s.cond ∧ (s.onControl f).resp = s.resp := by
  simp [State.onControl]

@[simp] theorem State.onInterval_blocks (f : IntervalUnit → IntervalUnit) :
    (s.onInterval f).pending = s.pending ∧ (s.onInterval f).control = s.control ∧ (s.onInterval f).image = s.image ∧
      (s.onInterval f).interval = f s.interval ∧ (s.onInterval f).ring = s.ring ∧ (s.onInterval f).engine = s.engine ∧
      (s.onInterval f).table = s.table ∧ (s.onInterval f).store = s.store ∧ (s.onInterval f).channels = s.channels ∧
      (s.onInterval f).roster = s.roster ∧ (s.onInterval f).line = s.line ∧ (s.onInterval f).rx = s.rx ∧
      (s.onInterval f).check = s.check ∧ (s.onInterval f).cond = s.cond ∧ (s.onInterval f).resp = s.resp := by
  simp [State.onInterval]

@[simp] theorem State.onRing_blocks (f : Ring → Ring) :
    (s.onRing f).pending = s.pending ∧ (s.onRing f).control = s.control ∧ (s.onRing f).image = s.image ∧
      (s.onRing f).interval = s.interval ∧ (s.onRing f).ring = f s.ring ∧ (s.onRing f).engine = s.engine ∧
      (s.onRing f).table = s.table ∧ (s.onRing f).store = s.store ∧ (s.onRing f).channels = s.channels ∧
      (s.onRing f).roster = s.roster ∧ (s.onRing f).line = s.line ∧ (s.onRing f).rx = s.rx ∧
      (s.onRing f).check = s.check ∧ (s.onRing f).cond = s.cond ∧ (s.onRing f).resp = s.resp := by
  simp [State.onRing]

@[simp] theorem State.onEngine_blocks (f : Engine → Engine) :
    (s.onEngine f).pending = s.pending ∧ (s.onEngine f).control = s.control ∧ (s.onEngine f).image = s.image ∧
      (s.onEngine f).interval = s.interval ∧ (s.onEngine f).ring = s.ring ∧ (s.onEngine f).engine = f s.engine ∧
      (s.onEngine f).table = s.table ∧ (s.onEngine f).store = s.store ∧ (s.onEngine f).channels = s.channels ∧
      (s.onEngine f).roster = s.roster ∧ (s.onEngine f).line = s.line ∧ (s.onEngine f).rx = s.rx ∧
      (s.onEngine f).check = s.check ∧ (s.onEngine f).cond = s.cond ∧ (s.onEngine f).resp = s.resp := by
  simp [State.onEngine]

@[simp] theorem State.onTable_blocks (f : AccountTable → AccountTable) :
    (s.onTable f).pending = s.pending ∧ (s.onTable f).control = s.control ∧ (s.onTable f).image = s.image ∧
      (s.onTable f).interval = s.interval ∧ (s.onTable f).ring = s.ring ∧ (s.onTable f).engine = s.engine ∧
      (s.onTable f).table = f s.table ∧ (s.onTable f).store = s.store ∧ (s.onTable f).channels = s.channels ∧
      (s.onTable f).roster = s.roster ∧ (s.onTable f).line = s.line ∧ (s.onTable f).rx = s.rx ∧
      (s.onTable f).check = s.check ∧ (s.onTable f).cond = s.cond ∧ (s.onTable f).resp = s.resp := by
  simp [State.onTable]

@[simp] theorem State.onStore_blocks (f : Store → Store) :
    (s.onStore f).pending = s.pending ∧ (s.onStore f).control = s.control ∧ (s.onStore f).image = s.image ∧
      (s.onStore f).interval = s.interval ∧ (s.onStore f).ring = s.ring ∧ (s.onStore f).engine = s.engine ∧
      (s.onStore f).table = s.table ∧ (s.onStore f).store = f s.store ∧ (s.onStore f).channels = s.channels ∧
      (s.onStore f).roster = s.roster ∧ (s.onStore f).line = s.line ∧ (s.onStore f).rx = s.rx ∧
      (s.onStore f).check = s.check ∧ (s.onStore f).cond = s.cond ∧ (s.onStore f).resp = s.resp := by
  simp [State.onStore]

@[simp] theorem State.onRoster_blocks (f : Roster → Roster) :
    (s.onRoster f).pending = s.pending ∧ (s.onRoster f).control = s.control ∧ (s.onRoster f).image = s.image ∧
      (s.onRoster f).interval = s.interval ∧ (s.onRoster f).ring = s.ring ∧ (s.onRoster f).engine = s.engine ∧
      (s.onRoster f).table = s.table ∧ (s.onRoster f).store = s.store ∧ (s.onRoster f).channels = s.channels ∧
      (s.onRoster f).roster = f s.roster ∧ (s.onRoster f).line = s.line ∧ (s.onRoster f).rx = s.rx ∧
      (s.onRoster f).check = s.check ∧ (s.onRoster f).cond = s.cond ∧ (s.onRoster f).resp = s.resp := by
  simp [State.onRoster]

@[simp] theorem State.onLine_blocks (f : Line → Line) :
    (s.onLine f).pending = s.pending ∧ (s.onLine f).control = s.control ∧ (s.onLine f).image = s.image ∧
      (s.onLine f).interval = s.interval ∧ (s.onLine f).ring = s.ring ∧ (s.onLine f).engine = s.engine ∧
      (s.onLine f).table = s.table ∧ (s.onLine f).store = s.store ∧ (s.onLine f).channels = s.channels ∧
      (s.onLine f).roster = s.roster ∧ (s.onLine f).line = f s.line ∧ (s.onLine f).rx = s.rx ∧
      (s.onLine f).check = s.check ∧ (s.onLine f).cond = s.cond ∧ (s.onLine f).resp = s.resp := by
  simp [State.onLine]

@[simp] theorem State.onRx_blocks (f : RxPool → RxPool) :
    (s.onRx f).pending = s.pending ∧ (s.onRx f).control = s.control ∧ (s.onRx f).image = s.image ∧
      (s.onRx f).interval = s.interval ∧ (s.onRx f).ring = s.ring ∧ (s.onRx f).engine = s.engine ∧
      (s.onRx f).table = s.table ∧ (s.onRx f).store = s.store ∧ (s.onRx f).channels = s.channels ∧
      (s.onRx f).roster = s.roster ∧ (s.onRx f).line = s.line ∧ (s.onRx f).rx = f s.rx ∧ (s.onRx f).check = s.check ∧
      (s.onRx f).cond = s.cond ∧ (s.onRx f).resp = s.resp := by
  simp [State.onRx]

@[simp] theorem State.onCheck_blocks (f : CrossCheck → CrossCheck) :
    (s.onCheck f).pending = s.pending ∧ (s.onCheck f).control = s.control ∧ (s.onCheck f).image = s.image ∧
      (s.onCheck f).interval = s.interval ∧ (s.onCheck f).ring = s.ring ∧ (s.onCheck f).engine = s.engine ∧
      (s.onCheck f).table = s.table ∧ (s.onCheck f).store = s.store ∧ (s.onCheck f).channels = s.channels ∧
      (s.onCheck f).roster = s.roster ∧ (s.onCheck f).line = s.line ∧ (s.onCheck f).rx = s.rx ∧
      (s.onCheck f).check = f s.check ∧ (s.onCheck f).cond = s.cond ∧ (s.onCheck f).resp = s.resp := by
  simp [State.onCheck]

@[simp] theorem State.onCond_blocks (f : CondUnit → CondUnit) :
    (s.onCond f).pending = s.pending ∧ (s.onCond f).control = s.control ∧ (s.onCond f).image = s.image ∧
      (s.onCond f).interval = s.interval ∧ (s.onCond f).ring = s.ring ∧ (s.onCond f).engine = s.engine ∧
      (s.onCond f).table = s.table ∧ (s.onCond f).store = s.store ∧ (s.onCond f).channels = s.channels ∧
      (s.onCond f).roster = s.roster ∧ (s.onCond f).line = s.line ∧ (s.onCond f).rx = s.rx ∧
      (s.onCond f).check = s.check ∧ (s.onCond f).cond = f s.cond ∧ (s.onCond f).resp = s.resp := by
  simp [State.onCond]

@[simp] theorem State.onResp_blocks (f : Responder → Responder) :
    (s.onResp f).pending = s.pending ∧ (s.onResp f).control = s.control ∧ (s.onResp f).image = s.image ∧
      (s.onResp f).interval = s.interval ∧ (s.onResp f).ring = s.ring ∧ (s.onResp f).engine = s.engine ∧
      (s.onResp f).table = s.table ∧ (s.onResp f).store = s.store ∧ (s.onResp f).channels = s.channels ∧
      (s.onResp f).roster = s.roster ∧ (s.onResp f).line = s.line ∧ (s.onResp f).rx = s.rx ∧
      (s.onResp f).check = s.check ∧ (s.onResp f).cond = s.cond ∧ (s.onResp f).resp = f s.resp := by
  simp [State.onResp]

@[simp] theorem State.onChannel_blocks (ch : ChannelId) (f : Channel → Channel) :
    (s.onChannel ch f).pending = s.pending ∧ (s.onChannel ch f).control = s.control ∧
      (s.onChannel ch f).image = s.image ∧ (s.onChannel ch f).interval = s.interval ∧ (s.onChannel ch f).ring = s.ring ∧
      (s.onChannel ch f).engine = s.engine ∧ (s.onChannel ch f).table = s.table ∧ (s.onChannel ch f).store = s.store ∧
      (s.onChannel ch f).channels = s.channels.modify ch f ∧ (s.onChannel ch f).roster = s.roster ∧
      (s.onChannel ch f).line = s.line ∧ (s.onChannel ch f).rx = s.rx ∧ (s.onChannel ch f).check = s.check ∧
      (s.onChannel ch f).cond = s.cond ∧ (s.onChannel ch f).resp = s.resp := by
  simp [State.onChannel]

@[simp] theorem State.withPending_blocks (q : List Instr) :
    (s.withPending q).pending = q ∧ (s.withPending q).control = s.control ∧ (s.withPending q).image = s.image ∧
      (s.withPending q).interval = s.interval ∧ (s.withPending q).ring = s.ring ∧ (s.withPending q).engine = s.engine ∧
      (s.withPending q).table = s.table ∧ (s.withPending q).store = s.store ∧ (s.withPending q).channels = s.channels ∧
      (s.withPending q).roster = s.roster ∧ (s.withPending q).line = s.line ∧ (s.withPending q).rx = s.rx ∧
      (s.withPending q).check = s.check ∧ (s.withPending q).cond = s.cond ∧ (s.withPending q).resp = s.resp := by
  simp [State.withPending]

end Machine

end Sys2Proof
end

