-- ==== Sys2Proof/Laws/Ops.lean ====
section
/-! SUPPORT. Which blocks of the state each operation of the shared operations leaves as they were. -/

namespace Sys2Proof.Machine

variable (s : State)

@[simp] theorem loadTimer_keeps  :
    (loadTimer s).pending = s.pending ∧ (loadTimer s).control = s.control ∧ (loadTimer s).image = s.image ∧
      (loadTimer s).ring = s.ring ∧ (loadTimer s).engine = s.engine ∧ (loadTimer s).table = s.table ∧
      (loadTimer s).store = s.store ∧ (loadTimer s).channels = s.channels ∧ (loadTimer s).roster = s.roster ∧
      (loadTimer s).line = s.line ∧ (loadTimer s).rx = s.rx ∧ (loadTimer s).check = s.check ∧
      (loadTimer s).cond = s.cond ∧ (loadTimer s).resp = s.resp := by
  simp [loadTimer]

@[simp] theorem updateRecord_keeps (k : Nat) (f : Record → Record) :
    (updateRecord k f s).pending = s.pending ∧ (updateRecord k f s).control = s.control ∧
      (updateRecord k f s).image = s.image ∧ (updateRecord k f s).interval = s.interval ∧
      (updateRecord k f s).engine = s.engine ∧ (updateRecord k f s).table = s.table ∧
      (updateRecord k f s).store = s.store ∧ (updateRecord k f s).channels = s.channels ∧
      (updateRecord k f s).roster = s.roster ∧ (updateRecord k f s).line = s.line ∧ (updateRecord k f s).rx = s.rx ∧
      (updateRecord k f s).check = s.check ∧ (updateRecord k f s).cond = s.cond ∧ (updateRecord k f s).resp = s.resp := by
  simp [updateRecord]

@[simp] theorem setPoolMode_keeps  :
    (setPoolMode s).pending = s.pending ∧ (setPoolMode s).control = s.control ∧ (setPoolMode s).image = s.image ∧
      (setPoolMode s).interval = s.interval ∧ (setPoolMode s).ring = s.ring ∧ (setPoolMode s).engine = s.engine ∧
      (setPoolMode s).table = s.table ∧ (setPoolMode s).store = s.store ∧ (setPoolMode s).channels = s.channels ∧
      (setPoolMode s).roster = s.roster ∧ (setPoolMode s).line = s.line ∧ (setPoolMode s).check = s.check ∧
      (setPoolMode s).cond = s.cond ∧ (setPoolMode s).resp = s.resp := by
  simp [setPoolMode]

@[simp] theorem appendJob_keeps (kind : JobKind) (k : Nat) :
    (appendJob kind k s).pending = s.pending ∧ (appendJob kind k s).control = s.control ∧
      (appendJob kind k s).image = s.image ∧ (appendJob kind k s).interval = s.interval ∧
      (appendJob kind k s).ring = s.ring ∧ (appendJob kind k s).table = s.table ∧ (appendJob kind k s).store = s.store ∧
      (appendJob kind k s).channels = s.channels ∧ (appendJob kind k s).roster = s.roster ∧
      (appendJob kind k s).line = s.line ∧ (appendJob kind k s).rx = s.rx ∧ (appendJob kind k s).check = s.check ∧
      (appendJob kind k s).cond = s.cond ∧ (appendJob kind k s).resp = s.resp := by
  simp [appendJob]

@[simp] theorem onLinkCounters_keeps (f : LinkCounters → LinkCounters) :
    (onLinkCounters f s).pending = s.pending ∧ (onLinkCounters f s).control = s.control ∧
      (onLinkCounters f s).image = s.image ∧ (onLinkCounters f s).interval = s.interval ∧
      (onLinkCounters f s).ring = s.ring ∧ (onLinkCounters f s).engine = s.engine ∧ (onLinkCounters f s).table = s.table ∧
      (onLinkCounters f s).store = s.store ∧ (onLinkCounters f s).channels = s.channels ∧
      (onLinkCounters f s).roster = s.roster ∧ (onLinkCounters f s).rx = s.rx ∧ (onLinkCounters f s).check = s.check ∧
      (onLinkCounters f s).cond = s.cond ∧ (onLinkCounters f s).resp = s.resp := by
  simp [onLinkCounters]

@[simp] theorem noteHeldStart_keeps  :
    (noteHeldStart s).pending = s.pending ∧ (noteHeldStart s).control = s.control ∧ (noteHeldStart s).image = s.image ∧
      (noteHeldStart s).interval = s.interval ∧ (noteHeldStart s).ring = s.ring ∧ (noteHeldStart s).engine = s.engine ∧
      (noteHeldStart s).table = s.table ∧ (noteHeldStart s).store = s.store ∧ (noteHeldStart s).channels = s.channels ∧
      (noteHeldStart s).roster = s.roster ∧ (noteHeldStart s).rx = s.rx ∧ (noteHeldStart s).check = s.check ∧
      (noteHeldStart s).cond = s.cond ∧ (noteHeldStart s).resp = s.resp := by
  unfold noteHeldStart
  split <;> simp

@[simp] theorem enqueue_keeps (b : FrameBody) :
    (enqueue b s).pending = s.pending ∧ (enqueue b s).control = s.control ∧ (enqueue b s).image = s.image ∧
      (enqueue b s).interval = s.interval ∧ (enqueue b s).ring = s.ring ∧ (enqueue b s).engine = s.engine ∧
      (enqueue b s).table = s.table ∧ (enqueue b s).store = s.store ∧ (enqueue b s).channels = s.channels ∧
      (enqueue b s).roster = s.roster ∧ (enqueue b s).rx = s.rx ∧ (enqueue b s).check = s.check ∧
      (enqueue b s).cond = s.cond ∧ (enqueue b s).resp = s.resp := by
  simp [enqueue]

@[simp] theorem refuseOffer_keeps  :
    (refuseOffer s).pending = s.pending ∧ (refuseOffer s).control = s.control ∧ (refuseOffer s).image = s.image ∧
      (refuseOffer s).interval = s.interval ∧ (refuseOffer s).ring = s.ring ∧ (refuseOffer s).engine = s.engine ∧
      (refuseOffer s).table = s.table ∧ (refuseOffer s).store = s.store ∧ (refuseOffer s).channels = s.channels ∧
      (refuseOffer s).roster = s.roster ∧ (refuseOffer s).rx = s.rx ∧ (refuseOffer s).check = s.check ∧
      (refuseOffer s).cond = s.cond ∧ (refuseOffer s).resp = s.resp := by
  simp [refuseOffer]

@[simp] theorem listOffer_keeps (o : Offer) :
    (listOffer o s).pending = s.pending ∧ (listOffer o s).control = s.control ∧ (listOffer o s).image = s.image ∧
      (listOffer o s).interval = s.interval ∧ (listOffer o s).ring = s.ring ∧ (listOffer o s).engine = s.engine ∧
      (listOffer o s).table = s.table ∧ (listOffer o s).store = s.store ∧ (listOffer o s).channels = s.channels ∧
      (listOffer o s).roster = s.roster ∧ (listOffer o s).rx = s.rx ∧ (listOffer o s).check = s.check ∧
      (listOffer o s).cond = s.cond ∧ (listOffer o s).resp = s.resp := by
  simp [listOffer]

@[simp] theorem withdraw_keeps (p : FrameBody → Bool) :
    (withdraw p s).pending = s.pending ∧ (withdraw p s).control = s.control ∧ (withdraw p s).image = s.image ∧
      (withdraw p s).interval = s.interval ∧ (withdraw p s).ring = s.ring ∧ (withdraw p s).engine = s.engine ∧
      (withdraw p s).table = s.table ∧ (withdraw p s).store = s.store ∧ (withdraw p s).channels = s.channels ∧
      (withdraw p s).roster = s.roster ∧ (withdraw p s).rx = s.rx ∧ (withdraw p s).check = s.check ∧
      (withdraw p s).cond = s.cond ∧ (withdraw p s).resp = s.resp := by
  simp [withdraw]

@[simp] theorem withdrawOwnClose_keeps  :
    (withdrawOwnClose s).pending = s.pending ∧ (withdrawOwnClose s).control = s.control ∧
      (withdrawOwnClose s).image = s.image ∧ (withdrawOwnClose s).ring = s.ring ∧ (withdrawOwnClose s).engine = s.engine ∧
      (withdrawOwnClose s).table = s.table ∧ (withdrawOwnClose s).store = s.store ∧
      (withdrawOwnClose s).channels = s.channels ∧ (withdrawOwnClose s).roster = s.roster ∧
      (withdrawOwnClose s).rx = s.rx ∧ (withdrawOwnClose s).check = s.check ∧ (withdrawOwnClose s).cond = s.cond ∧
      (withdrawOwnClose s).resp = s.resp := by
  unfold withdrawOwnClose
  split <;> simp

@[simp] theorem requestWrite_keeps (w : StoreWrite) (a : Bool) :
    (requestWrite w a s).pending = s.pending ∧ (requestWrite w a s).control = s.control ∧
      (requestWrite w a s).image = s.image ∧ (requestWrite w a s).interval = s.interval ∧
      (requestWrite w a s).ring = s.ring ∧ (requestWrite w a s).engine = s.engine ∧
      (requestWrite w a s).channels = s.channels ∧ (requestWrite w a s).roster = s.roster ∧
      (requestWrite w a s).line = s.line ∧ (requestWrite w a s).rx = s.rx ∧ (requestWrite w a s).check = s.check ∧
      (requestWrite w a s).cond = s.cond ∧ (requestWrite w a s).resp = s.resp := by
  unfold requestWrite
  split <;> simp

@[simp] theorem updatePeer_keeps (st : Nat) (f : Peer → Peer) :
    (updatePeer st f s).pending = s.pending ∧ (updatePeer st f s).control = s.control ∧
      (updatePeer st f s).image = s.image ∧ (updatePeer st f s).interval = s.interval ∧
      (updatePeer st f s).ring = s.ring ∧ (updatePeer st f s).engine = s.engine ∧ (updatePeer st f s).table = s.table ∧
      (updatePeer st f s).store = s.store ∧ (updatePeer st f s).channels = s.channels ∧
      (updatePeer st f s).line = s.line ∧ (updatePeer st f s).rx = s.rx ∧ (updatePeer st f s).check = s.check ∧
      (updatePeer st f s).cond = s.cond ∧ (updatePeer st f s).resp = s.resp := by
  simp [updatePeer]

@[simp] theorem onRosterCounters_keeps (f : RosterCounters → RosterCounters) :
    (onRosterCounters f s).pending = s.pending ∧ (onRosterCounters f s).control = s.control ∧
      (onRosterCounters f s).image = s.image ∧ (onRosterCounters f s).interval = s.interval ∧
      (onRosterCounters f s).ring = s.ring ∧ (onRosterCounters f s).engine = s.engine ∧
      (onRosterCounters f s).table = s.table ∧ (onRosterCounters f s).store = s.store ∧
      (onRosterCounters f s).channels = s.channels ∧ (onRosterCounters f s).line = s.line ∧
      (onRosterCounters f s).rx = s.rx ∧ (onRosterCounters f s).check = s.check ∧ (onRosterCounters f s).cond = s.cond ∧
      (onRosterCounters f s).resp = s.resp := by
  simp [onRosterCounters]

end Sys2Proof.Machine
end

