-- ==== Sys2Proof/Laws/Conditions.lean ====
section
/-! SUPPORT. Which blocks of the state each operation of the condition unit leaves as they were. -/

namespace Sys2Proof.Machine

variable (s : State)

@[simp] theorem onCondCounters_keeps (f : CondCounters → CondCounters) :
    (onCondCounters f s).pending = s.pending ∧ (onCondCounters f s).control = s.control ∧
      (onCondCounters f s).image = s.image ∧ (onCondCounters f s).interval = s.interval ∧
      (onCondCounters f s).ring = s.ring ∧ (onCondCounters f s).engine = s.engine ∧ (onCondCounters f s).table = s.table ∧
      (onCondCounters f s).store = s.store ∧ (onCondCounters f s).channels = s.channels ∧
      (onCondCounters f s).roster = s.roster ∧ (onCondCounters f s).line = s.line ∧ (onCondCounters f s).rx = s.rx ∧
      (onCondCounters f s).check = s.check ∧ (onCondCounters f s).resp = s.resp := by
  simp [onCondCounters]

@[simp] theorem releaseLatch_keeps (c : Condition) :
    (releaseLatch c s).pending = s.pending ∧ (releaseLatch c s).control = s.control ∧ (releaseLatch c s).image = s.image ∧
      (releaseLatch c s).interval = s.interval ∧ (releaseLatch c s).ring = s.ring ∧ (releaseLatch c s).engine = s.engine ∧
      (releaseLatch c s).table = s.table ∧ (releaseLatch c s).store = s.store ∧ (releaseLatch c s).roster = s.roster ∧
      (releaseLatch c s).line = s.line ∧ (releaseLatch c s).rx = s.rx ∧ (releaseLatch c s).check = s.check ∧
      (releaseLatch c s).cond = s.cond ∧ (releaseLatch c s).resp = s.resp := by
  unfold releaseLatch
  (repeat' split) <;> simp

@[simp] theorem displaceNotice_keeps  :
    (displaceNotice s).pending = s.pending ∧ (displaceNotice s).control = s.control ∧ (displaceNotice s).image = s.image ∧
      (displaceNotice s).interval = s.interval ∧ (displaceNotice s).ring = s.ring ∧ (displaceNotice s).engine = s.engine ∧
      (displaceNotice s).table = s.table ∧ (displaceNotice s).store = s.store ∧ (displaceNotice s).roster = s.roster ∧
      (displaceNotice s).line = s.line ∧ (displaceNotice s).rx = s.rx ∧ (displaceNotice s).check = s.check ∧
      (displaceNotice s).resp = s.resp := by
  unfold displaceNotice
  (repeat' split) <;> simp

@[simp] theorem joinNotice_keeps (c : Cause) (p k : Nat) :
    (joinNotice c p k s).pending = s.pending ∧ (joinNotice c p k s).control = s.control ∧
      (joinNotice c p k s).image = s.image ∧ (joinNotice c p k s).interval = s.interval ∧
      (joinNotice c p k s).ring = s.ring ∧ (joinNotice c p k s).engine = s.engine ∧ (joinNotice c p k s).table = s.table ∧
      (joinNotice c p k s).store = s.store ∧ (joinNotice c p k s).channels = s.channels ∧
      (joinNotice c p k s).roster = s.roster ∧ (joinNotice c p k s).line = s.line ∧ (joinNotice c p k s).rx = s.rx ∧
      (joinNotice c p k s).check = s.check ∧ (joinNotice c p k s).resp = s.resp := by
  simp [joinNotice]

@[simp] theorem raiseNoticeAt_keeps (c : Cause) (p k : Nat) :
    (raiseNoticeAt c p k s).pending = s.pending ∧ (raiseNoticeAt c p k s).control = s.control ∧
      (raiseNoticeAt c p k s).image = s.image ∧ (raiseNoticeAt c p k s).interval = s.interval ∧
      (raiseNoticeAt c p k s).ring = s.ring ∧ (raiseNoticeAt c p k s).engine = s.engine ∧
      (raiseNoticeAt c p k s).table = s.table ∧ (raiseNoticeAt c p k s).store = s.store ∧
      (raiseNoticeAt c p k s).roster = s.roster ∧ (raiseNoticeAt c p k s).line = s.line ∧
      (raiseNoticeAt c p k s).rx = s.rx ∧ (raiseNoticeAt c p k s).check = s.check ∧
      (raiseNoticeAt c p k s).resp = s.resp := by
  unfold raiseNoticeAt
  split <;> simp

@[simp] theorem raiseNotice_keeps (c : Cause) (p : Nat) :
    (raiseNotice c p s).pending = s.pending ∧ (raiseNotice c p s).control = s.control ∧
      (raiseNotice c p s).image = s.image ∧ (raiseNotice c p s).interval = s.interval ∧
      (raiseNotice c p s).ring = s.ring ∧ (raiseNotice c p s).engine = s.engine ∧ (raiseNotice c p s).table = s.table ∧
      (raiseNotice c p s).store = s.store ∧ (raiseNotice c p s).roster = s.roster ∧ (raiseNotice c p s).line = s.line ∧
      (raiseNotice c p s).rx = s.rx ∧ (raiseNotice c p s).check = s.check ∧ (raiseNotice c p s).resp = s.resp := by
  simp [raiseNotice]

@[simp] theorem enterObserver_keeps  :
    (enterObserver s).pending = s.pending ∧ (enterObserver s).control = s.control ∧ (enterObserver s).image = s.image ∧
      (enterObserver s).engine = s.engine ∧ (enterObserver s).table = s.table ∧ (enterObserver s).store = s.store ∧
      (enterObserver s).channels = s.channels ∧ (enterObserver s).rx = s.rx ∧ (enterObserver s).check = s.check ∧
      (enterObserver s).resp = s.resp := by
  simp [enterObserver]

@[simp] theorem placeFault_keeps (c : Cause) (p : Nat) :
    (placeFault c p s).pending = s.pending ∧ (placeFault c p s).control = s.control ∧ (placeFault c p s).image = s.image ∧
      (placeFault c p s).engine = s.engine ∧ (placeFault c p s).table = s.table ∧ (placeFault c p s).store = s.store ∧
      (placeFault c p s).channels = s.channels ∧ (placeFault c p s).rx = s.rx ∧ (placeFault c p s).check = s.check ∧
      (placeFault c p s).resp = s.resp := by
  unfold placeFault
  (repeat' split) <;> simp

@[simp] theorem raiseFault_keeps (c : Cause) (p : Nat) :
    (raiseFault c p s).pending = s.pending ∧ (raiseFault c p s).control = s.control ∧ (raiseFault c p s).image = s.image ∧
      (raiseFault c p s).engine = s.engine ∧ (raiseFault c p s).table = s.table ∧ (raiseFault c p s).store = s.store ∧
      (raiseFault c p s).channels = s.channels ∧ (raiseFault c p s).rx = s.rx ∧ (raiseFault c p s).check = s.check ∧
      (raiseFault c p s).resp = s.resp := by
  unfold raiseFault
  split <;> simp

@[simp] theorem setCondSending_keeps (q : Nat) (x : CondSending) :
    (setCondSending q x s).pending = s.pending ∧ (setCondSending q x s).control = s.control ∧
      (setCondSending q x s).image = s.image ∧ (setCondSending q x s).interval = s.interval ∧
      (setCondSending q x s).ring = s.ring ∧ (setCondSending q x s).engine = s.engine ∧
      (setCondSending q x s).table = s.table ∧ (setCondSending q x s).store = s.store ∧
      (setCondSending q x s).channels = s.channels ∧ (setCondSending q x s).roster = s.roster ∧
      (setCondSending q x s).line = s.line ∧ (setCondSending q x s).rx = s.rx ∧ (setCondSending q x s).check = s.check ∧
      (setCondSending q x s).resp = s.resp := by
  simp [setCondSending]

end Sys2Proof.Machine
end

