-- ==== Sys2Proof/Laws/Channels.lean ====
section
/-! SUPPORT. Which blocks of the state each operation of the meter channels leaves as they were. -/

namespace Sys2Proof.Machine

variable (s : State)

@[simp] theorem onChannelCounters_keeps (ch : ChannelId) (f : ChannelCounters → ChannelCounters) :
    (onChannelCounters ch f s).pending = s.pending ∧ (onChannelCounters ch f s).control = s.control ∧
      (onChannelCounters ch f s).image = s.image ∧ (onChannelCounters ch f s).interval = s.interval ∧
      (onChannelCounters ch f s).ring = s.ring ∧ (onChannelCounters ch f s).engine = s.engine ∧
      (onChannelCounters ch f s).table = s.table ∧ (onChannelCounters ch f s).store = s.store ∧
      (onChannelCounters ch f s).roster = s.roster ∧ (onChannelCounters ch f s).line = s.line ∧
      (onChannelCounters ch f s).rx = s.rx ∧ (onChannelCounters ch f s).check = s.check ∧
      (onChannelCounters ch f s).cond = s.cond ∧ (onChannelCounters ch f s).resp = s.resp := by
  simp [onChannelCounters]

@[simp] theorem overrunSample_keeps (ch : ChannelId) (n : Nat) :
    (overrunSample ch n s).pending = s.pending ∧ (overrunSample ch n s).control = s.control ∧
      (overrunSample ch n s).image = s.image ∧ (overrunSample ch n s).interval = s.interval ∧
      (overrunSample ch n s).ring = s.ring ∧ (overrunSample ch n s).engine = s.engine ∧
      (overrunSample ch n s).table = s.table ∧ (overrunSample ch n s).store = s.store ∧
      (overrunSample ch n s).roster = s.roster ∧ (overrunSample ch n s).line = s.line ∧ (overrunSample ch n s).rx = s.rx ∧
      (overrunSample ch n s).check = s.check ∧ (overrunSample ch n s).resp = s.resp := by
  unfold overrunSample
  dsimp only
  (repeat' split) <;> simp

@[simp] theorem readSample_keeps (ch : ChannelId) (a b : Int) :
    (readSample ch a b s).pending = s.pending ∧ (readSample ch a b s).control = s.control ∧
      (readSample ch a b s).image = s.image ∧ (readSample ch a b s).interval = s.interval ∧
      (readSample ch a b s).ring = s.ring ∧ (readSample ch a b s).engine = s.engine ∧
      (readSample ch a b s).table = s.table ∧ (readSample ch a b s).store = s.store ∧
      (readSample ch a b s).roster = s.roster ∧ (readSample ch a b s).line = s.line ∧ (readSample ch a b s).rx = s.rx ∧
      (readSample ch a b s).check = s.check ∧ (readSample ch a b s).resp = s.resp := by
  unfold readSample
  dsimp only
  (repeat' split) <;> simp

@[simp] theorem integrateSample_keeps (ch : ChannelId) (c : SampleClass) (v : Nat) :
    (integrateSample ch c v s).pending = s.pending ∧ (integrateSample ch c v s).control = s.control ∧
      (integrateSample ch c v s).image = s.image ∧ (integrateSample ch c v s).interval = s.interval ∧
      (integrateSample ch c v s).ring = s.ring ∧ (integrateSample ch c v s).engine = s.engine ∧
      (integrateSample ch c v s).table = s.table ∧ (integrateSample ch c v s).store = s.store ∧
      (integrateSample ch c v s).roster = s.roster ∧ (integrateSample ch c v s).line = s.line ∧
      (integrateSample ch c v s).rx = s.rx ∧ (integrateSample ch c v s).check = s.check ∧
      (integrateSample ch c v s).resp = s.resp := by
  unfold integrateSample
  dsimp only
  (repeat' split) <;> simp

@[simp] theorem energySample_keeps (ch : ChannelId) (n : Nat) (a b : Int) :
    (energySample ch n a b s).pending = s.pending ∧ (energySample ch n a b s).control = s.control ∧
      (energySample ch n a b s).image = s.image ∧ (energySample ch n a b s).interval = s.interval ∧
      (energySample ch n a b s).ring = s.ring ∧ (energySample ch n a b s).engine = s.engine ∧
      (energySample ch n a b s).table = s.table ∧ (energySample ch n a b s).store = s.store ∧
      (energySample ch n a b s).roster = s.roster ∧ (energySample ch n a b s).line = s.line ∧
      (energySample ch n a b s).rx = s.rx ∧ (energySample ch n a b s).check = s.check ∧
      (energySample ch n a b s).resp = s.resp := by
  unfold energySample
  dsimp only
  (repeat' split) <;> simp

@[simp] theorem levelTamper_keeps (ch : ChannelId) (c : Contact) :
    (levelTamper ch c s).pending = s.pending ∧ (levelTamper ch c s).control = s.control ∧
      (levelTamper ch c s).image = s.image ∧ (levelTamper ch c s).interval = s.interval ∧
      (levelTamper ch c s).ring = s.ring ∧ (levelTamper ch c s).engine = s.engine ∧ (levelTamper ch c s).table = s.table ∧
      (levelTamper ch c s).store = s.store ∧ (levelTamper ch c s).roster = s.roster ∧ (levelTamper ch c s).line = s.line ∧
      (levelTamper ch c s).rx = s.rx ∧ (levelTamper ch c s).check = s.check ∧ (levelTamper ch c s).resp = s.resp := by
  unfold levelTamper
  dsimp only
  (repeat' split) <;> simp

@[simp] theorem sampleChannel_keeps (ch : ChannelId) (a b : Int) (c : Contact) :
    (sampleChannel ch a b c s).pending = s.pending ∧ (sampleChannel ch a b c s).control = s.control ∧
      (sampleChannel ch a b c s).image = s.image ∧ (sampleChannel ch a b c s).interval = s.interval ∧
      (sampleChannel ch a b c s).ring = s.ring ∧ (sampleChannel ch a b c s).engine = s.engine ∧
      (sampleChannel ch a b c s).table = s.table ∧ (sampleChannel ch a b c s).store = s.store ∧
      (sampleChannel ch a b c s).roster = s.roster ∧ (sampleChannel ch a b c s).line = s.line ∧
      (sampleChannel ch a b c s).rx = s.rx ∧ (sampleChannel ch a b c s).check = s.check ∧
      (sampleChannel ch a b c s).resp = s.resp := by
  unfold sampleChannel
  dsimp only
  (repeat' split) <;> simp

@[simp] theorem pulseTamper_keeps (ch : ChannelId) :
    (pulseTamper ch s).pending = s.pending ∧ (pulseTamper ch s).control = s.control ∧ (pulseTamper ch s).image = s.image ∧
      (pulseTamper ch s).interval = s.interval ∧ (pulseTamper ch s).ring = s.ring ∧ (pulseTamper ch s).engine = s.engine ∧
      (pulseTamper ch s).table = s.table ∧ (pulseTamper ch s).store = s.store ∧ (pulseTamper ch s).roster = s.roster ∧
      (pulseTamper ch s).line = s.line ∧ (pulseTamper ch s).rx = s.rx ∧ (pulseTamper ch s).check = s.check ∧
      (pulseTamper ch s).resp = s.resp := by
  unfold pulseTamper
  dsimp only
  (repeat' split) <;> simp

@[simp] theorem closeChannel_keeps (b : Band) (ch : ChannelId) :
    (closeChannel b ch s).pending = s.pending ∧ (closeChannel b ch s).control = s.control ∧
      (closeChannel b ch s).image = s.image ∧ (closeChannel b ch s).interval = s.interval ∧
      (closeChannel b ch s).ring = s.ring ∧ (closeChannel b ch s).engine = s.engine ∧
      (closeChannel b ch s).roster = s.roster ∧ (closeChannel b ch s).line = s.line ∧ (closeChannel b ch s).rx = s.rx ∧
      (closeChannel b ch s).check = s.check ∧ (closeChannel b ch s).cond = s.cond ∧ (closeChannel b ch s).resp = s.resp := by
  unfold closeChannel
  dsimp only
  (repeat' split) <;> simp

@[simp] theorem closeChannels_keeps (b : Band) :
    (closeChannels b s).pending = s.pending ∧ (closeChannels b s).control = s.control ∧
      (closeChannels b s).image = s.image ∧ (closeChannels b s).interval = s.interval ∧
      (closeChannels b s).ring = s.ring ∧ (closeChannels b s).engine = s.engine ∧ (closeChannels b s).roster = s.roster ∧
      (closeChannels b s).line = s.line ∧ (closeChannels b s).rx = s.rx ∧ (closeChannels b s).check = s.check ∧
      (closeChannels b s).cond = s.cond ∧ (closeChannels b s).resp = s.resp := by
  unfold closeChannels
  exact ⟨(foldl_keeps State.pending _ (fun t a => by simp) _ _).trans (by simp),
    (foldl_keeps State.control _ (fun t a => by simp) _ _).trans (by simp),
    (foldl_keeps State.image _ (fun t a => by simp) _ _).trans (by simp),
    (foldl_keeps State.interval _ (fun t a => by simp) _ _).trans (by simp),
    (foldl_keeps State.ring _ (fun t a => by simp) _ _).trans (by simp),
    (foldl_keeps State.engine _ (fun t a => by simp) _ _).trans (by simp),
    (foldl_keeps State.roster _ (fun t a => by simp) _ _).trans (by simp),
    (foldl_keeps State.line _ (fun t a => by simp) _ _).trans (by simp),
    (foldl_keeps State.rx _ (fun t a => by simp) _ _).trans (by simp),
    (foldl_keeps State.check _ (fun t a => by simp) _ _).trans (by simp),
    (foldl_keeps State.cond _ (fun t a => by simp) _ _).trans (by simp),
    (foldl_keeps State.resp _ (fun t a => by simp) _ _).trans (by simp)⟩

end Sys2Proof.Machine
end

