-- ==== Sys2Proof/Laws/Accounts.lean ====
section
/-! SUPPORT. Which blocks of the state each operation of the account table and restore leaves as they were. -/

namespace Sys2Proof.Machine

variable (s : State)

@[simp] theorem onAccount_keeps (i : AccountId) (f : Account → Account) :
    (onAccount i f s).pending = s.pending ∧ (onAccount i f s).control = s.control ∧ (onAccount i f s).image = s.image ∧
      (onAccount i f s).interval = s.interval ∧ (onAccount i f s).ring = s.ring ∧ (onAccount i f s).engine = s.engine ∧
      (onAccount i f s).store = s.store ∧ (onAccount i f s).channels = s.channels ∧ (onAccount i f s).roster = s.roster ∧
      (onAccount i f s).line = s.line ∧ (onAccount i f s).rx = s.rx ∧ (onAccount i f s).check = s.check ∧
      (onAccount i f s).cond = s.cond ∧ (onAccount i f s).resp = s.resp := by
  simp [onAccount]

@[simp] theorem setSlot_keeps (i : AccountId) (x : Option Statement) :
    (setSlot i x s).pending = s.pending ∧ (setSlot i x s).control = s.control ∧ (setSlot i x s).image = s.image ∧
      (setSlot i x s).interval = s.interval ∧ (setSlot i x s).ring = s.ring ∧ (setSlot i x s).engine = s.engine ∧
      (setSlot i x s).store = s.store ∧ (setSlot i x s).channels = s.channels ∧ (setSlot i x s).roster = s.roster ∧
      (setSlot i x s).line = s.line ∧ (setSlot i x s).rx = s.rx ∧ (setSlot i x s).check = s.check ∧
      (setSlot i x s).cond = s.cond ∧ (setSlot i x s).resp = s.resp := by
  simp [setSlot]

@[simp] theorem onAccountCounters_keeps (f : AccountCounters → AccountCounters) :
    (onAccountCounters f s).pending = s.pending ∧ (onAccountCounters f s).control = s.control ∧
      (onAccountCounters f s).image = s.image ∧ (onAccountCounters f s).interval = s.interval ∧
      (onAccountCounters f s).ring = s.ring ∧ (onAccountCounters f s).engine = s.engine ∧
      (onAccountCounters f s).store = s.store ∧ (onAccountCounters f s).channels = s.channels ∧
      (onAccountCounters f s).roster = s.roster ∧ (onAccountCounters f s).line = s.line ∧
      (onAccountCounters f s).rx = s.rx ∧ (onAccountCounters f s).check = s.check ∧
      (onAccountCounters f s).cond = s.cond ∧ (onAccountCounters f s).resp = s.resp := by
  simp [onAccountCounters]

@[simp] theorem absorbStep_keeps  :
    (absorbStep s).pending = s.pending ∧ (absorbStep s).control = s.control ∧ (absorbStep s).image = s.image ∧
      (absorbStep s).interval = s.interval ∧ (absorbStep s).ring = s.ring ∧ (absorbStep s).table = s.table ∧
      (absorbStep s).store = s.store ∧ (absorbStep s).channels = s.channels ∧ (absorbStep s).roster = s.roster ∧
      (absorbStep s).line = s.line ∧ (absorbStep s).rx = s.rx ∧ (absorbStep s).check = s.check ∧
      (absorbStep s).cond = s.cond ∧ (absorbStep s).resp = s.resp := by
  simp [absorbStep]

@[simp] theorem applyCut_keeps (c : Nat) (i : AccountId) (x : AccountStatus) :
    (applyCut c i x s).pending = s.pending ∧ (applyCut c i x s).control = s.control ∧ (applyCut c i x s).image = s.image ∧
      (applyCut c i x s).interval = s.interval ∧ (applyCut c i x s).ring = s.ring ∧
      (applyCut c i x s).channels = s.channels ∧ (applyCut c i x s).roster = s.roster ∧ (applyCut c i x s).line = s.line ∧
      (applyCut c i x s).rx = s.rx ∧ (applyCut c i x s).check = s.check ∧ (applyCut c i x s).cond = s.cond ∧
      (applyCut c i x s).resp = s.resp := by
  unfold applyCut
  dsimp only
  (repeat' split) <;> simp

@[simp] theorem applyRepair_keeps (c : Nat) (i : AccountId) (x : AccountStatus) :
    (applyRepair c i x s).pending = s.pending ∧ (applyRepair c i x s).control = s.control ∧
      (applyRepair c i x s).image = s.image ∧ (applyRepair c i x s).interval = s.interval ∧
      (applyRepair c i x s).ring = s.ring ∧ (applyRepair c i x s).engine = s.engine ∧
      (applyRepair c i x s).channels = s.channels ∧ (applyRepair c i x s).roster = s.roster ∧
      (applyRepair c i x s).line = s.line ∧ (applyRepair c i x s).rx = s.rx ∧ (applyRepair c i x s).check = s.check ∧
      (applyRepair c i x s).cond = s.cond ∧ (applyRepair c i x s).resp = s.resp := by
  simp [applyRepair]

@[simp] theorem applyPending_keeps (c : Nat) (i : AccountId) :
    (applyPending c s i).pending = s.pending ∧ (applyPending c s i).control = s.control ∧
      (applyPending c s i).image = s.image ∧ (applyPending c s i).interval = s.interval ∧
      (applyPending c s i).ring = s.ring ∧ (applyPending c s i).channels = s.channels ∧
      (applyPending c s i).roster = s.roster ∧ (applyPending c s i).line = s.line ∧ (applyPending c s i).rx = s.rx ∧
      (applyPending c s i).check = s.check ∧ (applyPending c s i).cond = s.cond ∧ (applyPending c s i).resp = s.resp := by
  unfold applyPending
  dsimp only
  (repeat' split) <;> simp

@[simp] theorem applyCuts_keeps (c : Nat) :
    (applyCuts c s).pending = s.pending ∧ (applyCuts c s).control = s.control ∧ (applyCuts c s).image = s.image ∧
      (applyCuts c s).interval = s.interval ∧ (applyCuts c s).ring = s.ring ∧ (applyCuts c s).channels = s.channels ∧
      (applyCuts c s).roster = s.roster ∧ (applyCuts c s).line = s.line ∧ (applyCuts c s).rx = s.rx ∧
      (applyCuts c s).check = s.check ∧ (applyCuts c s).cond = s.cond ∧ (applyCuts c s).resp = s.resp := by
  unfold applyCuts
  exact ⟨(foldl_keeps State.pending _ (fun t a => by simp) _ _).trans (by simp),
    (foldl_keeps State.control _ (fun t a => by simp) _ _).trans (by simp),
    (foldl_keeps State.image _ (fun t a => by simp) _ _).trans (by simp),
    (foldl_keeps State.interval _ (fun t a => by simp) _ _).trans (by simp),
    (foldl_keeps State.ring _ (fun t a => by simp) _ _).trans (by simp),
    (foldl_keeps State.channels _ (fun t a => by simp) _ _).trans (by simp),
    (foldl_keeps State.roster _ (fun t a => by simp) _ _).trans (by simp),
    (foldl_keeps State.line _ (fun t a => by simp) _ _).trans (by simp),
    (foldl_keeps State.rx _ (fun t a => by simp) _ _).trans (by simp),
    (foldl_keeps State.check _ (fun t a => by simp) _ _).trans (by simp),
    (foldl_keeps State.cond _ (fun t a => by simp) _ _).trans (by simp),
    (foldl_keeps State.resp _ (fun t a => by simp) _ _).trans (by simp)⟩

@[simp] theorem restoreStatement_keeps (i : AccountId) :
    (restoreStatement s i).pending = s.pending ∧ (restoreStatement s i).control = s.control ∧
      (restoreStatement s i).image = s.image ∧ (restoreStatement s i).interval = s.interval ∧
      (restoreStatement s i).ring = s.ring ∧ (restoreStatement s i).engine = s.engine ∧
      (restoreStatement s i).channels = s.channels ∧ (restoreStatement s i).roster = s.roster ∧
      (restoreStatement s i).line = s.line ∧ (restoreStatement s i).rx = s.rx ∧ (restoreStatement s i).check = s.check ∧
      (restoreStatement s i).cond = s.cond ∧ (restoreStatement s i).resp = s.resp := by
  unfold restoreStatement
  dsimp only
  (repeat' split) <;> simp

@[simp] theorem freshAccount_keeps (i : AccountId) :
    (freshAccount s i).pending = s.pending ∧ (freshAccount s i).control = s.control ∧ (freshAccount s i).image = s.image ∧
      (freshAccount s i).interval = s.interval ∧ (freshAccount s i).ring = s.ring ∧ (freshAccount s i).engine = s.engine ∧
      (freshAccount s i).roster = s.roster ∧ (freshAccount s i).line = s.line ∧ (freshAccount s i).rx = s.rx ∧
      (freshAccount s i).check = s.check ∧ (freshAccount s i).resp = s.resp := by
  simp [freshAccount]

@[simp] theorem completeCut_keeps (i : AccountId) (x : Statement) :
    (completeCut i x s).pending = s.pending ∧ (completeCut i x s).control = s.control ∧
      (completeCut i x s).image = s.image ∧ (completeCut i x s).interval = s.interval ∧
      (completeCut i x s).ring = s.ring ∧ (completeCut i x s).engine = s.engine ∧
      (completeCut i x s).channels = s.channels ∧ (completeCut i x s).roster = s.roster ∧
      (completeCut i x s).line = s.line ∧ (completeCut i x s).rx = s.rx ∧ (completeCut i x s).check = s.check ∧
      (completeCut i x s).cond = s.cond ∧ (completeCut i x s).resp = s.resp := by
  simp [completeCut]

@[simp] theorem restoreAccount_keeps (i : AccountId) :
    (restoreAccount s i).pending = s.pending ∧ (restoreAccount s i).control = s.control ∧
      (restoreAccount s i).image = s.image ∧ (restoreAccount s i).interval = s.interval ∧
      (restoreAccount s i).ring = s.ring ∧ (restoreAccount s i).engine = s.engine ∧
      (restoreAccount s i).roster = s.roster ∧ (restoreAccount s i).line = s.line ∧ (restoreAccount s i).rx = s.rx ∧
      (restoreAccount s i).check = s.check ∧ (restoreAccount s i).resp = s.resp := by
  unfold restoreAccount
  (repeat' split) <;> simp

@[simp] theorem restoreCut_keeps (i : AccountId) :
    (restoreCut s i).pending = s.pending ∧ (restoreCut s i).control = s.control ∧ (restoreCut s i).image = s.image ∧
      (restoreCut s i).interval = s.interval ∧ (restoreCut s i).ring = s.ring ∧ (restoreCut s i).engine = s.engine ∧
      (restoreCut s i).channels = s.channels ∧ (restoreCut s i).roster = s.roster ∧ (restoreCut s i).line = s.line ∧
      (restoreCut s i).rx = s.rx ∧ (restoreCut s i).check = s.check ∧ (restoreCut s i).cond = s.cond ∧
      (restoreCut s i).resp = s.resp := by
  unfold restoreCut
  (repeat' split) <;> simp

@[simp] theorem restoreStatements_keeps  :
    (allAccounts.foldl restoreStatement s).pending = s.pending ∧
      (allAccounts.foldl restoreStatement s).control = s.control ∧
      (allAccounts.foldl restoreStatement s).image = s.image ∧
      (allAccounts.foldl restoreStatement s).interval = s.interval ∧
      (allAccounts.foldl restoreStatement s).ring = s.ring ∧ (allAccounts.foldl restoreStatement s).engine = s.engine ∧
      (allAccounts.foldl restoreStatement s).channels = s.channels ∧
      (allAccounts.foldl restoreStatement s).roster = s.roster ∧ (allAccounts.foldl restoreStatement s).line = s.line ∧
      (allAccounts.foldl restoreStatement s).rx = s.rx ∧ (allAccounts.foldl restoreStatement s).check = s.check ∧
      (allAccounts.foldl restoreStatement s).cond = s.cond ∧ (allAccounts.foldl restoreStatement s).resp = s.resp := by
  exact ⟨(foldl_keeps State.pending _ (fun t a => by simp) _ _).trans (by simp),
    (foldl_keeps State.control _ (fun t a => by simp) _ _).trans (by simp),
    (foldl_keeps State.image _ (fun t a => by simp) _ _).trans (by simp),
    (foldl_keeps State.interval _ (fun t a => by simp) _ _).trans (by simp),
    (foldl_keeps State.ring _ (fun t a => by simp) _ _).trans (by simp),
    (foldl_keeps State.engine _ (fun t a => by simp) _ _).trans (by simp),
    (foldl_keeps State.channels _ (fun t a => by simp) _ _).trans (by simp),
    (foldl_keeps State.roster _ (fun t a => by simp) _ _).trans (by simp),
    (foldl_keeps State.line _ (fun t a => by simp) _ _).trans (by simp),
    (foldl_keeps State.rx _ (fun t a => by simp) _ _).trans (by simp),
    (foldl_keeps State.check _ (fun t a => by simp) _ _).trans (by simp),
    (foldl_keeps State.cond _ (fun t a => by simp) _ _).trans (by simp),
    (foldl_keeps State.resp _ (fun t a => by simp) _ _).trans (by simp)⟩

@[simp] theorem restoreAccounts_keeps  :
    (allAccounts.foldl restoreAccount s).pending = s.pending ∧ (allAccounts.foldl restoreAccount s).control = s.control ∧
      (allAccounts.foldl restoreAccount s).image = s.image ∧ (allAccounts.foldl restoreAccount s).interval = s.interval ∧
      (allAccounts.foldl restoreAccount s).ring = s.ring ∧ (allAccounts.foldl restoreAccount s).engine = s.engine ∧
      (allAccounts.foldl restoreAccount s).roster = s.roster ∧ (allAccounts.foldl restoreAccount s).line = s.line ∧
      (allAccounts.foldl restoreAccount s).rx = s.rx ∧ (allAccounts.foldl restoreAccount s).check = s.check ∧
      (allAccounts.foldl restoreAccount s).resp = s.resp := by
  exact ⟨(foldl_keeps State.pending _ (fun t a => by simp) _ _).trans (by simp),
    (foldl_keeps State.control _ (fun t a => by simp) _ _).trans (by simp),
    (foldl_keeps State.image _ (fun t a => by simp) _ _).trans (by simp),
    (foldl_keeps State.interval _ (fun t a => by simp) _ _).trans (by simp),
    (foldl_keeps State.ring _ (fun t a => by simp) _ _).trans (by simp),
    (foldl_keeps State.engine _ (fun t a => by simp) _ _).trans (by simp),
    (foldl_keeps State.roster _ (fun t a => by simp) _ _).trans (by simp),
    (foldl_keeps State.line _ (fun t a => by simp) _ _).trans (by simp),
    (foldl_keeps State.rx _ (fun t a => by simp) _ _).trans (by simp),
    (foldl_keeps State.check _ (fun t a => by simp) _ _).trans (by simp),
    (foldl_keeps State.resp _ (fun t a => by simp) _ _).trans (by simp)⟩

@[simp] theorem restoreCuts_keeps  :
    (allAccounts.foldl restoreCut s).pending = s.pending ∧ (allAccounts.foldl restoreCut s).control = s.control ∧
      (allAccounts.foldl restoreCut s).image = s.image ∧ (allAccounts.foldl restoreCut s).interval = s.interval ∧
      (allAccounts.foldl restoreCut s).ring = s.ring ∧ (allAccounts.foldl restoreCut s).engine = s.engine ∧
      (allAccounts.foldl restoreCut s).channels = s.channels ∧ (allAccounts.foldl restoreCut s).roster = s.roster ∧
      (allAccounts.foldl restoreCut s).line = s.line ∧ (allAccounts.foldl restoreCut s).rx = s.rx ∧
      (allAccounts.foldl restoreCut s).check = s.check ∧ (allAccounts.foldl restoreCut s).cond = s.cond ∧
      (allAccounts.foldl restoreCut s).resp = s.resp := by
  exact ⟨(foldl_keeps State.pending _ (fun t a => by simp) _ _).trans (by simp),
    (foldl_keeps State.control _ (fun t a => by simp) _ _).trans (by simp),
    (foldl_keeps State.image _ (fun t a => by simp) _ _).trans (by simp),
    (foldl_keeps State.interval _ (fun t a => by simp) _ _).trans (by simp),
    (foldl_keeps State.ring _ (fun t a => by simp) _ _).trans (by simp),
    (foldl_keeps State.engine _ (fun t a => by simp) _ _).trans (by simp),
    (foldl_keeps State.channels _ (fun t a => by simp) _ _).trans (by simp),
    (foldl_keeps State.roster _ (fun t a => by simp) _ _).trans (by simp),
    (foldl_keeps State.line _ (fun t a => by simp) _ _).trans (by simp),
    (foldl_keeps State.rx _ (fun t a => by simp) _ _).trans (by simp),
    (foldl_keeps State.check _ (fun t a => by simp) _ _).trans (by simp),
    (foldl_keeps State.cond _ (fun t a => by simp) _ _).trans (by simp),
    (foldl_keeps State.resp _ (fun t a => by simp) _ _).trans (by simp)⟩

@[simp] theorem raiseDamaged_keeps  :
    (raiseDamaged s).pending = s.pending ∧ (raiseDamaged s).control = s.control ∧ (raiseDamaged s).image = s.image ∧
      (raiseDamaged s).engine = s.engine ∧ (raiseDamaged s).table = s.table ∧ (raiseDamaged s).store = s.store ∧
      (raiseDamaged s).channels = s.channels ∧ (raiseDamaged s).rx = s.rx ∧ (raiseDamaged s).check = s.check ∧
      (raiseDamaged s).resp = s.resp := by
  unfold raiseDamaged
  split <;> simp

@[simp] theorem restore_keeps  :
    (restore s).pending = s.pending ∧ (restore s).control = s.control ∧ (restore s).image = s.image ∧
      (restore s).engine = s.engine ∧ (restore s).rx = s.rx ∧ (restore s).check = s.check ∧ (restore s).resp = s.resp := by
  unfold restore
  simp

end Sys2Proof.Machine
end

