-- ==== Sys2Proof/Laws/Engine.lean ====
section
/-! SUPPORT. Which blocks of the state each operation of the engine, the store and the cross-check unit leaves as they were. -/

namespace Sys2Proof.Machine

variable (s : State)

@[simp] theorem onEngineCounters_keeps (f : EngineCounters → EngineCounters) :
    (onEngineCounters f s).pending = s.pending ∧ (onEngineCounters f s).control = s.control ∧
      (onEngineCounters f s).image = s.image ∧ (onEngineCounters f s).interval = s.interval ∧
      (onEngineCounters f s).ring = s.ring ∧ (onEngineCounters f s).table = s.table ∧
      (onEngineCounters f s).store = s.store ∧ (onEngineCounters f s).channels = s.channels ∧
      (onEngineCounters f s).roster = s.roster ∧ (onEngineCounters f s).line = s.line ∧ (onEngineCounters f s).rx = s.rx ∧
      (onEngineCounters f s).check = s.check ∧ (onEngineCounters f s).cond = s.cond ∧
      (onEngineCounters f s).resp = s.resp := by
  simp [onEngineCounters]

@[simp] theorem orphanCheck_keeps (k : Nat) (t : Totals) (p : PoolId) :
    (orphanCheck k t p s).pending = s.pending ∧ (orphanCheck k t p s).control = s.control ∧
      (orphanCheck k t p s).image = s.image ∧ (orphanCheck k t p s).interval = s.interval ∧
      (orphanCheck k t p s).engine = s.engine ∧ (orphanCheck k t p s).table = s.table ∧
      (orphanCheck k t p s).store = s.store ∧ (orphanCheck k t p s).roster = s.roster ∧
      (orphanCheck k t p s).line = s.line ∧ (orphanCheck k t p s).rx = s.rx ∧ (orphanCheck k t p s).check = s.check ∧
      (orphanCheck k t p s).resp = s.resp := by
  unfold orphanCheck
  dsimp only
  (repeat' split) <;> simp

@[simp] theorem imbalanceCheck_keeps (k : Nat) (t : Totals) (p : PoolId) :
    (imbalanceCheck k t p s).pending = s.pending ∧ (imbalanceCheck k t p s).control = s.control ∧
      (imbalanceCheck k t p s).image = s.image ∧ (imbalanceCheck k t p s).interval = s.interval ∧
      (imbalanceCheck k t p s).engine = s.engine ∧ (imbalanceCheck k t p s).table = s.table ∧
      (imbalanceCheck k t p s).store = s.store ∧ (imbalanceCheck k t p s).roster = s.roster ∧
      (imbalanceCheck k t p s).line = s.line ∧ (imbalanceCheck k t p s).rx = s.rx ∧
      (imbalanceCheck k t p s).check = s.check ∧ (imbalanceCheck k t p s).resp = s.resp := by
  unfold imbalanceCheck
  dsimp only
  (repeat' split) <;> simp

@[simp] theorem requestRecompute_keeps (k : Nat) :
    (requestRecompute k s).pending = s.pending ∧ (requestRecompute k s).control = s.control ∧
      (requestRecompute k s).image = s.image ∧ (requestRecompute k s).interval = s.interval ∧
      (requestRecompute k s).ring = s.ring ∧ (requestRecompute k s).table = s.table ∧
      (requestRecompute k s).store = s.store ∧ (requestRecompute k s).channels = s.channels ∧
      (requestRecompute k s).roster = s.roster ∧ (requestRecompute k s).line = s.line ∧ (requestRecompute k s).rx = s.rx ∧
      (requestRecompute k s).check = s.check ∧ (requestRecompute k s).cond = s.cond ∧
      (requestRecompute k s).resp = s.resp := by
  unfold requestRecompute
  dsimp only
  (repeat' split) <;> simp

@[simp] theorem startCompute_keeps (x : Bool) (k : Nat) (rest : List Job) :
    (startCompute x k rest s).pending = s.pending ∧ (startCompute x k rest s).control = s.control ∧
      (startCompute x k rest s).image = s.image ∧ (startCompute x k rest s).interval = s.interval ∧
      (startCompute x k rest s).ring = s.ring ∧ (startCompute x k rest s).table = s.table ∧
      (startCompute x k rest s).store = s.store ∧ (startCompute x k rest s).channels = s.channels ∧
      (startCompute x k rest s).roster = s.roster ∧ (startCompute x k rest s).line = s.line ∧
      (startCompute x k rest s).rx = s.rx ∧ (startCompute x k rest s).check = s.check ∧
      (startCompute x k rest s).cond = s.cond ∧ (startCompute x k rest s).resp = s.resp := by
  simp [startCompute]

@[simp] theorem completeCompute_keeps (j : ComputeJob) :
    (completeCompute j s).pending = s.pending ∧ (completeCompute j s).control = s.control ∧
      (completeCompute j s).image = s.image ∧ (completeCompute j s).interval = s.interval ∧
      (completeCompute j s).table = s.table ∧ (completeCompute j s).store = s.store ∧
      (completeCompute j s).roster = s.roster ∧ (completeCompute j s).line = s.line ∧ (completeCompute j s).rx = s.rx ∧
      (completeCompute j s).check = s.check ∧ (completeCompute j s).resp = s.resp := by
  unfold completeCompute
  exact ⟨(foldl_keeps State.pending _ (fun t a => by simp) _ _).trans (by simp),
    (foldl_keeps State.control _ (fun t a => by simp) _ _).trans (by simp),
    (foldl_keeps State.image _ (fun t a => by simp) _ _).trans (by simp),
    (foldl_keeps State.interval _ (fun t a => by simp) _ _).trans (by simp),
    (foldl_keeps State.table _ (fun t a => by simp) _ _).trans (by simp),
    (foldl_keeps State.store _ (fun t a => by simp) _ _).trans (by simp),
    (foldl_keeps State.roster _ (fun t a => by simp) _ _).trans (by simp),
    (foldl_keeps State.line _ (fun t a => by simp) _ _).trans (by simp),
    (foldl_keeps State.rx _ (fun t a => by simp) _ _).trans (by simp),
    (foldl_keeps State.check _ (fun t a => by simp) _ _).trans (by simp),
    (foldl_keeps State.resp _ (fun t a => by simp) _ _).trans (by simp)⟩

@[simp] theorem setFlight_keeps (f : Option Flight) :
    (setFlight f s).pending = s.pending ∧ (setFlight f s).control = s.control ∧ (setFlight f s).image = s.image ∧
      (setFlight f s).interval = s.interval ∧ (setFlight f s).ring = s.ring ∧ (setFlight f s).table = s.table ∧
      (setFlight f s).store = s.store ∧ (setFlight f s).channels = s.channels ∧ (setFlight f s).roster = s.roster ∧
      (setFlight f s).line = s.line ∧ (setFlight f s).rx = s.rx ∧ (setFlight f s).check = s.check ∧
      (setFlight f s).cond = s.cond ∧ (setFlight f s).resp = s.resp := by
  simp [setFlight]

@[simp] theorem awaitWrite_keeps (j : SettleJob) (w : SettleWrite) :
    (awaitWrite j w s).pending = s.pending ∧ (awaitWrite j w s).control = s.control ∧ (awaitWrite j w s).image = s.image ∧
      (awaitWrite j w s).interval = s.interval ∧ (awaitWrite j w s).ring = s.ring ∧
      (awaitWrite j w s).channels = s.channels ∧ (awaitWrite j w s).roster = s.roster ∧ (awaitWrite j w s).line = s.line ∧
      (awaitWrite j w s).rx = s.rx ∧ (awaitWrite j w s).check = s.check ∧ (awaitWrite j w s).cond = s.cond ∧
      (awaitWrite j w s).resp = s.resp := by
  unfold awaitWrite
  split <;> simp

@[simp] theorem countUncomputed_keeps (r : Record) :
    (countUncomputed r s).pending = s.pending ∧ (countUncomputed r s).control = s.control ∧
      (countUncomputed r s).image = s.image ∧ (countUncomputed r s).interval = s.interval ∧
      (countUncomputed r s).ring = s.ring ∧ (countUncomputed r s).table = s.table ∧
      (countUncomputed r s).store = s.store ∧ (countUncomputed r s).channels = s.channels ∧
      (countUncomputed r s).roster = s.roster ∧ (countUncomputed r s).line = s.line ∧ (countUncomputed r s).rx = s.rx ∧
      (countUncomputed r s).check = s.check ∧ (countUncomputed r s).cond = s.cond ∧ (countUncomputed r s).resp = s.resp := by
  unfold countUncomputed
  split <;> simp

@[simp] theorem raiseLimits_keeps (a : Adding) :
    (raiseLimits a s).pending = s.pending ∧ (raiseLimits a s).control = s.control ∧ (raiseLimits a s).image = s.image ∧
      (raiseLimits a s).engine = s.engine ∧ (raiseLimits a s).store = s.store ∧ (raiseLimits a s).channels = s.channels ∧
      (raiseLimits a s).rx = s.rx ∧ (raiseLimits a s).check = s.check ∧ (raiseLimits a s).resp = s.resp := by
  unfold raiseLimits
  exact ⟨(foldl_keeps State.pending _ (fun t a => by simp) _ _).trans (by simp),
    (foldl_keeps State.control _ (fun t a => by simp) _ _).trans (by simp),
    (foldl_keeps State.image _ (fun t a => by simp) _ _).trans (by simp),
    (foldl_keeps State.engine _ (fun t a => by simp) _ _).trans (by simp),
    (foldl_keeps State.store _ (fun t a => by simp) _ _).trans (by simp),
    (foldl_keeps State.channels _ (fun t a => by simp) _ _).trans (by simp),
    (foldl_keeps State.rx _ (fun t a => by simp) _ _).trans (by simp),
    (foldl_keeps State.check _ (fun t a => by simp) _ _).trans (by simp),
    (foldl_keeps State.resp _ (fun t a => by simp) _ _).trans (by simp)⟩

@[simp] theorem settleNode_keeps (j : SettleJob) :
    (settleNode j s).pending = s.pending ∧ (settleNode j s).control = s.control ∧ (settleNode j s).image = s.image ∧
      (settleNode j s).interval = s.interval ∧ (settleNode j s).ring = s.ring ∧ (settleNode j s).channels = s.channels ∧
      (settleNode j s).roster = s.roster ∧ (settleNode j s).line = s.line ∧ (settleNode j s).rx = s.rx ∧
      (settleNode j s).check = s.check ∧ (settleNode j s).cond = s.cond ∧ (settleNode j s).resp = s.resp := by
  simp [settleNode]

@[simp] theorem settleFinals_keeps (j : SettleJob) (l : List AccountId) :
    (settleFinals j s l).pending = s.pending ∧ (settleFinals j s l).control = s.control ∧
      (settleFinals j s l).image = s.image ∧ (settleFinals j s l).interval = s.interval ∧
      (settleFinals j s l).ring = s.ring ∧ (settleFinals j s l).channels = s.channels ∧
      (settleFinals j s l).roster = s.roster ∧ (settleFinals j s l).line = s.line ∧ (settleFinals j s l).rx = s.rx ∧
      (settleFinals j s l).check = s.check ∧ (settleFinals j s l).cond = s.cond ∧ (settleFinals j s l).resp = s.resp := by
  cases l <;> simp [settleFinals]

@[simp] theorem settleAccounts_keeps (r : Record) (l : List AccountId) (j : SettleJob) :
    (settleAccounts r j l s).pending = s.pending ∧ (settleAccounts r j l s).control = s.control ∧
      (settleAccounts r j l s).image = s.image ∧ (settleAccounts r j l s).channels = s.channels ∧
      (settleAccounts r j l s).rx = s.rx ∧ (settleAccounts r j l s).check = s.check ∧
      (settleAccounts r j l s).resp = s.resp := by
  induction l generalizing j s with
  | nil => simp [settleAccounts]
  | cons i l ih =>
    simp only [settleAccounts]
    (repeat' split) <;> simp [ih]

@[simp] theorem startSettle_keeps (r : Record) (rest : List Job) :
    (startSettle r rest s).pending = s.pending ∧ (startSettle r rest s).control = s.control ∧
      (startSettle r rest s).image = s.image ∧ (startSettle r rest s).channels = s.channels ∧
      (startSettle r rest s).rx = s.rx ∧ (startSettle r rest s).check = s.check ∧ (startSettle r rest s).resp = s.resp := by
  unfold startSettle
  dsimp only
  (repeat' split) <;> simp

@[simp] theorem takeSettled_keeps (j : SettleJob) (w : SettleWrite) :
    (takeSettled j w s).pending = s.pending ∧ (takeSettled j w s).control = s.control ∧
      (takeSettled j w s).image = s.image ∧ (takeSettled j w s).interval = s.interval ∧
      (takeSettled j w s).ring = s.ring ∧ (takeSettled j w s).engine = s.engine ∧ (takeSettled j w s).store = s.store ∧
      (takeSettled j w s).channels = s.channels ∧ (takeSettled j w s).roster = s.roster ∧
      (takeSettled j w s).line = s.line ∧ (takeSettled j w s).rx = s.rx ∧ (takeSettled j w s).check = s.check ∧
      (takeSettled j w s).cond = s.cond ∧ (takeSettled j w s).resp = s.resp := by
  unfold takeSettled
  (repeat' split) <;> simp

@[simp] theorem settleWriteDone_keeps  :
    (settleWriteDone s).pending = s.pending ∧ (settleWriteDone s).control = s.control ∧
      (settleWriteDone s).image = s.image ∧ (settleWriteDone s).channels = s.channels ∧ (settleWriteDone s).rx = s.rx ∧
      (settleWriteDone s).check = s.check ∧ (settleWriteDone s).resp = s.resp := by
  unfold settleWriteDone
  dsimp only
  (repeat' split) <;> simp

@[simp] theorem commitWrite_keeps (q : StoreRequest) :
    (commitWrite q s).pending = s.pending ∧ (commitWrite q s).control = s.control ∧ (commitWrite q s).image = s.image ∧
      (commitWrite q s).interval = s.interval ∧ (commitWrite q s).ring = s.ring ∧ (commitWrite q s).engine = s.engine ∧
      (commitWrite q s).table = s.table ∧ (commitWrite q s).channels = s.channels ∧ (commitWrite q s).roster = s.roster ∧
      (commitWrite q s).line = s.line ∧ (commitWrite q s).rx = s.rx ∧ (commitWrite q s).check = s.check ∧
      (commitWrite q s).cond = s.cond ∧ (commitWrite q s).resp = s.resp := by
  simp [commitWrite]

@[simp] theorem completeSettle_keeps (j : SettleJob) (r : Record) :
    (completeSettle j r s).pending = s.pending ∧ (completeSettle j r s).control = s.control ∧
      (completeSettle j r s).image = s.image ∧ (completeSettle j r s).interval = s.interval ∧
      (completeSettle j r s).table = s.table ∧ (completeSettle j r s).store = s.store ∧
      (completeSettle j r s).channels = s.channels ∧ (completeSettle j r s).roster = s.roster ∧
      (completeSettle j r s).line = s.line ∧ (completeSettle j r s).rx = s.rx ∧ (completeSettle j r s).check = s.check ∧
      (completeSettle j r s).cond = s.cond ∧ (completeSettle j r s).resp = s.resp := by
  simp [completeSettle]

@[simp] theorem onCheckCounts_keeps (p : PoolId) (f : CheckCounts → CheckCounts) :
    (onCheckCounts p f s).pending = s.pending ∧ (onCheckCounts p f s).control = s.control ∧
      (onCheckCounts p f s).image = s.image ∧ (onCheckCounts p f s).interval = s.interval ∧
      (onCheckCounts p f s).ring = s.ring ∧ (onCheckCounts p f s).engine = s.engine ∧
      (onCheckCounts p f s).table = s.table ∧ (onCheckCounts p f s).store = s.store ∧
      (onCheckCounts p f s).channels = s.channels ∧ (onCheckCounts p f s).roster = s.roster ∧
      (onCheckCounts p f s).line = s.line ∧ (onCheckCounts p f s).rx = s.rx ∧ (onCheckCounts p f s).cond = s.cond ∧
      (onCheckCounts p f s).resp = s.resp := by
  simp [onCheckCounts]

@[simp] theorem captureMismatch_keeps (m : Nat) (p : PoolId) (st : Nat) (a b : Digest) :
    (captureMismatch m p st a b s).pending = s.pending ∧ (captureMismatch m p st a b s).control = s.control ∧
      (captureMismatch m p st a b s).image = s.image ∧ (captureMismatch m p st a b s).interval = s.interval ∧
      (captureMismatch m p st a b s).ring = s.ring ∧ (captureMismatch m p st a b s).engine = s.engine ∧
      (captureMismatch m p st a b s).table = s.table ∧ (captureMismatch m p st a b s).store = s.store ∧
      (captureMismatch m p st a b s).channels = s.channels ∧ (captureMismatch m p st a b s).roster = s.roster ∧
      (captureMismatch m p st a b s).line = s.line ∧ (captureMismatch m p st a b s).rx = s.rx ∧
      (captureMismatch m p st a b s).cond = s.cond ∧ (captureMismatch m p st a b s).resp = s.resp := by
  simp [captureMismatch]

@[simp] theorem advanceRun_keeps (m : Nat) (p : PoolId) (st : Nat) :
    (advanceRun m p st s).pending = s.pending ∧ (advanceRun m p st s).control = s.control ∧
      (advanceRun m p st s).image = s.image ∧ (advanceRun m p st s).engine = s.engine ∧
      (advanceRun m p st s).table = s.table ∧ (advanceRun m p st s).store = s.store ∧
      (advanceRun m p st s).channels = s.channels ∧ (advanceRun m p st s).rx = s.rx ∧
      (advanceRun m p st s).resp = s.resp := by
  unfold advanceRun
  dsimp only
  (repeat' split) <;> simp

@[simp] theorem handDigest_keeps (k : Nat) (p : PoolId) (st : Nat) (d : Option Digest) :
    (handDigest k p st d s).pending = s.pending ∧ (handDigest k p st d s).control = s.control ∧
      (handDigest k p st d s).image = s.image ∧ (handDigest k p st d s).engine = s.engine ∧
      (handDigest k p st d s).table = s.table ∧ (handDigest k p st d s).store = s.store ∧
      (handDigest k p st d s).channels = s.channels ∧ (handDigest k p st d s).rx = s.rx ∧
      (handDigest k p st d s).resp = s.resp := by
  unfold handDigest
  (repeat' split) <;> simp

@[simp] theorem clearCheck_keeps  :
    (clearCheck s).pending = s.pending ∧ (clearCheck s).control = s.control ∧ (clearCheck s).image = s.image ∧
      (clearCheck s).interval = s.interval ∧ (clearCheck s).ring = s.ring ∧ (clearCheck s).engine = s.engine ∧
      (clearCheck s).table = s.table ∧ (clearCheck s).store = s.store ∧ (clearCheck s).channels = s.channels ∧
      (clearCheck s).roster = s.roster ∧ (clearCheck s).line = s.line ∧ (clearCheck s).rx = s.rx ∧
      (clearCheck s).cond = s.cond ∧ (clearCheck s).resp = s.resp := by
  simp [clearCheck]

end Sys2Proof.Machine
end

