-- ==== Sys2Proof/Laws/Roster.lean ====
section
/-! SUPPORT. Which blocks of the state each operation of the roster and the receive pool leaves as they were. -/

namespace Sys2Proof.Machine

variable (s : State)

@[simp] theorem learn_keeps (f : RxFrame) :
    (learn f s).pending = s.pending ∧ (learn f s).control = s.control ∧ (learn f s).image = s.image ∧
      (learn f s).interval = s.interval ∧ (learn f s).ring = s.ring ∧ (learn f s).engine = s.engine ∧
      (learn f s).table = s.table ∧ (learn f s).store = s.store ∧ (learn f s).channels = s.channels ∧
      (learn f s).line = s.line ∧ (learn f s).rx = s.rx ∧ (learn f s).check = s.check ∧ (learn f s).cond = s.cond ∧
      (learn f s).resp = s.resp := by
  simp [learn]

@[simp] theorem rosterArrival_state_keeps (f : RxFrame) :
    ((rosterArrival f s).2).pending = s.pending ∧ ((rosterArrival f s).2).control = s.control ∧
      ((rosterArrival f s).2).image = s.image ∧ ((rosterArrival f s).2).interval = s.interval ∧
      ((rosterArrival f s).2).ring = s.ring ∧ ((rosterArrival f s).2).engine = s.engine ∧
      ((rosterArrival f s).2).table = s.table ∧ ((rosterArrival f s).2).store = s.store ∧
      ((rosterArrival f s).2).line = s.line ∧ ((rosterArrival f s).2).rx = s.rx ∧
      ((rosterArrival f s).2).check = s.check ∧ ((rosterArrival f s).2).resp = s.resp := by
  unfold rosterArrival
  (repeat' split) <;> simp only [] <;> (repeat' split) <;> simp

@[simp] theorem countBoundary_keeps  :
    (countBoundary s).pending = s.pending ∧ (countBoundary s).control = s.control ∧ (countBoundary s).image = s.image ∧
      (countBoundary s).interval = s.interval ∧ (countBoundary s).ring = s.ring ∧ (countBoundary s).engine = s.engine ∧
      (countBoundary s).table = s.table ∧ (countBoundary s).store = s.store ∧ (countBoundary s).check = s.check ∧
      (countBoundary s).resp = s.resp := by
  unfold countBoundary
  exact ⟨(foldl_keeps State.pending _ (fun t a => by simp) _ _).trans (by simp),
    (foldl_keeps State.control _ (fun t a => by simp) _ _).trans (by simp),
    (foldl_keeps State.image _ (fun t a => by simp) _ _).trans (by simp),
    (foldl_keeps State.interval _ (fun t a => by simp) _ _).trans (by simp),
    (foldl_keeps State.ring _ (fun t a => by simp) _ _).trans (by simp),
    (foldl_keeps State.engine _ (fun t a => by simp) _ _).trans (by simp),
    (foldl_keeps State.table _ (fun t a => by simp) _ _).trans (by simp),
    (foldl_keeps State.store _ (fun t a => by simp) _ _).trans (by simp),
    (foldl_keeps State.check _ (fun t a => by simp) _ _).trans (by simp),
    (foldl_keeps State.resp _ (fun t a => by simp) _ _).trans (by simp)⟩

@[simp] theorem ageRoster_keeps (c k : Nat) :
    (ageRoster c k s).pending = s.pending ∧ (ageRoster c k s).control = s.control ∧ (ageRoster c k s).image = s.image ∧
      (ageRoster c k s).interval = s.interval ∧ (ageRoster c k s).ring = s.ring ∧ (ageRoster c k s).engine = s.engine ∧
      (ageRoster c k s).table = s.table ∧ (ageRoster c k s).store = s.store ∧ (ageRoster c k s).channels = s.channels ∧
      (ageRoster c k s).line = s.line ∧ (ageRoster c k s).rx = s.rx ∧ (ageRoster c k s).check = s.check ∧
      (ageRoster c k s).cond = s.cond ∧ (ageRoster c k s).resp = s.resp := by
  simp [ageRoster]

@[simp] theorem setAnnounce_keeps (x : AnnounceSending) :
    (setAnnounce x s).pending = s.pending ∧ (setAnnounce x s).control = s.control ∧ (setAnnounce x s).image = s.image ∧
      (setAnnounce x s).interval = s.interval ∧ (setAnnounce x s).ring = s.ring ∧ (setAnnounce x s).engine = s.engine ∧
      (setAnnounce x s).table = s.table ∧ (setAnnounce x s).store = s.store ∧ (setAnnounce x s).channels = s.channels ∧
      (setAnnounce x s).line = s.line ∧ (setAnnounce x s).rx = s.rx ∧ (setAnnounce x s).check = s.check ∧
      (setAnnounce x s).cond = s.cond ∧ (setAnnounce x s).resp = s.resp := by
  simp [setAnnounce]

@[simp] theorem announceDue_keeps  :
    (announceDue s).pending = s.pending ∧ (announceDue s).control = s.control ∧ (announceDue s).image = s.image ∧
      (announceDue s).interval = s.interval ∧ (announceDue s).ring = s.ring ∧ (announceDue s).engine = s.engine ∧
      (announceDue s).table = s.table ∧ (announceDue s).store = s.store ∧ (announceDue s).channels = s.channels ∧
      (announceDue s).rx = s.rx ∧ (announceDue s).check = s.check ∧ (announceDue s).cond = s.cond ∧
      (announceDue s).resp = s.resp := by
  unfold announceDue
  (repeat' split) <;> simp

@[simp] theorem onRxCounters_keeps (f : RxCounters → RxCounters) :
    (onRxCounters f s).pending = s.pending ∧ (onRxCounters f s).control = s.control ∧ (onRxCounters f s).image = s.image ∧
      (onRxCounters f s).interval = s.interval ∧ (onRxCounters f s).ring = s.ring ∧ (onRxCounters f s).engine = s.engine ∧
      (onRxCounters f s).table = s.table ∧ (onRxCounters f s).store = s.store ∧ (onRxCounters f s).channels = s.channels ∧
      (onRxCounters f s).roster = s.roster ∧ (onRxCounters f s).line = s.line ∧ (onRxCounters f s).check = s.check ∧
      (onRxCounters f s).cond = s.cond ∧ (onRxCounters f s).resp = s.resp := by
  simp [onRxCounters]

@[simp] theorem admitFrame_keeps (f : RxFrame) (c : RxClass) (x : Bool) :
    (admitFrame f c x s).pending = s.pending ∧ (admitFrame f c x s).control = s.control ∧
      (admitFrame f c x s).image = s.image ∧ (admitFrame f c x s).interval = s.interval ∧
      (admitFrame f c x s).ring = s.ring ∧ (admitFrame f c x s).engine = s.engine ∧ (admitFrame f c x s).table = s.table ∧
      (admitFrame f c x s).store = s.store ∧ (admitFrame f c x s).channels = s.channels ∧
      (admitFrame f c x s).roster = s.roster ∧ (admitFrame f c x s).line = s.line ∧ (admitFrame f c x s).check = s.check ∧
      (admitFrame f c x s).cond = s.cond ∧ (admitFrame f c x s).resp = s.resp := by
  simp [admitFrame]

@[simp] theorem dropFrame_keeps (f : RxFrame) (c : RxClass) :
    (dropFrame f c s).pending = s.pending ∧ (dropFrame f c s).control = s.control ∧ (dropFrame f c s).image = s.image ∧
      (dropFrame f c s).interval = s.interval ∧ (dropFrame f c s).ring = s.ring ∧ (dropFrame f c s).engine = s.engine ∧
      (dropFrame f c s).table = s.table ∧ (dropFrame f c s).store = s.store ∧ (dropFrame f c s).roster = s.roster ∧
      (dropFrame f c s).line = s.line ∧ (dropFrame f c s).check = s.check ∧ (dropFrame f c s).resp = s.resp := by
  unfold dropFrame
  dsimp only
  (repeat' split) <;> simp

@[simp] theorem admitOrDrop_keeps (f : RxFrame) (x : Bool) :
    (admitOrDrop f x s).pending = s.pending ∧ (admitOrDrop f x s).control = s.control ∧
      (admitOrDrop f x s).image = s.image ∧ (admitOrDrop f x s).interval = s.interval ∧
      (admitOrDrop f x s).ring = s.ring ∧ (admitOrDrop f x s).engine = s.engine ∧ (admitOrDrop f x s).table = s.table ∧
      (admitOrDrop f x s).store = s.store ∧ (admitOrDrop f x s).roster = s.roster ∧ (admitOrDrop f x s).line = s.line ∧
      (admitOrDrop f x s).check = s.check ∧ (admitOrDrop f x s).resp = s.resp := by
  unfold admitOrDrop
  dsimp only
  (repeat' split) <;> simp

@[simp] theorem countPoolDiscard_keeps  :
    (countPoolDiscard s).pending = s.pending ∧ (countPoolDiscard s).control = s.control ∧
      (countPoolDiscard s).image = s.image ∧ (countPoolDiscard s).interval = s.interval ∧
      (countPoolDiscard s).ring = s.ring ∧ (countPoolDiscard s).engine = s.engine ∧ (countPoolDiscard s).table = s.table ∧
      (countPoolDiscard s).store = s.store ∧ (countPoolDiscard s).channels = s.channels ∧
      (countPoolDiscard s).roster = s.roster ∧ (countPoolDiscard s).line = s.line ∧ (countPoolDiscard s).check = s.check ∧
      (countPoolDiscard s).cond = s.cond ∧ (countPoolDiscard s).resp = s.resp := by
  simp [countPoolDiscard]

@[simp] theorem countPeerRefused_keeps  :
    (countPeerRefused s).pending = s.pending ∧ (countPeerRefused s).control = s.control ∧
      (countPeerRefused s).image = s.image ∧ (countPeerRefused s).interval = s.interval ∧
      (countPeerRefused s).ring = s.ring ∧ (countPeerRefused s).engine = s.engine ∧ (countPeerRefused s).table = s.table ∧
      (countPeerRefused s).store = s.store ∧ (countPeerRefused s).channels = s.channels ∧
      (countPeerRefused s).roster = s.roster ∧ (countPeerRefused s).line = s.line ∧ (countPeerRefused s).check = s.check ∧
      (countPeerRefused s).cond = s.cond ∧ (countPeerRefused s).resp = s.resp := by
  simp [countPeerRefused]

@[simp] theorem filterFrame_keeps (f : RxFrame) (x : Bool) :
    (filterFrame f x s).pending = s.pending ∧ (filterFrame f x s).control = s.control ∧
      (filterFrame f x s).image = s.image ∧ (filterFrame f x s).interval = s.interval ∧
      (filterFrame f x s).ring = s.ring ∧ (filterFrame f x s).engine = s.engine ∧ (filterFrame f x s).table = s.table ∧
      (filterFrame f x s).store = s.store ∧ (filterFrame f x s).roster = s.roster ∧ (filterFrame f x s).line = s.line ∧
      (filterFrame f x s).check = s.check ∧ (filterFrame f x s).resp = s.resp := by
  unfold filterFrame
  (repeat' split) <;> simp

@[simp] theorem acceptFrame_keeps (f : RxFrame) :
    (acceptFrame f s).pending = s.pending ∧ (acceptFrame f s).control = s.control ∧ (acceptFrame f s).image = s.image ∧
      (acceptFrame f s).interval = s.interval ∧ (acceptFrame f s).ring = s.ring ∧ (acceptFrame f s).engine = s.engine ∧
      (acceptFrame f s).table = s.table ∧ (acceptFrame f s).store = s.store ∧ (acceptFrame f s).line = s.line ∧
      (acceptFrame f s).check = s.check ∧ (acceptFrame f s).resp = s.resp := by
  unfold acceptFrame
  dsimp only
  (repeat' split) <;> simp

@[simp] theorem takeHead_keeps (c : RxClass) :
    (takeHead c s).pending = s.pending ∧ (takeHead c s).control = s.control ∧ (takeHead c s).image = s.image ∧
      (takeHead c s).interval = s.interval ∧ (takeHead c s).ring = s.ring ∧ (takeHead c s).engine = s.engine ∧
      (takeHead c s).table = s.table ∧ (takeHead c s).store = s.store ∧ (takeHead c s).channels = s.channels ∧
      (takeHead c s).roster = s.roster ∧ (takeHead c s).line = s.line ∧ (takeHead c s).check = s.check ∧
      (takeHead c s).cond = s.cond ∧ (takeHead c s).resp = s.resp := by
  simp [takeHead]

@[simp] theorem purgeLate_keeps  :
    (purgeLate s).pending = s.pending ∧ (purgeLate s).control = s.control ∧ (purgeLate s).image = s.image ∧
      (purgeLate s).interval = s.interval ∧ (purgeLate s).ring = s.ring ∧ (purgeLate s).engine = s.engine ∧
      (purgeLate s).table = s.table ∧ (purgeLate s).store = s.store ∧ (purgeLate s).channels = s.channels ∧
      (purgeLate s).roster = s.roster ∧ (purgeLate s).line = s.line ∧ (purgeLate s).check = s.check ∧
      (purgeLate s).cond = s.cond ∧ (purgeLate s).resp = s.resp := by
  simp [purgeLate]

@[simp] theorem takeAnnounce_keeps (st : Nat) (m : Option Membership) (mask : PoolMask) (d : Digest) (n : Nat) :
    (takeAnnounce st m mask d n s).pending = s.pending ∧ (takeAnnounce st m mask d n s).control = s.control ∧
      (takeAnnounce st m mask d n s).image = s.image ∧ (takeAnnounce st m mask d n s).interval = s.interval ∧
      (takeAnnounce st m mask d n s).ring = s.ring ∧ (takeAnnounce st m mask d n s).engine = s.engine ∧
      (takeAnnounce st m mask d n s).table = s.table ∧ (takeAnnounce st m mask d n s).store = s.store ∧
      (takeAnnounce st m mask d n s).line = s.line ∧ (takeAnnounce st m mask d n s).rx = s.rx ∧
      (takeAnnounce st m mask d n s).check = s.check ∧ (takeAnnounce st m mask d n s).resp = s.resp := by
  unfold takeAnnounce
  dsimp only
  (repeat' split) <;> simp

end Sys2Proof.Machine
end

