-- ==== Sys2Proof/Laws/Ring.lean ====
section
/-! SUPPORT. Which blocks of the state each operation of the interval ring leaves as they were. -/

namespace Sys2Proof.Machine

variable (s : State)

@[simp] theorem onRingCounters_keeps (f : RingCounters → RingCounters) :
    (onRingCounters f s).pending = s.pending ∧ (onRingCounters f s).control = s.control ∧
      (onRingCounters f s).image = s.image ∧ (onRingCounters f s).interval = s.interval ∧
      (onRingCounters f s).engine = s.engine ∧ (onRingCounters f s).table = s.table ∧
      (onRingCounters f s).store = s.store ∧ (onRingCounters f s).channels = s.channels ∧
      (onRingCounters f s).roster = s.roster ∧ (onRingCounters f s).line = s.line ∧ (onRingCounters f s).rx = s.rx ∧
      (onRingCounters f s).check = s.check ∧ (onRingCounters f s).cond = s.cond ∧ (onRingCounters f s).resp = s.resp := by
  simp [onRingCounters]

@[simp] theorem openRecord_keeps (n : Nat) (b : Band) (x : Bool) :
    (openRecord n b x s).pending = s.pending ∧ (openRecord n b x s).control = s.control ∧
      (openRecord n b x s).image = s.image ∧ (openRecord n b x s).interval = s.interval ∧
      (openRecord n b x s).engine = s.engine ∧ (openRecord n b x s).table = s.table ∧
      (openRecord n b x s).store = s.store ∧ (openRecord n b x s).channels = s.channels ∧
      (openRecord n b x s).roster = s.roster ∧ (openRecord n b x s).line = s.line ∧ (openRecord n b x s).rx = s.rx ∧
      (openRecord n b x s).check = s.check ∧ (openRecord n b x s).cond = s.cond ∧ (openRecord n b x s).resp = s.resp := by
  simp [openRecord]

@[simp] theorem finishGather_keeps (k : Nat) :
    (finishGather k s).pending = s.pending ∧ (finishGather k s).control = s.control ∧ (finishGather k s).image = s.image ∧
      (finishGather k s).interval = s.interval ∧ (finishGather k s).table = s.table ∧ (finishGather k s).store = s.store ∧
      (finishGather k s).channels = s.channels ∧ (finishGather k s).roster = s.roster ∧ (finishGather k s).line = s.line ∧
      (finishGather k s).rx = s.rx ∧ (finishGather k s).check = s.check ∧ (finishGather k s).cond = s.cond ∧
      (finishGather k s).resp = s.resp := by
  simp [finishGather]

@[simp] theorem checkGather_keeps (k : Nat) :
    (checkGather k s).pending = s.pending ∧ (checkGather k s).control = s.control ∧ (checkGather k s).image = s.image ∧
      (checkGather k s).interval = s.interval ∧ (checkGather k s).table = s.table ∧ (checkGather k s).store = s.store ∧
      (checkGather k s).channels = s.channels ∧ (checkGather k s).roster = s.roster ∧ (checkGather k s).line = s.line ∧
      (checkGather k s).rx = s.rx ∧ (checkGather k s).check = s.check ∧ (checkGather k s).cond = s.cond ∧
      (checkGather k s).resp = s.resp := by
  unfold checkGather
  (repeat' split) <;> simp

@[simp] theorem goToSettling_keeps (k : Nat) :
    (goToSettling k s).pending = s.pending ∧ (goToSettling k s).control = s.control ∧ (goToSettling k s).image = s.image ∧
      (goToSettling k s).interval = s.interval ∧ (goToSettling k s).table = s.table ∧ (goToSettling k s).store = s.store ∧
      (goToSettling k s).channels = s.channels ∧ (goToSettling k s).roster = s.roster ∧ (goToSettling k s).rx = s.rx ∧
      (goToSettling k s).check = s.check ∧ (goToSettling k s).cond = s.cond ∧ (goToSettling k s).resp = s.resp := by
  simp [goToSettling]

@[simp] theorem advanceRing_keeps  :
    (advanceRing s).pending = s.pending ∧ (advanceRing s).control = s.control ∧ (advanceRing s).image = s.image ∧
      (advanceRing s).interval = s.interval ∧ (advanceRing s).table = s.table ∧ (advanceRing s).store = s.store ∧
      (advanceRing s).channels = s.channels ∧ (advanceRing s).roster = s.roster ∧ (advanceRing s).rx = s.rx ∧
      (advanceRing s).check = s.check ∧ (advanceRing s).cond = s.cond ∧ (advanceRing s).resp = s.resp := by
  unfold advanceRing
  (repeat' split) <;> simp

@[simp] theorem setSending_keeps (k : Nat) (p : PoolId) (x : Sending) :
    (setSending k p x s).pending = s.pending ∧ (setSending k p x s).control = s.control ∧
      (setSending k p x s).image = s.image ∧ (setSending k p x s).interval = s.interval ∧
      (setSending k p x s).engine = s.engine ∧ (setSending k p x s).table = s.table ∧
      (setSending k p x s).store = s.store ∧ (setSending k p x s).channels = s.channels ∧
      (setSending k p x s).roster = s.roster ∧ (setSending k p x s).line = s.line ∧ (setSending k p x s).rx = s.rx ∧
      (setSending k p x s).check = s.check ∧ (setSending k p x s).cond = s.cond ∧ (setSending k p x s).resp = s.resp := by
  simp [setSending]

@[simp] theorem offerSummary_keeps (r : Record) (p : PoolId) :
    (offerSummary r s p).pending = s.pending ∧ (offerSummary r s p).control = s.control ∧
      (offerSummary r s p).image = s.image ∧ (offerSummary r s p).interval = s.interval ∧
      (offerSummary r s p).engine = s.engine ∧ (offerSummary r s p).table = s.table ∧
      (offerSummary r s p).store = s.store ∧ (offerSummary r s p).channels = s.channels ∧
      (offerSummary r s p).roster = s.roster ∧ (offerSummary r s p).rx = s.rx ∧ (offerSummary r s p).check = s.check ∧
      (offerSummary r s p).cond = s.cond ∧ (offerSummary r s p).resp = s.resp := by
  unfold offerSummary
  (repeat' split) <;> simp

@[simp] theorem sendRunsOut_keeps (r : Record) :
    (sendRunsOut s r).pending = s.pending ∧ (sendRunsOut s r).control = s.control ∧ (sendRunsOut s r).image = s.image ∧
      (sendRunsOut s r).interval = s.interval ∧ (sendRunsOut s r).engine = s.engine ∧ (sendRunsOut s r).table = s.table ∧
      (sendRunsOut s r).store = s.store ∧ (sendRunsOut s r).channels = s.channels ∧ (sendRunsOut s r).roster = s.roster ∧
      (sendRunsOut s r).rx = s.rx ∧ (sendRunsOut s r).check = s.check ∧ (sendRunsOut s r).cond = s.cond ∧
      (sendRunsOut s r).resp = s.resp := by
  unfold sendRunsOut
  exact ⟨(foldl_keeps State.pending _ (fun t a => by simp) _ _).trans (by simp),
    (foldl_keeps State.control _ (fun t a => by simp) _ _).trans (by simp),
    (foldl_keeps State.image _ (fun t a => by simp) _ _).trans (by simp),
    (foldl_keeps State.interval _ (fun t a => by simp) _ _).trans (by simp),
    (foldl_keeps State.engine _ (fun t a => by simp) _ _).trans (by simp),
    (foldl_keeps State.table _ (fun t a => by simp) _ _).trans (by simp),
    (foldl_keeps State.store _ (fun t a => by simp) _ _).trans (by simp),
    (foldl_keeps State.channels _ (fun t a => by simp) _ _).trans (by simp),
    (foldl_keeps State.roster _ (fun t a => by simp) _ _).trans (by simp),
    (foldl_keeps State.rx _ (fun t a => by simp) _ _).trans (by simp),
    (foldl_keeps State.check _ (fun t a => by simp) _ _).trans (by simp),
    (foldl_keeps State.cond _ (fun t a => by simp) _ _).trans (by simp),
    (foldl_keeps State.resp _ (fun t a => by simp) _ _).trans (by simp)⟩

@[simp] theorem recallPool_keeps (k : Nat) (p : PoolId) :
    (recallPool k s p).pending = s.pending ∧ (recallPool k s p).control = s.control ∧ (recallPool k s p).image = s.image ∧
      (recallPool k s p).interval = s.interval ∧ (recallPool k s p).engine = s.engine ∧
      (recallPool k s p).table = s.table ∧ (recallPool k s p).store = s.store ∧ (recallPool k s p).channels = s.channels ∧
      (recallPool k s p).roster = s.roster ∧ (recallPool k s p).rx = s.rx ∧ (recallPool k s p).check = s.check ∧
      (recallPool k s p).cond = s.cond ∧ (recallPool k s p).resp = s.resp := by
  unfold recallPool
  (repeat' split) <;> simp

@[simp] theorem repeatedSummary_keeps (st : Nat) (e : Entry) (b : SummaryBody) :
    (repeatedSummary st e b s).pending = s.pending ∧ (repeatedSummary st e b s).control = s.control ∧
      (repeatedSummary st e b s).image = s.image ∧ (repeatedSummary st e b s).interval = s.interval ∧
      (repeatedSummary st e b s).engine = s.engine ∧ (repeatedSummary st e b s).table = s.table ∧
      (repeatedSummary st e b s).store = s.store ∧ (repeatedSummary st e b s).roster = s.roster ∧
      (repeatedSummary st e b s).line = s.line ∧ (repeatedSummary st e b s).rx = s.rx ∧
      (repeatedSummary st e b s).check = s.check ∧ (repeatedSummary st e b s).resp = s.resp := by
  unfold repeatedSummary
  (repeat' split) <;> simp

@[simp] theorem newSummary_keeps (st : Nat) (r : Record) (b : SummaryBody) :
    (newSummary st r b s).pending = s.pending ∧ (newSummary st r b s).control = s.control ∧
      (newSummary st r b s).image = s.image ∧ (newSummary st r b s).interval = s.interval ∧
      (newSummary st r b s).table = s.table ∧ (newSummary st r b s).store = s.store ∧
      (newSummary st r b s).channels = s.channels ∧ (newSummary st r b s).roster = s.roster ∧
      (newSummary st r b s).line = s.line ∧ (newSummary st r b s).rx = s.rx ∧ (newSummary st r b s).check = s.check ∧
      (newSummary st r b s).cond = s.cond ∧ (newSummary st r b s).resp = s.resp := by
  unfold newSummary
  split <;> simp

@[simp] theorem intakeInto_keeps (st : Nat) (b : SummaryBody) (r : Record) :
    (intakeInto st b r s).pending = s.pending ∧ (intakeInto st b r s).control = s.control ∧
      (intakeInto st b r s).image = s.image ∧ (intakeInto st b r s).table = s.table ∧
      (intakeInto st b r s).store = s.store ∧ (intakeInto st b r s).rx = s.rx ∧ (intakeInto st b r s).resp = s.resp := by
  unfold intakeInto
  (repeat' split) <;> simp

@[simp] theorem summaryTooLate_keeps (st : Nat) (b : SummaryBody) :
    (summaryTooLate st b s).pending = s.pending ∧ (summaryTooLate st b s).control = s.control ∧
      (summaryTooLate st b s).image = s.image ∧ (summaryTooLate st b s).engine = s.engine ∧
      (summaryTooLate st b s).table = s.table ∧ (summaryTooLate st b s).store = s.store ∧
      (summaryTooLate st b s).channels = s.channels ∧ (summaryTooLate st b s).rx = s.rx ∧
      (summaryTooLate st b s).resp = s.resp := by
  simp [summaryTooLate]

@[simp] theorem countUnanswered_keeps  :
    (countUnanswered s).pending = s.pending ∧ (countUnanswered s).control = s.control ∧
      (countUnanswered s).image = s.image ∧ (countUnanswered s).interval = s.interval ∧
      (countUnanswered s).engine = s.engine ∧ (countUnanswered s).table = s.table ∧ (countUnanswered s).store = s.store ∧
      (countUnanswered s).channels = s.channels ∧ (countUnanswered s).roster = s.roster ∧
      (countUnanswered s).line = s.line ∧ (countUnanswered s).rx = s.rx ∧ (countUnanswered s).check = s.check ∧
      (countUnanswered s).cond = s.cond ∧ (countUnanswered s).resp = s.resp := by
  simp [countUnanswered]

@[simp] theorem offerResend_keeps (r : Record) (p : PoolId) :
    (offerResend r p s).pending = s.pending ∧ (offerResend r p s).control = s.control ∧
      (offerResend r p s).image = s.image ∧ (offerResend r p s).interval = s.interval ∧
      (offerResend r p s).engine = s.engine ∧ (offerResend r p s).table = s.table ∧ (offerResend r p s).store = s.store ∧
      (offerResend r p s).channels = s.channels ∧ (offerResend r p s).roster = s.roster ∧ (offerResend r p s).rx = s.rx ∧
      (offerResend r p s).check = s.check ∧ (offerResend r p s).cond = s.cond ∧ (offerResend r p s).resp = s.resp := by
  unfold offerResend
  split <;> simp

@[simp] theorem answerRecall_keeps (k : Nat) (p : PoolId) :
    (answerRecall k p s).pending = s.pending ∧ (answerRecall k p s).control = s.control ∧
      (answerRecall k p s).image = s.image ∧ (answerRecall k p s).interval = s.interval ∧
      (answerRecall k p s).engine = s.engine ∧ (answerRecall k p s).table = s.table ∧
      (answerRecall k p s).store = s.store ∧ (answerRecall k p s).channels = s.channels ∧
      (answerRecall k p s).roster = s.roster ∧ (answerRecall k p s).rx = s.rx ∧ (answerRecall k p s).check = s.check ∧
      (answerRecall k p s).cond = s.cond ∧ (answerRecall k p s).resp = s.resp := by
  unfold answerRecall
  (repeat' split) <;> simp

@[simp] theorem settleNext_keeps  :
    (settleNext s).pending = s.pending ∧ (settleNext s).control = s.control ∧ (settleNext s).image = s.image ∧
      (settleNext s).interval = s.interval ∧ (settleNext s).table = s.table ∧ (settleNext s).store = s.store ∧
      (settleNext s).channels = s.channels ∧ (settleNext s).roster = s.roster ∧ (settleNext s).rx = s.rx ∧
      (settleNext s).check = s.check ∧ (settleNext s).cond = s.cond ∧ (settleNext s).resp = s.resp := by
  unfold settleNext
  (repeat' split) <;> simp

@[simp] theorem beginDrain_keeps  :
    (beginDrain s).pending = s.pending ∧ (beginDrain s).control = s.control ∧ (beginDrain s).image = s.image ∧
      (beginDrain s).interval = s.interval ∧ (beginDrain s).table = s.table ∧ (beginDrain s).store = s.store ∧
      (beginDrain s).channels = s.channels ∧ (beginDrain s).roster = s.roster ∧ (beginDrain s).check = s.check ∧
      (beginDrain s).cond = s.cond ∧ (beginDrain s).resp = s.resp := by
  simp [beginDrain]

end Sys2Proof.Machine
end

