-- ==== Sys2Proof/Laws/Interval.lean ====
section
/-! SUPPORT. Which blocks of the state each operation of the interval unit leaves as they were. -/

namespace Sys2Proof.Machine

variable (s : State)

@[simp] theorem onIntervalCounters_keeps (f : IntervalCounters → IntervalCounters) :
    (onIntervalCounters f s).pending = s.pending ∧ (onIntervalCounters f s).control = s.control ∧
      (onIntervalCounters f s).image = s.image ∧ (onIntervalCounters f s).ring = s.ring ∧
      (onIntervalCounters f s).engine = s.engine ∧ (onIntervalCounters f s).table = s.table ∧
      (onIntervalCounters f s).store = s.store ∧ (onIntervalCounters f s).channels = s.channels ∧
      (onIntervalCounters f s).roster = s.roster ∧ (onIntervalCounters f s).line = s.line ∧
      (onIntervalCounters f s).rx = s.rx ∧ (onIntervalCounters f s).check = s.check ∧
      (onIntervalCounters f s).cond = s.cond ∧ (onIntervalCounters f s).resp = s.resp := by
  simp [onIntervalCounters]

@[simp] theorem countNumberLimit_keeps  :
    (countNumberLimit s).pending = s.pending ∧ (countNumberLimit s).control = s.control ∧
      (countNumberLimit s).image = s.image ∧ (countNumberLimit s).ring = s.ring ∧ (countNumberLimit s).engine = s.engine ∧
      (countNumberLimit s).table = s.table ∧ (countNumberLimit s).store = s.store ∧
      (countNumberLimit s).channels = s.channels ∧ (countNumberLimit s).roster = s.roster ∧
      (countNumberLimit s).line = s.line ∧ (countNumberLimit s).rx = s.rx ∧ (countNumberLimit s).check = s.check ∧
      (countNumberLimit s).cond = s.cond ∧ (countNumberLimit s).resp = s.resp := by
  simp [countNumberLimit]

@[simp] theorem renumberOpen_keeps (c : Nat) :
    (renumberOpen c s).pending = s.pending ∧ (renumberOpen c s).control = s.control ∧ (renumberOpen c s).image = s.image ∧
      (renumberOpen c s).interval = s.interval ∧ (renumberOpen c s).engine = s.engine ∧
      (renumberOpen c s).table = s.table ∧ (renumberOpen c s).store = s.store ∧ (renumberOpen c s).channels = s.channels ∧
      (renumberOpen c s).roster = s.roster ∧ (renumberOpen c s).line = s.line ∧ (renumberOpen c s).rx = s.rx ∧
      (renumberOpen c s).check = s.check ∧ (renumberOpen c s).cond = s.cond ∧ (renumberOpen c s).resp = s.resp := by
  unfold renumberOpen
  split <;> simp

@[simp] theorem closeRecord_keeps (c : Nat) (x : CloseCause) (st : Option Nat) :
    (closeRecord c x st s).pending = s.pending ∧ (closeRecord c x st s).control = s.control ∧
      (closeRecord c x st s).image = s.image ∧ (closeRecord c x st s).interval = s.interval ∧
      (closeRecord c x st s).roster = s.roster ∧ (closeRecord c x st s).line = s.line ∧ (closeRecord c x st s).rx = s.rx ∧
      (closeRecord c x st s).check = s.check ∧ (closeRecord c x st s).cond = s.cond ∧
      (closeRecord c x st s).resp = s.resp := by
  unfold closeRecord
  split <;> simp

@[simp] theorem openNext_keeps (n : Nat) (b : Band) :
    (openNext n b s).pending = s.pending ∧ (openNext n b s).control = s.control ∧ (openNext n b s).image = s.image ∧
      (openNext n b s).table = s.table ∧ (openNext n b s).store = s.store ∧ (openNext n b s).channels = s.channels ∧
      (openNext n b s).roster = s.roster ∧ (openNext n b s).rx = s.rx ∧ (openNext n b s).check = s.check ∧
      (openNext n b s).cond = s.cond ∧ (openNext n b s).resp = s.resp := by
  simp [openNext]

@[simp] theorem announceAtClose_keeps (n : Nat) :
    (announceAtClose n s).pending = s.pending ∧ (announceAtClose n s).control = s.control ∧
      (announceAtClose n s).image = s.image ∧ (announceAtClose n s).interval = s.interval ∧
      (announceAtClose n s).ring = s.ring ∧ (announceAtClose n s).engine = s.engine ∧
      (announceAtClose n s).table = s.table ∧ (announceAtClose n s).store = s.store ∧
      (announceAtClose n s).channels = s.channels ∧ (announceAtClose n s).rx = s.rx ∧
      (announceAtClose n s).check = s.check ∧ (announceAtClose n s).cond = s.cond ∧ (announceAtClose n s).resp = s.resp := by
  unfold announceAtClose
  split <;> simp

@[simp] theorem takeCloseOf_keeps (c : Nat) (x : CloseCause) (st : Option Nat) (b : BandSource) :
    (takeCloseOf c x st b s).pending = s.pending ∧ (takeCloseOf c x st b s).control = s.control ∧
      (takeCloseOf c x st b s).image = s.image ∧ (takeCloseOf c x st b s).check = s.check ∧
      (takeCloseOf c x st b s).resp = s.resp := by
  simp [takeCloseOf]

@[simp] theorem reportJump_keeps (k j : Nat) :
    (reportJump k j s).pending = s.pending ∧ (reportJump k j s).control = s.control ∧ (reportJump k j s).image = s.image ∧
      (reportJump k j s).ring = s.ring ∧ (reportJump k j s).engine = s.engine ∧ (reportJump k j s).table = s.table ∧
      (reportJump k j s).store = s.store ∧ (reportJump k j s).roster = s.roster ∧ (reportJump k j s).line = s.line ∧
      (reportJump k j s).rx = s.rx ∧ (reportJump k j s).check = s.check ∧ (reportJump k j s).resp = s.resp := by
  simp [reportJump]

@[simp] theorem takeRequest_keeps (q : HeldClose) :
    (takeRequest q s).pending = s.pending ∧ (takeRequest q s).control = s.control ∧ (takeRequest q s).image = s.image ∧
      (takeRequest q s).check = s.check ∧ (takeRequest q s).resp = s.resp := by
  unfold takeRequest
  dsimp only
  (repeat' split) <;> simp

@[simp] theorem holdClose_keeps (q : HeldClose) :
    (holdClose q s).pending = s.pending ∧ (holdClose q s).control = s.control ∧ (holdClose q s).image = s.image ∧
      (holdClose q s).ring = s.ring ∧ (holdClose q s).engine = s.engine ∧ (holdClose q s).table = s.table ∧
      (holdClose q s).store = s.store ∧ (holdClose q s).check = s.check ∧ (holdClose q s).resp = s.resp := by
  simp [holdClose]

@[simp] theorem clearDrift_keeps  :
    (clearDrift s).pending = s.pending ∧ (clearDrift s).control = s.control ∧ (clearDrift s).image = s.image ∧
      (clearDrift s).ring = s.ring ∧ (clearDrift s).engine = s.engine ∧ (clearDrift s).table = s.table ∧
      (clearDrift s).store = s.store ∧ (clearDrift s).channels = s.channels ∧ (clearDrift s).roster = s.roster ∧
      (clearDrift s).line = s.line ∧ (clearDrift s).rx = s.rx ∧ (clearDrift s).check = s.check ∧
      (clearDrift s).cond = s.cond ∧ (clearDrift s).resp = s.resp := by
  simp [clearDrift]

@[simp] theorem deviate_keeps (st k : Nat) :
    (deviate st k s).pending = s.pending ∧ (deviate st k s).control = s.control ∧ (deviate st k s).image = s.image ∧
      (deviate st k s).ring = s.ring ∧ (deviate st k s).engine = s.engine ∧ (deviate st k s).table = s.table ∧
      (deviate st k s).store = s.store ∧ (deviate st k s).roster = s.roster ∧ (deviate st k s).line = s.line ∧
      (deviate st k s).rx = s.rx ∧ (deviate st k s).check = s.check ∧ (deviate st k s).resp = s.resp := by
  unfold deviate
  dsimp only
  (repeat' split) <;> simp

@[simp] theorem consultDrift_keeps (st k : Nat) :
    (consultDrift st k s).pending = s.pending ∧ (consultDrift st k s).control = s.control ∧
      (consultDrift st k s).image = s.image ∧ (consultDrift st k s).ring = s.ring ∧
      (consultDrift st k s).engine = s.engine ∧ (consultDrift st k s).table = s.table ∧
      (consultDrift st k s).store = s.store ∧ (consultDrift st k s).roster = s.roster ∧
      (consultDrift st k s).line = s.line ∧ (consultDrift st k s).rx = s.rx ∧ (consultDrift st k s).check = s.check ∧
      (consultDrift st k s).resp = s.resp := by
  unfold consultDrift
  (repeat' split) <;> simp

@[simp] theorem queueOwnClose_keeps (k : Nat) (b : Band) :
    (queueOwnClose k b s).pending = s.pending ∧ (queueOwnClose k b s).control = s.control ∧
      (queueOwnClose k b s).image = s.image ∧ (queueOwnClose k b s).ring = s.ring ∧
      (queueOwnClose k b s).engine = s.engine ∧ (queueOwnClose k b s).table = s.table ∧
      (queueOwnClose k b s).store = s.store ∧ (queueOwnClose k b s).channels = s.channels ∧
      (queueOwnClose k b s).roster = s.roster ∧ (queueOwnClose k b s).rx = s.rx ∧ (queueOwnClose k b s).check = s.check ∧
      (queueOwnClose k b s).cond = s.cond ∧ (queueOwnClose k b s).resp = s.resp := by
  unfold queueOwnClose
  split <;> simp

@[simp] theorem ownExpiry_keeps  :
    (ownExpiry s).pending = s.pending ∧ (ownExpiry s).control = s.control ∧ (ownExpiry s).image = s.image ∧
      (ownExpiry s).check = s.check ∧ (ownExpiry s).resp = s.resp := by
  unfold ownExpiry
  dsimp only
  (repeat' split) <;> simp

@[simp] theorem enterMember_keeps (n : Nat) (b : Band) :
    (enterMember n b s).pending = s.pending ∧ (enterMember n b s).control = s.control ∧
      (enterMember n b s).image = s.image ∧ (enterMember n b s).engine = s.engine ∧ (enterMember n b s).table = s.table ∧
      (enterMember n b s).store = s.store ∧ (enterMember n b s).check = s.check ∧ (enterMember n b s).resp = s.resp := by
  simp [enterMember]

@[simp] theorem adopt_keeps (j : Nat) (b : BandSource) :
    (adopt j b s).pending = s.pending ∧ (adopt j b s).control = s.control ∧ (adopt j b s).image = s.image ∧
      (adopt j b s).engine = s.engine ∧ (adopt j b s).table = s.table ∧ (adopt j b s).store = s.store ∧
      (adopt j b s).check = s.check ∧ (adopt j b s).resp = s.resp := by
  unfold adopt
  (repeat' split) <;> simp

@[simp] theorem replaceOpenBand_keeps (b : Band) :
    (replaceOpenBand b s).pending = s.pending ∧ (replaceOpenBand b s).control = s.control ∧
      (replaceOpenBand b s).image = s.image ∧ (replaceOpenBand b s).interval = s.interval ∧
      (replaceOpenBand b s).engine = s.engine ∧ (replaceOpenBand b s).table = s.table ∧
      (replaceOpenBand b s).store = s.store ∧ (replaceOpenBand b s).channels = s.channels ∧
      (replaceOpenBand b s).roster = s.roster ∧ (replaceOpenBand b s).line = s.line ∧ (replaceOpenBand b s).rx = s.rx ∧
      (replaceOpenBand b s).check = s.check ∧ (replaceOpenBand b s).cond = s.cond ∧ (replaceOpenBand b s).resp = s.resp := by
  simp [replaceOpenBand]

@[simp] theorem frameClose_keeps (q : HeldClose) :
    (frameClose q s).pending = s.pending ∧ (frameClose q s).control = s.control ∧ (frameClose q s).image = s.image ∧
      (frameClose q s).check = s.check ∧ (frameClose q s).resp = s.resp := by
  simp [frameClose]

@[simp] theorem foreignClose_keeps (j : Nat) (b : Band) (st : Nat) :
    (foreignClose j b st s).pending = s.pending ∧ (foreignClose j b st s).control = s.control ∧
      (foreignClose j b st s).image = s.image ∧ (foreignClose j b st s).check = s.check ∧
      (foreignClose j b st s).resp = s.resp := by
  unfold foreignClose
  dsimp only
  (repeat' split) <;> simp

@[simp] theorem intake_keeps (st : Nat) (b : SummaryBody) :
    (intake st b s).pending = s.pending ∧ (intake st b s).control = s.control ∧ (intake st b s).image = s.image ∧
      (intake st b s).table = s.table ∧ (intake st b s).store = s.store ∧ (intake st b s).resp = s.resp := by
  unfold intake
  split <;> simp

@[simp] theorem implicitClose_keeps (st : Nat) (b : SummaryBody) :
    (implicitClose st b s).pending = s.pending ∧ (implicitClose st b s).control = s.control ∧
      (implicitClose st b s).image = s.image ∧ (implicitClose st b s).resp = s.resp := by
  unfold implicitClose
  (repeat' split) <;> simp

@[simp] theorem summaryJump_keeps (st : Nat) (b : SummaryBody) :
    (summaryJump st b s).pending = s.pending ∧ (summaryJump st b s).control = s.control ∧
      (summaryJump st b s).image = s.image ∧ (summaryJump st b s).resp = s.resp := by
  unfold summaryJump
  (repeat' split) <;> simp

@[simp] theorem placeSummary_keeps (st : Nat) (b : SummaryBody) :
    (placeSummary st b s).pending = s.pending ∧ (placeSummary st b s).control = s.control ∧
      (placeSummary st b s).image = s.image ∧ (placeSummary st b s).resp = s.resp := by
  unfold placeSummary
  (repeat' split) <;> simp

@[simp] theorem startPeriod_keeps  :
    (startPeriod s).pending = s.pending ∧ (startPeriod s).control = s.control ∧ (startPeriod s).image = s.image ∧
      (startPeriod s).interval = s.interval ∧ (startPeriod s).ring = s.ring ∧ (startPeriod s).engine = s.engine ∧
      (startPeriod s).table = s.table ∧ (startPeriod s).store = s.store ∧ (startPeriod s).channels = s.channels ∧
      (startPeriod s).line = s.line ∧ (startPeriod s).rx = s.rx ∧ (startPeriod s).check = s.check ∧
      (startPeriod s).cond = s.cond ∧ (startPeriod s).resp = s.resp := by
  simp [startPeriod]

@[simp] theorem endDrain_keeps  :
    (endDrain s).pending = s.pending ∧ (endDrain s).control = s.control ∧ (endDrain s).image = s.image ∧
      (endDrain s).engine = s.engine ∧ (endDrain s).table = s.table ∧ (endDrain s).store = s.store ∧
      (endDrain s).channels = s.channels ∧ (endDrain s).line = s.line ∧ (endDrain s).check = s.check ∧
      (endDrain s).cond = s.cond ∧ (endDrain s).resp = s.resp := by
  simp [endDrain]

end Sys2Proof.Machine
end

