-- ==== Sys2Proof/Laws/Line.lean ====
section
/-! SUPPORT. Which blocks of the state each operation of the line, the producers and the responder leaves as they were. -/

namespace Sys2Proof.Machine

variable (s : State)

@[simp] theorem setMonitor_keeps (m : Monitor) (a b : Nat) :
    (setMonitor m a b s).pending = s.pending ∧ (setMonitor m a b s).control = s.control ∧
      (setMonitor m a b s).image = s.image ∧ (setMonitor m a b s).interval = s.interval ∧
      (setMonitor m a b s).ring = s.ring ∧ (setMonitor m a b s).engine = s.engine ∧ (setMonitor m a b s).table = s.table ∧
      (setMonitor m a b s).store = s.store ∧ (setMonitor m a b s).channels = s.channels ∧
      (setMonitor m a b s).roster = s.roster ∧ (setMonitor m a b s).rx = s.rx ∧ (setMonitor m a b s).check = s.check ∧
      (setMonitor m a b s).cond = s.cond ∧ (setMonitor m a b s).resp = s.resp := by
  simp [setMonitor]

@[simp] theorem enterStuck_keeps  :
    (enterStuck s).pending = s.pending ∧ (enterStuck s).control = s.control ∧ (enterStuck s).image = s.image ∧
      (enterStuck s).engine = s.engine ∧ (enterStuck s).table = s.table ∧ (enterStuck s).store = s.store ∧
      (enterStuck s).channels = s.channels ∧ (enterStuck s).rx = s.rx ∧ (enterStuck s).check = s.check ∧
      (enterStuck s).resp = s.resp := by
  unfold enterStuck
  dsimp only
  (repeat' split) <;> simp

@[simp] theorem startFrame_keeps  :
    (startFrame s).pending = s.pending ∧ (startFrame s).control = s.control ∧ (startFrame s).image = s.image ∧
      (startFrame s).interval = s.interval ∧ (startFrame s).ring = s.ring ∧ (startFrame s).engine = s.engine ∧
      (startFrame s).table = s.table ∧ (startFrame s).store = s.store ∧ (startFrame s).channels = s.channels ∧
      (startFrame s).roster = s.roster ∧ (startFrame s).rx = s.rx ∧ (startFrame s).check = s.check ∧
      (startFrame s).cond = s.cond ∧ (startFrame s).resp = s.resp := by
  simp [startFrame]

@[simp] theorem loseContention_keeps  :
    (loseContention s).pending = s.pending ∧ (loseContention s).control = s.control ∧ (loseContention s).image = s.image ∧
      (loseContention s).interval = s.interval ∧ (loseContention s).ring = s.ring ∧ (loseContention s).engine = s.engine ∧
      (loseContention s).table = s.table ∧ (loseContention s).store = s.store ∧ (loseContention s).channels = s.channels ∧
      (loseContention s).roster = s.roster ∧ (loseContention s).rx = s.rx ∧ (loseContention s).check = s.check ∧
      (loseContention s).cond = s.cond ∧ (loseContention s).resp = s.resp := by
  simp [loseContention]

@[simp] theorem dropSending_keeps  :
    (dropSending s).pending = s.pending ∧ (dropSending s).control = s.control ∧ (dropSending s).image = s.image ∧
      (dropSending s).interval = s.interval ∧ (dropSending s).ring = s.ring ∧ (dropSending s).engine = s.engine ∧
      (dropSending s).table = s.table ∧ (dropSending s).store = s.store ∧ (dropSending s).channels = s.channels ∧
      (dropSending s).roster = s.roster ∧ (dropSending s).rx = s.rx ∧ (dropSending s).check = s.check ∧
      (dropSending s).cond = s.cond ∧ (dropSending s).resp = s.resp := by
  simp [dropSending]

@[simp] theorem replyEnded_keeps  :
    (replyEnded s).pending = s.pending ∧ (replyEnded s).control = s.control ∧ (replyEnded s).image = s.image ∧
      (replyEnded s).interval = s.interval ∧ (replyEnded s).ring = s.ring ∧ (replyEnded s).engine = s.engine ∧
      (replyEnded s).table = s.table ∧ (replyEnded s).store = s.store ∧ (replyEnded s).channels = s.channels ∧
      (replyEnded s).roster = s.roster ∧ (replyEnded s).line = s.line ∧ (replyEnded s).rx = s.rx ∧
      (replyEnded s).check = s.check ∧ (replyEnded s).cond = s.cond := by
  simp [replyEnded]

@[simp] theorem replyAbandoned_keeps  :
    (replyAbandoned s).pending = s.pending ∧ (replyAbandoned s).control = s.control ∧ (replyAbandoned s).image = s.image ∧
      (replyAbandoned s).interval = s.interval ∧ (replyAbandoned s).ring = s.ring ∧ (replyAbandoned s).engine = s.engine ∧
      (replyAbandoned s).table = s.table ∧ (replyAbandoned s).store = s.store ∧ (replyAbandoned s).channels = s.channels ∧
      (replyAbandoned s).roster = s.roster ∧ (replyAbandoned s).line = s.line ∧ (replyAbandoned s).rx = s.rx ∧
      (replyAbandoned s).check = s.check ∧ (replyAbandoned s).cond = s.cond := by
  simp [replyAbandoned]

@[simp] theorem clearResend_keeps (b : SummaryBody) :
    (clearResend b s).pending = s.pending ∧ (clearResend b s).control = s.control ∧ (clearResend b s).image = s.image ∧
      (clearResend b s).interval = s.interval ∧ (clearResend b s).engine = s.engine ∧ (clearResend b s).table = s.table ∧
      (clearResend b s).store = s.store ∧ (clearResend b s).channels = s.channels ∧ (clearResend b s).roster = s.roster ∧
      (clearResend b s).line = s.line ∧ (clearResend b s).rx = s.rx ∧ (clearResend b s).check = s.check ∧
      (clearResend b s).cond = s.cond ∧ (clearResend b s).resp = s.resp := by
  simp [clearResend]

@[simp] theorem tellEnded_keeps (b : FrameBody) :
    (tellEnded b s).pending = s.pending ∧ (tellEnded b s).control = s.control ∧ (tellEnded b s).image = s.image ∧
      (tellEnded b s).engine = s.engine ∧ (tellEnded b s).table = s.table ∧ (tellEnded b s).store = s.store ∧
      (tellEnded b s).channels = s.channels ∧ (tellEnded b s).line = s.line ∧ (tellEnded b s).rx = s.rx ∧
      (tellEnded b s).check = s.check := by
  unfold tellEnded
  (repeat' split) <;> simp

@[simp] theorem tellAbandoned_keeps (b : FrameBody) :
    (tellAbandoned b s).pending = s.pending ∧ (tellAbandoned b s).control = s.control ∧
      (tellAbandoned b s).image = s.image ∧ (tellAbandoned b s).engine = s.engine ∧ (tellAbandoned b s).table = s.table ∧
      (tellAbandoned b s).store = s.store ∧ (tellAbandoned b s).channels = s.channels ∧
      (tellAbandoned b s).line = s.line ∧ (tellAbandoned b s).rx = s.rx ∧ (tellAbandoned b s).check = s.check := by
  unfold tellAbandoned
  (repeat' split) <;> simp

@[simp] theorem abandonFrame_keeps (b : FrameBody) :
    (abandonFrame b s).pending = s.pending ∧ (abandonFrame b s).control = s.control ∧ (abandonFrame b s).image = s.image ∧
      (abandonFrame b s).engine = s.engine ∧ (abandonFrame b s).table = s.table ∧ (abandonFrame b s).store = s.store ∧
      (abandonFrame b s).rx = s.rx ∧ (abandonFrame b s).check = s.check := by
  unfold abandonFrame
  split <;> simp

@[simp] theorem collide_keeps (f : TxFrame) :
    (collide f s).pending = s.pending ∧ (collide f s).control = s.control ∧ (collide f s).image = s.image ∧
      (collide f s).engine = s.engine ∧ (collide f s).table = s.table ∧ (collide f s).store = s.store ∧
      (collide f s).rx = s.rx ∧ (collide f s).check = s.check := by
  unfold collide
  split <;> simp

@[simp] theorem endFrame_keeps (f : TxFrame) :
    (endFrame f s).pending = s.pending ∧ (endFrame f s).control = s.control ∧ (endFrame f s).image = s.image ∧
      (endFrame f s).engine = s.engine ∧ (endFrame f s).table = s.table ∧ (endFrame f s).store = s.store ∧
      (endFrame f s).channels = s.channels ∧ (endFrame f s).rx = s.rx ∧ (endFrame f s).check = s.check := by
  simp [endFrame]

@[simp] theorem admitOffer_keeps (o : Offer) :
    (admitOffer o s).pending = s.pending ∧ (admitOffer o s).control = s.control ∧ (admitOffer o s).image = s.image ∧
      (admitOffer o s).interval = s.interval ∧ (admitOffer o s).engine = s.engine ∧ (admitOffer o s).table = s.table ∧
      (admitOffer o s).store = s.store ∧ (admitOffer o s).channels = s.channels ∧ (admitOffer o s).rx = s.rx ∧
      (admitOffer o s).check = s.check ∧ (admitOffer o s).cond = s.cond ∧ (admitOffer o s).resp = s.resp := by
  unfold admitOffer
  split <;> simp

@[simp] theorem offerCondition_keeps (c : Condition) (x : Bool) :
    (offerCondition c x s).pending = s.pending ∧ (offerCondition c x s).control = s.control ∧
      (offerCondition c x s).image = s.image ∧ (offerCondition c x s).interval = s.interval ∧
      (offerCondition c x s).ring = s.ring ∧ (offerCondition c x s).engine = s.engine ∧
      (offerCondition c x s).table = s.table ∧ (offerCondition c x s).store = s.store ∧
      (offerCondition c x s).channels = s.channels ∧ (offerCondition c x s).roster = s.roster ∧
      (offerCondition c x s).rx = s.rx ∧ (offerCondition c x s).check = s.check ∧ (offerCondition c x s).resp = s.resp := by
  simp [offerCondition]

@[simp] theorem queueReply_keeps (v : Serving) (p : List Byte) :
    (queueReply v p s).pending = s.pending ∧ (queueReply v p s).control = s.control ∧ (queueReply v p s).image = s.image ∧
      (queueReply v p s).interval = s.interval ∧ (queueReply v p s).ring = s.ring ∧ (queueReply v p s).engine = s.engine ∧
      (queueReply v p s).table = s.table ∧ (queueReply v p s).store = s.store ∧ (queueReply v p s).channels = s.channels ∧
      (queueReply v p s).roster = s.roster ∧ (queueReply v p s).rx = s.rx ∧ (queueReply v p s).check = s.check ∧
      (queueReply v p s).cond = s.cond := by
  simp [queueReply]

@[simp] theorem replyWaits_keeps (v : Serving) :
    (replyWaits v s).pending = s.pending ∧ (replyWaits v s).control = s.control ∧ (replyWaits v s).image = s.image ∧
      (replyWaits v s).interval = s.interval ∧ (replyWaits v s).ring = s.ring ∧ (replyWaits v s).engine = s.engine ∧
      (replyWaits v s).table = s.table ∧ (replyWaits v s).store = s.store ∧ (replyWaits v s).channels = s.channels ∧
      (replyWaits v s).roster = s.roster ∧ (replyWaits v s).rx = s.rx ∧ (replyWaits v s).check = s.check ∧
      (replyWaits v s).cond = s.cond := by
  simp [replyWaits]

@[simp] theorem offerReply_keeps (v : Serving) :
    (offerReply v s).pending = s.pending ∧ (offerReply v s).control = s.control ∧ (offerReply v s).image = s.image ∧
      (offerReply v s).interval = s.interval ∧ (offerReply v s).ring = s.ring ∧ (offerReply v s).engine = s.engine ∧
      (offerReply v s).table = s.table ∧ (offerReply v s).store = s.store ∧ (offerReply v s).channels = s.channels ∧
      (offerReply v s).roster = s.roster ∧ (offerReply v s).rx = s.rx ∧ (offerReply v s).check = s.check ∧
      (offerReply v s).cond = s.cond := by
  unfold offerReply
  (repeat' split) <;> simp

@[simp] theorem ownSource_keeps (f : RxFrame) :
    (ownSource f s).pending = s.pending ∧ (ownSource f s).control = s.control ∧ (ownSource f s).image = s.image ∧
      (ownSource f s).engine = s.engine ∧ (ownSource f s).table = s.table ∧ (ownSource f s).store = s.store ∧
      (ownSource f s).channels = s.channels ∧ (ownSource f s).rx = s.rx ∧ (ownSource f s).check = s.check ∧
      (ownSource f s).resp = s.resp := by
  unfold ownSource
  dsimp only
  (repeat' split) <;> simp

@[simp] theorem handOn_keeps (f : RxFrame) :
    (handOn f s).pending = s.pending ∧ (handOn f s).control = s.control ∧ (handOn f s).image = s.image ∧
      (handOn f s).engine = s.engine ∧ (handOn f s).table = s.table ∧ (handOn f s).store = s.store ∧
      (handOn f s).check = s.check ∧ (handOn f s).resp = s.resp := by
  unfold handOn
  dsimp only
  (repeat' split) <;> simp

@[simp] theorem beginRequest_keeps  :
    (beginRequest s).pending = s.pending ∧ (beginRequest s).control = s.control ∧ (beginRequest s).image = s.image ∧
      (beginRequest s).interval = s.interval ∧ (beginRequest s).ring = s.ring ∧ (beginRequest s).engine = s.engine ∧
      (beginRequest s).table = s.table ∧ (beginRequest s).store = s.store ∧ (beginRequest s).channels = s.channels ∧
      (beginRequest s).roster = s.roster ∧ (beginRequest s).line = s.line ∧ (beginRequest s).check = s.check ∧
      (beginRequest s).cond = s.cond := by
  simp [beginRequest]

@[simp] theorem releaseSlot_keeps (i : AccountId) :
    (releaseSlot i s).pending = s.pending ∧ (releaseSlot i s).control = s.control ∧ (releaseSlot i s).image = s.image ∧
      (releaseSlot i s).interval = s.interval ∧ (releaseSlot i s).ring = s.ring ∧ (releaseSlot i s).engine = s.engine ∧
      (releaseSlot i s).channels = s.channels ∧ (releaseSlot i s).roster = s.roster ∧ (releaseSlot i s).line = s.line ∧
      (releaseSlot i s).rx = s.rx ∧ (releaseSlot i s).check = s.check ∧ (releaseSlot i s).cond = s.cond ∧
      (releaseSlot i s).resp = s.resp := by
  simp [releaseSlot]

@[simp] theorem countAck_keeps  :
    (countAck s).pending = s.pending ∧ (countAck s).control = s.control ∧ (countAck s).image = s.image ∧
      (countAck s).interval = s.interval ∧ (countAck s).ring = s.ring ∧ (countAck s).engine = s.engine ∧
      (countAck s).table = s.table ∧ (countAck s).store = s.store ∧ (countAck s).channels = s.channels ∧
      (countAck s).roster = s.roster ∧ (countAck s).line = s.line ∧ (countAck s).rx = s.rx ∧
      (countAck s).check = s.check ∧ (countAck s).resp = s.resp := by
  simp [countAck]

@[simp] theorem acceptRejoin_keeps  :
    (acceptRejoin s).pending = s.pending ∧ (acceptRejoin s).control = s.control ∧ (acceptRejoin s).image = s.image ∧
      (acceptRejoin s).table = s.table ∧ (acceptRejoin s).store = s.store ∧ (acceptRejoin s).channels = s.channels ∧
      (acceptRejoin s).roster = s.roster ∧ (acceptRejoin s).check = s.check ∧ (acceptRejoin s).resp = s.resp := by
  simp [acceptRejoin]

end Sys2Proof.Machine
end

