-- ==== Sys2Proof/Laws/Lists.lean ====
section
/-! SUPPORT. What the list operations of the node do, once: saturating counts, insertion by station and by kind, the history's entry,
the entry that the roster evicts, and the lines that a copy is cut into. -/

namespace Sys2Proof.Machine

/-! ## Counts -/

/-- Increasing a counter k times, k above 0, adds k and holds the sum at the maximum. -/
theorem bumpBy_succ (k n : Nat) : bumpBy (k + 1) n = min (n + (k + 1)) Config.counterMax := by
  induction k generalizing n with
  | zero => rfl
  | succ k ih => rw [bumpBy, ih, bump]; omega

@[simp] theorem bumpBy_zero (n : Nat) : bumpBy 0 n = n := rfl

@[simp] theorem bumpBy_one (n : Nat) : bumpBy 1 n = bump n := rfl

/-! ## Insertion -/

/-- A new contributor entry stands behind every lower station and before every higher one (R4). -/
theorem insertEntry_between (e : Entry) (lower higher : List Entry) (hl : ∀ z ∈ lower, z.station < e.station)
    (hh : ∀ z ∈ higher, e.station < z.station) : insertEntry e (lower ++ higher) = lower ++ e :: higher := by
  induction lower with
  | nil => cases higher with
    | nil => rfl
    | cons x rest => simp [insertEntry, hh x (by simp)]
  | cons x rest ih =>
    have hx : ¬ e.station < x.station := by have := hl x (by simp); omega
    simp [insertEntry, hx, ih (fun z hz => hl z (by simp [hz]))]

/-- A frame entered in the queue counts once among the frames with a property, and every other frame as before. -/
theorem countP_insertFrame (p : TxFrame → Bool) (f : TxFrame) (q : List TxFrame) :
    (insertFrame f q).countP p = q.countP p + if p f then 1 else 0 := by
  induction q with
  | nil => simp [insertFrame, List.countP_cons]
  | cons g rest ih =>
    unfold insertFrame
    split
    · simp [List.countP_cons]
    · simp only [List.countP_cons, ih]; omega

/-- A frame that enters fills its own class by one and no other. -/
theorem classFill_queued (c : TxClass) (b : FrameBody) (q : List TxFrame) :
    classFill c (queued b q) = classFill c q + if b.txClass = c then 1 else 0 := by
  simp [classFill, queued, countP_insertFrame]

/-! ## The history (R26) -/

/-- The history never grows beyond four entries. -/
theorem pushHistory_length (h : List HistoryEntry) (e : HistoryEntry) : (pushHistory h e).length ≤ 4 := by
  unfold pushHistory
  dsimp only
  split <;> simp only [List.length_append, List.length_drop, List.length_cons, List.length_nil] <;> omega

/-- Each interval number appears at most once, also when a number enters that the history held already (log entry 48). -/
theorem pushHistory_nodup (h : List HistoryEntry) (e : HistoryEntry) (hh : (h.map (·.number)).Nodup) :
    ((pushHistory h e).map (·.number)).Nodup := by
  have hf : ((h.filter (fun x => x.number != e.number)).map (·.number)).Nodup :=
    List.Nodup.sublist (List.Sublist.map _ List.filter_sublist) hh
  have hn : ∀ l : List HistoryEntry, l.Sublist (h.filter (fun x => x.number != e.number)) →
      ((l ++ [e]).map (·.number)).Nodup := by
    intro l hl
    rw [List.map_append, List.nodup_append]
    refine ⟨hf.sublist (hl.map _), by simp, ?_⟩
    intro a ha b hb
    obtain ⟨x, hx, rfl⟩ := List.mem_map.mp ha
    have hx2 := (List.mem_filter.mp (hl.subset hx)).2
    simp only [List.map_cons, List.map_nil, List.mem_singleton] at hb
    subst hb
    simpa using hx2
  unfold pushHistory
  dsimp only
  split
  · exact hn _ (List.drop_sublist _ _)
  · exact hn _ (List.Sublist.refl _)

/-- The entry that joins is the last. -/
@[simp] theorem pushHistory_getLast (h : List HistoryEntry) (e : HistoryEntry) : (pushHistory h e).getLast? = some e := by
  simp [pushHistory]

/-! ## Eviction (R125) -/

/-- An entry that may be evicted: SILENT, with role NODE (R125). -/
def Peer.evictable (e : Peer) : Bool := e.state == .silent && e.role == .node

theorem evictee_foldl (l : List Peer) (b : Peer) (hs : (l.map (·.station)).Pairwise (· < ·))
    (hb : ∀ e ∈ l, b.station < e.station) :
    ∃ x, l.foldl (fun best e => match best with
        | none => some e
        | some b => if b.missed < e.missed then some e else some b) (some b) = some x
      ∧ (x = b ∨ x ∈ l)
      ∧ ∀ e, e = b ∨ e ∈ l → e.missed < x.missed ∨ (e.missed = x.missed ∧ x.station ≤ e.station) := by
  induction l generalizing b with
  | nil =>
    refine ⟨b, rfl, Or.inl rfl, fun e he => Or.inr ?_⟩
    rcases he with rfl | he
    · exact ⟨rfl, le_refl _⟩
    · simp at he
  | cons y rest ih =>
    simp only [List.map_cons, List.pairwise_cons, List.mem_map, forall_exists_index, and_imp, forall_apply_eq_imp_iff₂] at hs
    have hy : b.station < y.station := hb y (by simp)
    simp only [List.foldl_cons]
    split
    · rename_i hlt
      obtain ⟨x, hx, hm, hall⟩ := ih y hs.2 hs.1
      refine ⟨x, hx, ?_, ?_⟩
      · rcases hm with rfl | hm
        · exact Or.inr (by simp)
        · exact Or.inr (by simp [hm])
      · intro e he
        rcases he with rfl | he
        · have := hall y (Or.inl rfl); left; omega
        · rcases List.mem_cons.mp he with rfl | he
          · exact hall e (Or.inl rfl)
          · exact hall e (Or.inr he)
    · rename_i hge
      obtain ⟨x, hx, hm, hall⟩ := ih b hs.2 (fun e he => hb e (by simp [he]))
      refine ⟨x, hx, ?_, ?_⟩
      · rcases hm with rfl | hm
        · exact Or.inl rfl
        · exact Or.inr (by simp [hm])
      · intro e he
        rcases he with rfl | he
        · exact hall e (Or.inl rfl)
        · rcases List.mem_cons.mp he with rfl | he
          · have := hall b (Or.inl rfl); omega
          · exact hall e (Or.inr he)

/-- In an ordered roster the entry evicted is SILENT with role NODE, of the highest missed count and, among these, the lowest
station; none is evicted only where there is none (R125). -/
theorem evictee_spec (es : List Peer) (hs : (es.map (·.station)).Pairwise (· < ·)) :
    (evictee es = none ∧ ∀ e ∈ es, e.evictable = false)
      ∨ ∃ x ∈ es, evictee es = some x ∧ x.evictable = true
        ∧ ∀ e ∈ es, e.evictable = true → e.missed < x.missed ∨ (e.missed = x.missed ∧ x.station ≤ e.station) := by
  have hf : ((es.filter Peer.evictable).map (·.station)).Pairwise (· < ·) :=
    hs.sublist (List.Sublist.map _ List.filter_sublist)
  have he : evictee es = (es.filter Peer.evictable).foldl (fun best e => match best with
      | none => some e
      | some b => if b.missed < e.missed then some e else some b) none := rfl
  cases h : es.filter Peer.evictable with
  | nil =>
    left
    refine ⟨by rw [he, h]; rfl, fun e hm => ?_⟩
    have := List.filter_eq_nil_iff.mp h e hm
    simpa using this
  | cons b rest =>
    right
    rw [h] at hf
    simp only [List.map_cons, List.pairwise_cons, List.mem_map, forall_exists_index, and_imp, forall_apply_eq_imp_iff₂] at hf
    obtain ⟨x, hx, hm, hall⟩ := evictee_foldl rest b hf.2 hf.1
    have hx2 : x ∈ es.filter Peer.evictable := by rw [h]; rcases hm with rfl | hm <;> simp [*]
    refine ⟨x, (List.mem_filter.mp hx2).1, by rw [he, h]; exact hx, (List.mem_filter.mp hx2).2, fun e hmem hev => hall e ?_⟩
    have : e ∈ es.filter Peer.evictable := List.mem_filter.mpr ⟨hmem, hev⟩
    rw [h] at this
    simpa using this

/-! ## The lines of a copy (R219) -/

/-- A list cut into pieces of m: piece n holds the elements from m × n on, at most m of them. -/
theorem pieces_eq {α : Type} (m : Nat) (hm : 0 < m) (fuel : Nat) (l : List α) (hl : l.length ≤ fuel) :
    pieces m fuel l = (List.range ((l.length + (m - 1)) / m)).map (fun n => (l.drop (m * n)).take m) := by
  induction fuel generalizing l with
  | zero =>
    have : l = [] := List.length_eq_zero_iff.mp (by omega)
    subst this
    have : (0 + (m - 1)) / m = 0 := Nat.div_eq_of_lt (by omega)
    simp [pieces]; omega
  | succ fuel ih =>
    cases l with
    | nil =>
      have : (0 + (m - 1)) / m = 0 := Nat.div_eq_of_lt (by omega)
      simp [pieces]; omega
    | cons x rest =>
      rw [pieces, ih _ (by simp only [List.length_drop, List.length_cons] at *; omega)]
      have hq : ((x :: rest).length + (m - 1)) / m = (((x :: rest).drop m).length + (m - 1)) / m + 1 := by
        simp only [List.length_drop, List.length_cons]
        by_cases hc : m ≤ rest.length + 1
        · rw [show rest.length + 1 + (m - 1) = (rest.length + 1 - m + (m - 1)) + m by omega, Nat.add_div_right _ hm]
        · rw [show rest.length + 1 - m = 0 by omega, Nat.div_eq_of_lt (show 0 + (m - 1) < m by omega)]
          exact Nat.div_eq_of_lt_le (by omega) (by omega)
      rw [hq, List.range_succ_eq_map]
      simp only [List.map_cons, List.map_map, Nat.mul_zero, List.drop_zero]
      congr 1
      apply List.map_congr_left
      intro n _
      simp [Function.comp, List.drop_drop, Nat.mul_succ, Nat.add_comm]

/-- A flag's weight in its byte. -/
theorem flagBit_eq (n : Nat) (b : Bool) : flagBit n b = if b then 2 ^ n else 0 := by
  cases b <;> simp [flagBit]

end Sys2Proof.Machine
end

