-- ==== Sys2Proof/Laws/PerInstr.lean ====
section
/-! SUPPORT. Statements made for each command in turn. Bounds: a command is well formed exactly when its operands lie in the spec's
bounds, spelled out in figures (R103, R140, R222). -/

namespace Sys2Proof.Laws

/-- The bounds of a command's operands in figures. -/
def Bounds.limits : Instr → Prop
  | .loadComplete bytes => bytes.length ≤ 339
  | .frameReceived bits => bits.length ≤ 332 ∧ bits.headD true = false
  | .sendTimeExpiry k => 1 ≤ k ∧ k ≤ 4294967295
  | .gatherExpiry k => 1 ≤ k ∧ k ≤ 4294967295
  | _ => True

/-- The check of a command is its bounds. -/
def Bounds.Statement (c : Instr) : Prop := c.wellFormed = true ↔ Bounds.limits c

theorem Bounds.powerOn : Bounds.Statement .powerOn :=
  ⟨fun _ => trivial, fun _ => rfl⟩

theorem Bounds.resetAsserted : Bounds.Statement .resetAsserted :=
  ⟨fun _ => trivial, fun _ => rfl⟩

theorem Bounds.resetTakesEffect : Bounds.Statement .resetTakesEffect :=
  ⟨fun _ => trivial, fun _ => rfl⟩

theorem Bounds.resetReleased : Bounds.Statement .resetReleased :=
  ⟨fun _ => trivial, fun _ => rfl⟩

theorem Bounds.supplyLost : Bounds.Statement .supplyLost :=
  ⟨fun _ => trivial, fun _ => rfl⟩

theorem Bounds.loadComplete (bytes : List Byte) : Bounds.Statement (.loadComplete bytes) :=
  decide_eq_true_iff

theorem Bounds.supplyWarnAsserted : Bounds.Statement .supplyWarnAsserted :=
  ⟨fun _ => trivial, fun _ => rfl⟩

theorem Bounds.supplyWarnDeasserted : Bounds.Statement .supplyWarnDeasserted :=
  ⟨fun _ => trivial, fun _ => rfl⟩

theorem Bounds.pulseInput (ch : ChannelId) : Bounds.Statement (.pulseInput ch) :=
  ⟨fun _ => trivial, fun _ => rfl⟩

theorem Bounds.sample (ch : ChannelId) (supply : Int) (ret : Int) (contact : Contact) : Bounds.Statement (.sample ch supply ret contact) :=
  ⟨fun _ => trivial, fun _ => rfl⟩

theorem Bounds.tamperEdge (ch : ChannelId) : Bounds.Statement (.tamperEdge ch) :=
  ⟨fun _ => trivial, fun _ => rfl⟩

theorem Bounds.lineIdle : Bounds.Statement .lineIdle :=
  ⟨fun _ => trivial, fun _ => rfl⟩

theorem Bounds.lineStuck : Bounds.Statement .lineStuck :=
  ⟨fun _ => trivial, fun _ => rfl⟩

theorem Bounds.frameStart : Bounds.Statement .frameStart :=
  ⟨fun _ => trivial, fun _ => rfl⟩

theorem Bounds.contentionLost : Bounds.Statement .contentionLost :=
  ⟨fun _ => trivial, fun _ => rfl⟩

theorem Bounds.collisionError : Bounds.Statement .collisionError :=
  ⟨fun _ => trivial, fun _ => rfl⟩

theorem Bounds.frameEnded : Bounds.Statement .frameEnded :=
  ⟨fun _ => trivial, fun _ => rfl⟩

theorem Bounds.offerListEntry : Bounds.Statement .offerListEntry :=
  ⟨fun _ => trivial, fun _ => rfl⟩

theorem Bounds.conditionOffer : Bounds.Statement .conditionOffer :=
  ⟨fun _ => trivial, fun _ => rfl⟩

theorem Bounds.replyOffer : Bounds.Statement .replyOffer :=
  ⟨fun _ => trivial, fun _ => rfl⟩

theorem Bounds.frameReceived (bits : List Bool) : Bounds.Statement (.frameReceived bits) := by
  rw [Bounds.Statement, Instr.wellFormed, Bool.and_eq_true, decide_eq_true_iff, beq_iff_eq]
  exact Iff.rfl

theorem Bounds.ownExpiry : Bounds.Statement .ownExpiry :=
  ⟨fun _ => trivial, fun _ => rfl⟩

theorem Bounds.founding : Bounds.Statement .founding :=
  ⟨fun _ => trivial, fun _ => rfl⟩

theorem Bounds.sendTimeExpiry (k : Nat) : Bounds.Statement (.sendTimeExpiry k) :=
  decide_eq_true_iff

theorem Bounds.gatherExpiry (k : Nat) : Bounds.Statement (.gatherExpiry k) :=
  decide_eq_true_iff

theorem Bounds.takeClose : Bounds.Statement .takeClose :=
  ⟨fun _ => trivial, fun _ => rfl⟩

theorem Bounds.takeSummary (cls : SummaryClass) : Bounds.Statement (.takeSummary cls) :=
  ⟨fun _ => trivial, fun _ => rfl⟩

theorem Bounds.takeRecall : Bounds.Statement .takeRecall :=
  ⟨fun _ => trivial, fun _ => rfl⟩

theorem Bounds.takeAnnounce : Bounds.Statement .takeAnnounce :=
  ⟨fun _ => trivial, fun _ => rfl⟩

theorem Bounds.statementQuery : Bounds.Statement .statementQuery :=
  ⟨fun _ => trivial, fun _ => rfl⟩

theorem Bounds.closingQuery : Bounds.Statement .closingQuery :=
  ⟨fun _ => trivial, fun _ => rfl⟩

theorem Bounds.poolQuery : Bounds.Statement .poolQuery :=
  ⟨fun _ => trivial, fun _ => rfl⟩

theorem Bounds.rosterQuery : Bounds.Statement .rosterQuery :=
  ⟨fun _ => trivial, fun _ => rfl⟩

theorem Bounds.countersQuery : Bounds.Statement .countersQuery :=
  ⟨fun _ => trivial, fun _ => rfl⟩

theorem Bounds.conditionsQuery : Bounds.Statement .conditionsQuery :=
  ⟨fun _ => trivial, fun _ => rfl⟩

theorem Bounds.checkQuery : Bounds.Statement .checkQuery :=
  ⟨fun _ => trivial, fun _ => rfl⟩

theorem Bounds.cut : Bounds.Statement .cut :=
  ⟨fun _ => trivial, fun _ => rfl⟩

theorem Bounds.release : Bounds.Statement .release :=
  ⟨fun _ => trivial, fun _ => rfl⟩

theorem Bounds.ack : Bounds.Statement .ack :=
  ⟨fun _ => trivial, fun _ => rfl⟩

theorem Bounds.rejoin : Bounds.Statement .rejoin :=
  ⟨fun _ => trivial, fun _ => rfl⟩

theorem Bounds.clearCheck : Bounds.Statement .clearCheck :=
  ⟨fun _ => trivial, fun _ => rfl⟩

theorem Bounds.undefinedRequest : Bounds.Statement .undefinedRequest :=
  ⟨fun _ => trivial, fun _ => rfl⟩

theorem Bounds.computeJobStart : Bounds.Statement .computeJobStart :=
  ⟨fun _ => trivial, fun _ => rfl⟩

theorem Bounds.computeJobComplete : Bounds.Statement .computeJobComplete :=
  ⟨fun _ => trivial, fun _ => rfl⟩

theorem Bounds.settleJobStart : Bounds.Statement .settleJobStart :=
  ⟨fun _ => trivial, fun _ => rfl⟩

theorem Bounds.storeWriteStart : Bounds.Statement .storeWriteStart :=
  ⟨fun _ => trivial, fun _ => rfl⟩

theorem Bounds.storeWriteComplete : Bounds.Statement .storeWriteComplete :=
  ⟨fun _ => trivial, fun _ => rfl⟩

theorem Bounds.settleJobComplete : Bounds.Statement .settleJobComplete :=
  ⟨fun _ => trivial, fun _ => rfl⟩

theorem Bounds.heldCloseTaken : Bounds.Statement .heldCloseTaken :=
  ⟨fun _ => trivial, fun _ => rfl⟩

theorem Bounds.drainSettleNext : Bounds.Statement .drainSettleNext :=
  ⟨fun _ => trivial, fun _ => rfl⟩

theorem Bounds.drainEnd : Bounds.Statement .drainEnd :=
  ⟨fun _ => trivial, fun _ => rfl⟩

theorem Bounds.startBit : Bounds.Statement .startBit :=
  ⟨fun _ => trivial, fun _ => rfl⟩

theorem Bounds.receptionError (e : MidFrameError) : Bounds.Statement (.receptionError e) :=
  ⟨fun _ => trivial, fun _ => rfl⟩

end Sys2Proof.Laws
end

