-- ==== Sys2Proof/Tests/Slice0.lean ====
section
/-! SUPPORT. Small tests: one step on small states, the WellFormed smoke tests, worked examples of the spec, and for every statement
with hypotheses a state and operands that meet them. -/

namespace Sys2Proof.Tests

-- The tests are checked one after the other: together they would ask for more threads than the check's memory bound allows.
set_option Elab.async false

open Sys2Proof Sys2Proof.Machine

/-! ## Sample states -/

/-- A node with station 5 and pool 0 alone: a consumer, a plant and a supply channel, two accounts that take part. -/
def image : Image where
  station := 5
  mask := 1#4
  cutEnable := true
  checkMask := 0#4
  codeL := 0
  codeG := 1
  codeS := 1
  codeA := 2
  codeR := 0
  founding := 100
  pools := Four.fill ⟨.heat, 30, 1000, 1000⟩
  schedule := [⟨0, 1⟩]
  channels := Table.ofFn (fun ch =>
    if ch = 0 then ⟨.consumer, 0, 0, 10, 50, .pulse, .isClosed, Four.fill 0⟩
    else if ch = 1 then ⟨.plant, 0, 0, 10, 50, .pulse, .isClosed, Four.fill 0⟩
    else if ch = 2 then ⟨.supply, 0, 0, 10, 0, .level, .isClosed, Four.fill 200⟩
    else ⟨.off, 0, 0, 0, 0, .level, .isOpen, Four.fill 0⟩)
  accounts := Table.ofFn (fun i => ⟨i.val + 1, 10, 256, if i.val < 2 then 1#4 else 0#4⟩)

/-- The 337 bytes before the check word of that image. -/
def imageFront : List Byte :=
  beBytes 2 0x4E36 ++ [1#8, 5#8, 1#8, 1#8, 0#8, 0#8, 1#8, 1#8, 2#8, 0#8] ++ beBytes 4 100
    ++ (List.replicate 4 (beBytes 1 0 ++ beBytes 1 30 ++ beBytes 2 1000 ++ beBytes 2 1000)).flatten
    ++ [1#8] ++ (beBytes 2 0 ++ beBytes 1 1) ++ List.replicate 21 0#8
    ++ (beBytes 1 1 ++ beBytes 2 0 ++ beBytes 2 10 ++ beBytes 2 50 ++ beBytes 1 3 ++ List.replicate 12 0#8)
    ++ (beBytes 1 2 ++ beBytes 2 0 ++ beBytes 2 10 ++ beBytes 2 50 ++ beBytes 1 3 ++ List.replicate 12 0#8)
    ++ (beBytes 1 3 ++ beBytes 2 0 ++ beBytes 2 10 ++ beBytes 2 0 ++ beBytes 1 2 ++ (List.replicate 4 (beBytes 3 200)).flatten)
    ++ List.replicate 100 0#8
    ++ (List.range 16).flatMap (fun i => beBytes 2 (i + 1) ++ beBytes 2 10 ++ beBytes 2 256 ++ beBytes 1 (if i < 2 then 1 else 0))

/-- The image's 339 bytes. -/
def imageBytes : List Byte := imageFront ++ beBytes 2 (crc16 imageFront).toNat

/-- A node of the given membership state that has loaded the image. -/
def loaded (m : Membership) : State :=
  { State.reset with
    control := { State.reset.control with load := .valid }
    image := image
    interval := { State.reset.interval with membership := m } }

def listening : State := loaded .listening

/-- A MEMBER with interval 10 open and nothing else in the ring. -/
def member : State :=
  { loaded .member with
    interval := { (loaded .member).interval with openNumber := 10, timer := .running 300000 }
    ring := { State.reset.ring with records := [Record.atOpen 10 1 false] } }

def observer : State := { member with interval := { member.interval with membership := .observer } }

/-- A roster entry that has announced nothing. -/
def peer (station : Nat) (role : Role) (state : PeerState) : Peer := ⟨station, role, 1#4, .unknown, state, 0, 0, 0, 10, none, none⟩

/-- The state with these roster entries. -/
def withPeers (es : List Peer) (s : State) : State := { s with roster := { s.roster with entries := es } }

/-- The state with this transmit queue. -/
def withQueue (q : List TxFrame) (s : State) : State := { s with line := { s.line with queue := q } }

/-- The state with the monitor in this state. -/
def withMonitor (m : Monitor) (s : State) : State := { s with line := { s.line with monitor := m } }

/-- The state with one frame in the receive pool. -/
def withFrame (e : RxEntry) (s : State) : State := { s with rx := { s.rx with entries := [e] } }

/-- The state with these records in the ring. -/
def withRecords (rs : List Record) (s : State) : State := { s with ring := { s.ring with records := rs } }

/-- The state with a request of payload p from reader station 3 at the head of SERVICE. -/
def asking (p : List Byte) (s : State) : State :=
  withPeers [peer 3 .reader .active] (withFrame ⟨⟨3, .request p⟩, .service, 1, false⟩ s)

/-- The record of interval n in the given state, closed by the node itself. -/
def closed (n : Nat) (st : RecordState) : Record :=
  { member.closedRecord .own none (Record.atOpen n 1 false) with state := st }

/-- A full PEER class. -/
def fullPeer : List TxFrame := List.replicate 8 ⟨.recall 1 0 0#64, 0, false⟩

/-- A SUMMARY of interval n with some values. -/
def summary (n : Nat) : SummaryBody := ⟨n, 0, ⟨1, 2, 3, 4, 5⟩, false, false, false, some 7#32⟩

/-! ## WellFormed: each check refuses an ill-formed term -/

theorem test_tooManyImageBytes : Instr.wellFormed (.loadComplete (List.replicate 340 0#8)) = false := by decide +kernel

theorem test_imageBytesInBounds : Instr.wellFormed (.loadComplete (List.replicate 339 0#8)) = true := by decide +kernel

theorem test_frameTooLong : Instr.wellFormed (.frameReceived (false :: List.replicate 332 true)) = false := by decide +kernel

theorem test_frameWithoutStartBit : Instr.wellFormed (.frameReceived [true]) = false := by decide

theorem test_sendTimeOfNoRecord : Instr.wellFormed (.sendTimeExpiry 0) = false := by decide

theorem test_gatherBeyondTheNumbers : Instr.wellFormed (.gatherExpiry 4294967296) = false := by decide

/-! ## The image and the checks -/

set_option maxRecDepth 100000 in
theorem test_sampleImageIsValid : firstFailed imageBytes = none := by decide +kernel

set_option maxRecDepth 100000 in
theorem test_sampleImageParses : parseImage imageBytes = image := by decide +kernel

/-- Both cyclic checks on the nine digits. -/
theorem test_crcOfDigits :
    crc16 [0x31#8, 0x32#8, 0x33#8, 0x34#8, 0x35#8, 0x36#8, 0x37#8, 0x38#8, 0x39#8] = 0xAEE7#16
      ∧ crc32 [0x31#8, 0x32#8, 0x33#8, 0x34#8, 0x35#8, 0x36#8, 0x37#8, 0x38#8, 0x39#8] = 0xFC891918#32 := by decide +kernel

/-! ## Steps and invariants -/

theorem witness_front : ({ State.reset with pending := [.powerOn] } : State).pending = .powerOn :: [] := rfl

theorem witness_idle :
    (member.pending = [] ∧ member.control.power = .running)
      ∧ ({ member with control := { member.control with power := .off } } : State).control.power ≠ .running := by decide

theorem witness_frames :
    (FrameBody.close 4294967295 3).wf ∧ (FrameBody.condition (List.replicate 9 255#8)).wf
      ∧ (FrameBody.recall 0 3 (BitVec.allOnes 64)).wf
      ∧ (FrameBody.summary ⟨4294967295, 3, ⟨4294967295, 1099511627775, 4294967295, 4294967295, 16777215⟩, true, true, true, none⟩).wf
      ∧ (FrameBody.announce .reader none 15#4 0#32 0 (some ⟨.running 5, none⟩)).wf ∧ (FrameBody.request (List.replicate 6 0#8)).wf
      ∧ (FrameBody.reply (List.replicate 32 255#8)).wf := by
  simp [FrameBody.wf, Totals.inRange, maxInterval, Config.energyMax, Config.costMax, Config.areaMax]

theorem witness_ringOrdered : member.ringOrdered := by
  refine ⟨by decide, by decide, by decide, fun _ => ⟨[], Record.atOpen 10 1 false, rfl, rfl, rfl, by simp⟩, fun h => absurd ?_ h, ?_⟩
  · exact Or.inl rfl
  · intro h hh
    simp [member, loaded, State.reset, State.afterReset] at hh

theorem witness_bounded :
    member.queueBounded ∧ member.poolBounded ∧ member.noticesBounded ∧ member.historyBounded ∧ member.rosterOrdered := by
  refine ⟨fun c => by cases c <;> decide, Nat.zero_le 40, Nat.zero_le 8, Nat.zero_le 4, ⟨Nat.zero_le 32, List.Pairwise.nil⟩⟩

/-! ## Control lines and start -/

/-- The node in STARTING with these store contents. -/
def starting (c : StoreContents) : State := { State.reset with store := { State.reset.store with contents := c } }

/-- A store write of the node record. -/
def nodeWrite (awaited : Bool) : StoreRequest := ⟨.node 9, awaited⟩

/-- The state with a write in progress and requests that wait. -/
def withStore (w : Option StoreRequest) (q : List StoreRequest) (s : State) : State :=
  { s with store := { s.store with writing := w, queue := q } }

theorem witness_resets :
    (member.control.power ≠ .off ∧ member.store.writing = none)
      ∧ (withStore (some (nodeWrite false)) [] member).store.writing = some (nodeWrite false)
      ∧ ({ member with control := { member.control with power := .off } } : State).control.power = .off
      ∧ ({ member with control := { member.control with resetLatched := true } } : State).control.resetLatched = true := by decide

set_option maxRecDepth 100000 in
theorem witness_load :
    (State.reset.control.power = .running ∧ State.reset.interval.membership = .starting ∧ State.reset.control.load = .reading)
      ∧ firstFailed imageBytes = none ∧ firstFailed [] = some 1 ∧ State.reset.cond.record = none := by decide +kernel

/-- Store contents with this many fresh accounts, and with damaged records 2, 17 and 40. -/
def freshContents (n : Nat) : StoreContents :=
  { StoreContents.blank with accounts := Table.ofFn (fun i => .valid ⟨if i.val < n then 99 else i.val + 1, 1, .occupied, Settled.zero⟩) }
def damagedContents : StoreContents :=
  ⟨Table.ofFn (fun i => if i.val = 2 then .damaged else .blank), Table.ofFn (fun i => if i.val = 1 then .damaged else .blank),
    Table.fill 8 .blank, .damaged⟩

theorem witness_loadNotices :
    (∀ n ∈ [0, 7], (starting (freshContents n)).cond.notices.length + 1 + (allAccounts.filter (fun i =>
        match (freshContents n).accounts.get i with
        | .valid r => r.unit != (image.accounts.get i).unit
        | .blank => true
        | .damaged => false)).length ≤ 8)
      ∧ (starting (freshContents 0)).store.contents.damagedRecords = []
      ∧ ((starting damagedContents).store.contents.damagedRecords = 2 :: [17, 40] ∧ (starting damagedContents).cond.record = none) := by
  decide

/-- A statement of unit 1. -/
def statement (final : Bool) : Statement := ⟨1, 1, .occupied, .vacant, 9, final, false, Settled.zero⟩

/-- The retained record of an account of this unit. -/
def accountRecord (unit : Nat) : AccountRecord := ⟨unit, 3, .vacant, ⟨8, Figures.zero⟩⟩

/-- Store contents with one account and one statement record. -/
def contents (a : Cell AccountRecord) (st : Cell (Option Statement)) : StoreContents :=
  { StoreContents.blank with accounts := StoreContents.blank.accounts.set 0 a, statements := StoreContents.blank.statements.set 0 st }

theorem witness_restore :
    ((starting (contents (.valid (accountRecord 1)) .blank)).store.contents.accounts.get 0 = .valid (accountRecord 1)
        ∧ (accountRecord 1).unit = (image.accounts.get 0).unit ∧ (accountRecord 2).unit ≠ (image.accounts.get 0).unit)
      ∧ (starting (contents .blank .blank)).store.contents.statements.get 0 = .blank
      ∧ (starting (contents .damaged .blank)).store.contents.accounts.get 0 = .damaged
      ∧ (starting (contents .blank (.valid (some (statement false))))).store.contents.statements.get 0
          = .valid (some (statement false))
      ∧ (starting (contents .blank .damaged)).store.contents.statements.get 0 = .damaged := by decide

/-- An account record beside a statement of tenancy 1: of the tenancy after it, of the same tenancy (an interrupted cut), and of
another unit (fresh). -/
theorem witness_restoreBesideStatement :
    (let c (tenancy unit : Nat) := contents (.valid { accountRecord unit with tenancy := tenancy }) (.valid (some (statement false)));
      (∀ n ∈ [1, 2], (c n 1).accounts.get 0 = .valid { accountRecord 1 with tenancy := n } ∧ (accountRecord 1).unit = 1)
        ∧ (statement false).tenancy < 2 ∧ 1 ≤ (statement false).tenancy
        ∧ ((c 1 2).accounts.get 0 = .valid { accountRecord 2 with tenancy := 1 } ∧ (accountRecord 2).unit ≠ 1)
        ∧ (c 1 1).statements.get 0 = .valid (some (statement false)) ∧ (statement false).final = false
        ∧ (starting (c 1 1)).store.queue = []) := by decide

/-- A SETTLE job in flight for interval 8. -/
def settleJob (waiting : Option SettleWrite) (heldByWarning : Bool) : SettleJob :=
  ⟨8, Four.fill 0#32, [], [], waiting, false, heldByWarning⟩

/-- The state with a job in flight. -/
def withFlight (f : Flight) (s : State) : State := { s with engine := { s.engine with flight := some f } }

/-- The state with SUPPLY-WARN asserted. -/
def warned (s : State) : State := { s with control := { s.control with supplyWarn := true } }

theorem witness_warning :
    (member.control.supplyWarn = false ∧ member.control.power = .running)
      ∧ ({ member with control := { member.control with power := .off } } : State).control.power ≠ .running
      ∧ (warned member).control.supplyWarn = true
      ∧ (withFlight (.settle (settleJob (some .node) true)) (warned member)).engine.flight
          = some (.settle (settleJob (some .node) true))
      ∧ (settleJob (some .node) true).heldByWarning = true ∧ (settleJob (some .node) true).waiting = some .node
      ∧ (settleJob none false).heldByWarning = false := by decide

/-! ## Meter channels -/

/-- The state with channel 0 changed. -/
def withChannel (f : Channel → Channel) (s : State) : State := s.onChannel 0 f

/-- Eight notices, the oldest a METER_IMBALANCE. -/
def eightNotices : List Condition :=
  (List.range 8).map (fun n => ⟨n + 1, .meterImbalance, 0, 9, .unsent⟩)

/-- The state with these notices. -/
def withNotices (l : List Condition) (s : State) : State := { s with cond := { s.cond with notices := l } }

/-- The state with this fault record. -/
def withRecord (r : FaultRecord) (s : State) : State := { s with cond := { s.cond with record := some r } }

theorem witness_pulse :
    member.live = true ∧ (member.image.channels.get 0).kind ≠ .off ∧ (member.image.channels.get 7).kind = .off := by decide

theorem witness_tamper :
    (member.image.channels.get 0).tamper = .pulse
      ∧ ((withChannel (fun c => { c with latch := true }) member).channels.get 0).latch = true
      ∧ ((member.channels.get 0).latch = false ∧ member.cond.notices.length < 8)
      ∧ ((withNotices eightNotices member).cond.notices = ⟨1, .meterImbalance, 0, 9, .unsent⟩ :: eightNotices.tail
          ∧ 8 ≤ (withNotices eightNotices member).cond.notices.length) := by decide

/-- Channel 2 has a LEVEL tamper input; the sample before found it asserted or not. -/
theorem witness_levelTamper :
    (member.image.channels.get 2).kind ≠ .off ∧ (member.image.channels.get 2).tamper = .level
      ∧ Contact.isClosed = (member.image.channels.get 2).asserted ∧ Contact.isOpen ≠ (member.image.channels.get 2).asserted
      ∧ (member.channels.get 2).levelSeen = false
      ∧ ((member.onChannel 2 (fun c => { c with levelSeen := true })).channels.get 2).levelSeen = true := by decide

theorem witness_sample :
    ((withChannel (fun c => { c with sincePulses := 41 }) member).channels.get 0).sincePulses = 41
      ∧ ((withChannel (fun c => { c with sincePulses := 40 }) member).channels.get 0).sincePulses = 40
      ∧ (member.channels.get 0).overrun = false
      ∧ ((withChannel (fun c => { c with overrun := true }) member).channels.get 0).overrun = true := by decide

/-- Channel 0 after this many samples without pulses, in standstill with this many samples to the next read, or neither. -/
def idleFor (n : Nat) (toRead : Option Nat) : Channel :=
  (withChannel (fun c => { c with idle := n, still := toRead.isSome, toRead := toRead, held := 5 }) member).channels.get 0

theorem witness_flow :
    ((idleFor 28 none).idle < 29 ∧ 29 ≤ (idleFor 29 none).idle ∧ (idleFor 29 none).still = false
        ∧ (idleFor 29 none).sincePulses = 0)
      ∧ ((idleFor 30 (some 2)).still = true ∧ (idleFor 30 (some 2)).toRead = some 2 ∧ (idleFor 30 (some 1)).toRead = some 1)
      ∧ (let c := { idleFor 30 (some 1) with sincePulses := 1 }; c.still = true ∧ 0 < c.sincePulses) := by decide

theorem witness_direction :
    (let c := (withChannel (fun c => { c with reversed := true, forwardRun := 28 }) member).channels.get 0;
      c.reversed = true ∧ c.forwardRun < 29 ∧ 29 ≤ ({ c with forwardRun := 29 } : Channel).forwardRun)
      ∧ (let c := (withChannel (fun c => { c with reverseRun := 28 }) member).channels.get 0;
          c.reversed = false ∧ c.reverseRun < 29 ∧ 29 ≤ ({ c with reverseRun := 29 } : Channel).reverseRun)
      ∧ (5000 - 5051 : Int) < -((member.image.channels.get 0).deadBand : Int)
      ∧ (-((member.image.channels.get 0).deadBand : Int) ≤ 5000 - 5050 ∧ (5000 - 4950 : Int) ≤ (member.image.channels.get 0).deadBand)
      ∧ (0 < (idleFor 28 none).held ∧ (idleFor 28 none).idle < 29 ∧ (idleFor 28 none).sincePulses ≤ 40) := by decide

theorem witness_forward :
    (member.image.channels.get 0).kind = .consumer ∧ 0 < (member.image.channels.get 0).weight
      ∧ (let c := (withChannel (fun c => { c with sincePulses := 40 }) member).channels.get 0;
          0 < c.sincePulses ∧ c.sincePulses ≤ 40 ∧ c.still = false ∧ c.sensorFault = false ∧ c.reversed = false)
      ∧ ((-2000 : Int) ≤ 15000 ∧ ((member.image.channels.get 0).deadBand : Int) < 15000 - 14949) := by decide

theorem witness_badRead :
    (let c := (withChannel (fun c => { c with sincePulses := 1, badRun := 1 }) member).channels.get 0;
      c.badRun < 2 ∧ c.energy + (c.forwardRem + (c.sincePulses * 10 + c.held) * 1000 * 1000) / 1000000 ≤ 4294967295)
      ∧ 2 ≤ ((withChannel (fun c => { c with sincePulses := 1, badRun := 2 }) member).channels.get 0).badRun
      ∧ (let c (n : Nat) := (withChannel (fun c => { c with sincePulses := 1, sensorFault := true, goodRun := n }) member).channels.get 0;
          (c 8).sensorFault = true ∧ (c 8).goodRun < 9 ∧ 9 ≤ (c 9).goodRun)
      ∧ ([((-2001 : Int), (15000 : Int)), (-2000, 15001), (-2001, 15001)].map (fun r =>
          (if -2000 ≤ r.1 ∧ r.1 ≤ 15000 then 0 else 1) + (if -2000 ≤ r.2 ∧ r.2 ≤ 15000 then 0 else 2)) = [1, 2, 3]) := by decide

theorem witness_integration :
    (let c : Channel := { Channel.fresh Lifetime.zero with forwardRem := 999999, energy := 4294967294 };
      c.forwardRem < 1000000 ∧ c.energy + (c.forwardRem + ([0, 1] : List Nat).sum) / 1000000 ≤ 4294967295)
      ∧ (let c : Channel := { Channel.fresh Lifetime.zero with reverseRem := 999999, reverse := 4294967294 };
          c.reverseRem < 1000000 ∧ c.reverse + (c.reverseRem + ([0, 1] : List Nat).sum) / 1000000 ≤ 4294967295)
      ∧ (let c : Channel := { Channel.fresh Lifetime.zero with energy := 4294967295 };
          4294967295 < c.energy + (c.forwardRem + 1000000) / 1000000)
      ∧ (let c : Channel := { Channel.fresh Lifetime.zero with reverse := 4294967295 };
          4294967295 < c.reverse + (c.reverseRem + 1000000) / 1000000) := by decide

theorem witness_supplyCost :
    (member.image.channels.get 2).kind = .supply ∧ findRecord 10 member = some (Record.atOpen 10 1 false)
      ∧ (member.image.channels.get 2).prices.get 1 ≤ 1048575 ∧ 1099511627775 < 1048578 * 1048575
      ∧ (member.image.mask.has (member.image.channels.get 2).pool) = true := by decide

/-! ## The share line -/

/-- A frame that waits, and the same frame on the line. -/
def waiting (b : FrameBody) : TxFrame := ⟨b, 3, false⟩
def sending (b : FrameBody) (attempts : Nat) : TxFrame := ⟨b, attempts, true⟩

/-- A fault held with no compound cause. -/
def heldFault : FaultRecord := ⟨⟨1, .lineStuck, 1, 9, .unsent⟩, none, none⟩

theorem witness_monitor :
    member.live = true ∧ member.line.monitor = .gap ∧ (withMonitor .stuck member).line.monitor = .stuck
      ∧ (warned (withQueue [waiting (.close 9 0)] member)).line.queue ≠ [] ∧ (warned member).line.warnCounted = false
      ∧ (withMonitor .idle member).line.monitor = .idle ∧ (member.line.stuckMark = false ∧ member.cond.record = none)
      ∧ ({ member with line := { member.line with stuckMark := true } } : State).line.stuckMark = true := by decide

theorem witness_secondFault :
    (withRecord heldFault member).interval.membership = .member ∧ (withRecord heldFault member).cond.record = some heldFault
      ∧ heldFault.compound = none ∧ member.line.monitor ≠ .stuck := by decide

theorem witness_frameStart :
    (withMonitor .idle (withQueue [waiting (.close 9 0)] member)).line.queue = waiting (.close 9 0) :: []
      ∧ (warned (withQueue [waiting (.close 9 0)] member)).control.supplyWarn = true := by decide

theorem witness_sending :
    (withQueue [waiting (.recall 9 0 0#64), sending (.close 9 0) 2] member).line.queue
        = [waiting (.recall 9 0 0#64)] ++ sending (.close 9 0) 2 :: []
      ∧ (∀ g ∈ [waiting (.recall 9 0 0#64)], g.sending = false) ∧ (sending (.close 9 0) 2).attempts < 3
      ∧ 3 ≤ (sending (.close 9 0) 3).attempts := by decide

/-- The responder with two frames of a reply, this many in the queue. -/
def serving (inQueue : Nat) (cutShort : Bool) : Serving :=
  ⟨3, 0#8, 1#8, 4#8, .done, 0, [[3#8, 0#8, 0#8], [3#8, 0#8, 1#8]], 1, inQueue, cutShort, false⟩

/-- The state with a request in flight. -/
def withServing (v : Serving) (s : State) : State := { s with resp := { s.resp with serving := some v } }

theorem witness_producers :
    (withServing (serving 2 false) member).resp.serving = some (serving 2 false) ∧ 1 < (serving 2 false).inQueue
      ∧ (sending (.condition [1#8]) 3).body = .condition [1#8] ∧ (sending (.summary (summary 9)) 3).body = .summary (summary 9)
      ∧ (sending (.recall 9 0 0#64) 3).body = .recall 9 0 0#64 ∧ (sending (.reply [0#8]) 3).body = .reply [0#8]
      ∧ (sending (.announce .node none 0#4 0#32 0 none) 3).body = .announce .node none 0#4 0#32 0 none
      ∧ ((serving 1 false).inQueue ≤ 1 ∧ (serving 1 true).cutShort = true)
      ∧ (member.cond.notices.length < 8 ∧ 8 ≤ (withNotices eightNotices member).cond.notices.length) := by decide

theorem witness_queueOrder :
    (([waiting (.close 9 0), waiting (.summary (summary 9)), waiting (.reply [0#8])].map
      (fun f => f.body.kind)).Pairwise (· ≤ ·)) := by decide

/-- The state with this offer list. -/
def withOffers (l : List Offer) (s : State) : State := { s with line := { s.line with offers := l } }

theorem witness_offers :
    classFill .peer (withOffers [.announce] member).line.queue < 8
      ∧ (withOffers [.announce] member).line.offers = .announce :: []
      ∧ (withOffers [.summary (summary 9)] member).line.offers = .summary (summary 9) :: [] := by decide

theorem witness_conditionOffer :
    classFill .condition member.line.queue < 2
      ∧ (withRecord heldFault member).cond.record = some heldFault ∧ heldFault.fault.sending = .unsent
      ∧ (withNotices eightNotices member).cond.notices = [] ++ ⟨1, .meterImbalance, 0, 9, .unsent⟩ :: eightNotices.tail
      ∧ (withNotices eightNotices member).cond.record = none
      ∧ (let r : FaultRecord := ⟨⟨1, .lineStuck, 1, 9, .sent⟩, some ⟨2, .disagreement, 1, 9, .unsent⟩, none⟩;
          r.fault.sending ≠ .unsent ∧ r.compound = some ⟨2, .disagreement, 1, 9, .unsent⟩) := by decide

theorem witness_replyOffer :
    (serving 0 false).frames[(serving 0 false).next]? = some [3#8, 0#8, 1#8]
      ∧ classFill .reply (withServing (serving 0 false) member).line.queue < 5
      ∧ 5 ≤ classFill .reply (withQueue (List.replicate 5 (waiting (.reply []))) member).line.queue
      ∧ (serving 0 true).cutShort = true := by decide

/-! ## The receiver and the roster -/

/-- The monitor is in FRAME and nothing is being sent. -/
def receiver : State := withMonitor .frame member

/-- The levels of a frame with this header and payload, its check word off by this much. -/
def raw (kind source : Nat) (payload : List Byte) (off : Nat) : List Bool :=
  (putBits Run.start (false :: bytesBits (checkedBytes kind source payload)
    ++ natBits 16 ((crc16 (checkedBytes kind source payload)).toNat + off))).1 ++ [true, true]

theorem witness_receiveFaults :
    (receiver.live = true ∧ receiver.line.monitor = .frame ∧ ∀ f ∈ receiver.line.queue, f.sending = false)
      ∧ receive (List.replicate 8 false) = .error .badForm ∧ receive (raw 1 7 [] 0) = .error .badLength
      ∧ receive (raw 1 7 (List.replicate 5 0#8) 1) = .error .badCheck ∧ receive (raw 0 7 [] 0) = .error .badKind
      ∧ receive (raw 1 63 (List.replicate 5 0#8) 0) = .error .badSource := by
  refine ⟨by decide, ?_, ?_, ?_, ?_, ?_⟩ <;> decide +kernel

theorem witness_ownNumber :
    receive (lineBits 5 (.close 10 1)) = .ok ⟨5, .close 10 1⟩ ∧ receiver.image.station = 5 ∧ receiver.line.dupMark = false
      ∧ receiver.cond.record = none
      ∧ ({ receiver with line := { receiver.line with dupMark := true } } : State).line.dupMark = true := by decide +kernel

theorem witness_newStation :
    receive (lineBits 7 (.close 10 1)) = .ok ⟨7, .close 10 1⟩ ∧ (7 : Nat) ≠ receiver.image.station
      ∧ (∀ e ∈ (withPeers [peer 3 .reader .active] receiver).roster.entries, e.station ≠ 7)
      ∧ (withPeers [peer 3 .reader .active] receiver).roster.entries.length < 32
      ∧ (receiver.rx.fill .current < 32 ∧ receiver.rx.entries.length < 40 ∧ receiver.rx.fill .current < 16) := by decide +kernel

/-- A receive pool with this many frames of the three classes. -/
def filled (mode : RxMode) (current late service : Nat) : RxPool :=
  { receiver.rx with
    mode := mode
    entries := List.replicate current ⟨⟨7, .close 10 1⟩, .current, 1, false⟩
      ++ List.replicate late ⟨⟨7, .recall 9 0 0#64⟩, .late, 1, false⟩
      ++ List.replicate service ⟨⟨7, .request []⟩, .service, 1, false⟩ }

/-- The conditions of admission at their boundaries: the limit of each class in each mode, a full pool, and the shared entries. -/
theorem witness_admission :
    ((filled .normal 31 2 0).takesFrame .current ∧ ¬ (filled .normal 32 2 0).takesFrame .current)
      ∧ ((filled .normal 0 15 0).takesFrame .late ∧ ¬ (filled .normal 0 16 0).takesFrame .late)
      ∧ ((filled .normal 0 0 7).takesFrame .service ∧ ¬ (filled .normal 0 0 8).takesFrame .service)
      ∧ ((filled .urgent 35 0 0).takesFrame .current ∧ ¬ (filled .urgent 36 0 0).takesFrame .current)
      ∧ ((filled .urgent 0 7 0).takesFrame .late ∧ ¬ (filled .urgent 0 8 0).takesFrame .late)
      ∧ ((filled .urgent 0 0 1).takesFrame .service ∧ ¬ (filled .urgent 0 0 2).takesFrame .service)
      ∧ ¬ (filled .normal 15 15 10).takesFrame .current ∧ ¬ (filled .urgent 30 0 9).takesFrame .current
      ∧ (receiver.rx.hasDropped .current = false ∧ ({ receiver.rx with dropCurrent := true } : RxPool).hasDropped .current = true) := by
  refine ⟨⟨⟨by decide, by decide, .inr (by decide)⟩, fun h => absurd h.2.1 (by decide)⟩,
    ⟨⟨by decide, by decide, .inr (by decide)⟩, fun h => absurd h.2.1 (by decide)⟩,
    ⟨⟨by decide, by decide, .inr (by decide)⟩, fun h => absurd h.2.1 (by decide)⟩,
    ⟨⟨by decide, by decide, .inr (by decide)⟩, fun h => absurd h.2.1 (by decide)⟩,
    ⟨⟨by decide, by decide, .inr (by decide)⟩, fun h => absurd h.2.1 (by decide)⟩,
    ⟨⟨by decide, by decide, by decide⟩, fun h => absurd h.2.1 (by decide)⟩,
    fun h => absurd h.1 (by decide), fun h => absurd h.2.2 (by decide), rfl, rfl⟩

/-- The levels of one frame of each kind that the filter passes, and R163's classes of them. -/
theorem witness_passing :
    receive (lineBits 7 (.announce .reader (some .member) 1#4 0#32 10 none)) = .ok ⟨7, .announce .reader (some .member) 1#4 0#32 10 none⟩
      ∧ receive (lineBits 7 (.request [5#8, 0#8, 1#8])) = .ok ⟨7, .request [5#8, 0#8, 1#8]⟩
      ∧ receive (lineBits 7 (.recall 9 0 0#64)) = .ok ⟨7, .recall 9 0 0#64⟩
      ∧ receive (lineBits 7 (.summary (summary 9))) = .ok ⟨7, .summary (summary 9)⟩
      ∧ receive (lineBits 7 (.condition (List.replicate 9 0#8))) = .ok ⟨7, .condition (List.replicate 9 0#8)⟩
      ∧ (receiver.image.mask.has 0 = true ∧ fieldAt [5#8, 0#8, 1#8] 0 1 = receiver.image.station
          ∧ fieldAt [63#8, 0#8, 1#8] 0 1 = 63 ∧ fieldAt [63#8, 0#8, 1#8] 2 1 = 1)
      ∧ (receiver.arrivalClass (.summary (summary 10)) = .current ∧ receiver.arrivalClass (.summary (summary 11)) = .current
          ∧ receiver.arrivalClass (.summary (summary 9)) = .late ∧ listening.arrivalClass (.summary (summary 9)) = .current
          ∧ receiver.arrivalClass (.recall 9 0 0#64) = .late ∧ receiver.arrivalClass (.request []) = .service)
      ∧ (peer 7 .node .silent).state = .silent := by decide +kernel

/-- A full roster whose entry of station 12 is in this state. -/
def fullRoster (st : PeerState) : State :=
  withPeers ((List.range 32).map (fun n => { peer (n + 8) .node (if n = 4 then st else .active) with missed := n })) receiver

theorem witness_eviction :
    (32 ≤ (fullRoster .silent).roster.entries.length ∧ (fullRoster .silent).rosterOrdered)
      ∧ (∃ e ∈ (fullRoster .silent).roster.entries, e.state = .silent ∧ e.role = .node
          ∧ ∀ x ∈ (fullRoster .silent).roster.entries, x.state = .silent → x.missed < e.missed ∨ (x.missed = e.missed ∧ e.station ≤ x.station))
      ∧ (∀ e ∈ (fullRoster .active).roster.entries, e.station ≠ 7 ∧ e.state ≠ .silent)
      ∧ ((fullRoster .active).roster.fullMark = false ∧ (FrameBody.close 10 1).kind ≠ 6) := by
  refine ⟨⟨by decide, ⟨by decide, by decide⟩⟩, by decide, by decide, by decide⟩

/-- An entry that has sent this many frames in the period. -/
def busy (frames : Nat) : Peer := { peer 7 .node .active with frames := frames }

theorem witness_knownStation :
    (withPeers [peer 3 .reader .active, busy 32] receiver).roster.entries = [peer 3 .reader .active] ++ busy 32 :: []
      ∧ (∀ x ∈ [peer 3 .reader .active], x.station ≠ 7)
      ∧ receiver.image.rateLimit < min ((busy 32).frames + 1) 255 ∧ min ((busy 31).frames + 1) 255 ≤ receiver.image.rateLimit
      ∧ receive (lineBits 7 (.condition (List.replicate 9 0#8))) = .ok ⟨7, .condition (List.replicate 9 0#8)⟩
      ∧ (peer 7 .node .quarantined).state = .quarantined
      ∧ receive (lineBits 7 (.recall 9 1 0#64)) = .ok ⟨7, .recall 9 1 0#64⟩ ∧ receiver.image.mask.has 1 = false
      ∧ receive (lineBits 7 (.summary { summary 9 with pool := 1 })) = .ok ⟨7, .summary { summary 9 with pool := 1 }⟩
      ∧ receive (lineBits 7 (.summary (summary 9))) = .ok ⟨7, .summary (summary 9)⟩
      ∧ ({ busy 0 with plan := .mismatch } : Peer).plan = .mismatch ∧ (peer 7 .node .silent).state ≠ .quarantined
      ∧ receive (lineBits 7 (.request [6#8, 0#8, 1#8])) = .ok ⟨7, .request [6#8, 0#8, 1#8]⟩
      ∧ receive (lineBits 7 (.request [63#8, 0#8, 2#8])) = .ok ⟨7, .request [63#8, 0#8, 2#8]⟩ := by decide +kernel

/-- An ANNOUNCE of station 7 at the head of LATE. -/
def announced (d : Digest) : RxEntry := ⟨⟨7, .announce .node (some .member) 1#4 d 10 none⟩, .late, 1, false⟩

theorem witness_announce :
    (withFrame (announced 0#32) member).rxHead .late = some (announced 0#32)
      ∧ (withPeers [busy 0] member).roster.entries = [] ++ busy 0 :: [] ∧ (busy 0).role = .node
      ∧ (0#32 : Digest) = member.roster.planDigest ∧ (1#32 : Digest) ≠ member.roster.planDigest
      ∧ (busy 0).plan ≠ .mismatch ∧ ({ busy 0 with plan := .mismatch } : Peer).plan = .mismatch
      ∧ member.cond.notices.length < 8 := by decide

/-! ## The interval unit -/

/-- The state with this open interval number. -/
def withOpen (n : Nat) (s : State) : State := { s with interval := { s.interval with openNumber := n } }

/-- The state with this close held. -/
def withHeld (h : HeldClose) (s : State) : State := { s with interval := { s.interval with held := some h } }

/-- The state with the rejoin drain under way. -/
def draining (s : State) : State := { s with interval := { s.interval with drain := true } }

/-- A full ring: three closed records below the OPEN one. -/
def fullRing : State :=
  withRecords [closed 7 .settling, closed 8 .provisional, closed 9 .gathering, Record.atOpen 10 1 false] member

/-- A close of interval 12 held for station 7. -/
def heldTwelve : HeldClose := ⟨12, .foreign, some 7, .frame 2⟩

theorem witness_ownExpiryHeld :
    member.following = true ∧ member.interval.timer = .running 300000 ∧ (withOpen 4294967295 member).interval.openNumber = 4294967295
      ∧ (member.interval.openNumber ≠ 4294967295 ∧ 4 ≤ fullRing.ring.records.length ∧ fullRing.interval.held = none)
      ∧ (draining observer).interval.drain = true ∧ (withHeld heldTwelve member).interval.held = some heldTwelve
      ∧ (∀ f ∈ member.line.queue, f.body.kind ≠ 1) := by decide +kernel

/-- The boundaries of R132's table for rate limit 32. -/
theorem witness_evaluate :
    receiver.image.rateLimit = 32 ∧ (32 < (busy 33).frames ∧ (busy 32).frames ≤ 32)
      ∧ (2 ≤ ({ busy 33 with noisy := 2 } : Peer).noisy ∧ ({ busy 33 with noisy := 1 } : Peer).noisy < 2)
      ∧ (32 / 2 < (busy 17).frames ∧ (busy 16).frames ≤ 32 / 2)
      ∧ ({ busy 16 with state := .quarantined } : Peer).state = .quarantined ∧ (busy 33).state ≠ .quarantined
      ∧ (withPeers [{ busy 33 with noisy := 2 }] fullRing).cond.notices.length + 1 ≤ 8 := by decide +kernel

theorem witness_ownExpiry :
    (member.following = true ∧ member.interval.held = none ∧ member.interval.drain = false ∧ member.ring.records.length < 4)
      ∧ member.interval.membership = .member ∧ observer.following = true ∧ observer.interval.membership = .observer
      ∧ member.interval.openNumber ≠ 4294967295
      ∧ (((Record.atOpen 10 1 false).pools.get 0).contributors = [] ++ []
          ∧ ((member.image.accounts.get 0).mask.has 0 && member.image.mask.has 0) = true
          ∧ ((member.image.accounts.get 2).mask.has 0 && member.image.mask.has 0) = false) := by decide

/-- Three records, so that the close makes three that are neither OPEN nor SETTLING, or one is SETTLING. -/
def three (st : RecordState) : State :=
  withRecords [closed 8 st, closed 9 .provisional, Record.atOpen 10 1 false] member

theorem witness_advance :
    (∀ st ∈ [RecordState.gathering, .provisional], (three st).ring.records = [closed 8 st, closed 9 .provisional, Record.atOpen 10 1 false]
        ∧ (closed 8 st).state ≠ .settling ∧ (closed 9 .provisional).state ≠ .settling)
      ∧ (∃ x ∈ [closed 8 .settling, closed 9 .provisional], x.state = .settling)
      ∧ (three .settling).ring.records = [closed 8 .settling, closed 9 .provisional] ++ [Record.atOpen 10 1 false]
      ∧ (member.ring.records = [] ++ [Record.atOpen 10 1 false] ∧ ([] : List Record).length < 2) := by decide +kernel

/-- A CLOSE of station 7 at the head of CURRENT. -/
def closeFrame (j : Nat) : RxEntry := ⟨⟨7, .close j 2⟩, .current, 1, false⟩

/-- A SUMMARY of station 7 in a class. -/
def summaryFrame (n : Nat) (c : RxClass) : RxEntry := ⟨⟨7, .summary (summary n)⟩, c, 1, false⟩

theorem witness_founding :
    (listening.live = true ∧ listening.interval.membership = .listening ∧ listening.ring.records = []
        ∧ listening.roster.announce = .none ∧ classFill .peer listening.line.queue < 8)
      ∧ (∀ e ∈ (withPeers [busy 32] listening).roster.entries, e.frames ≤ listening.image.rateLimit)
      ∧ (∀ j ∈ [0, 1, 4294967294, 4294967295], (withFrame (closeFrame j) listening).rxHead .current = some (closeFrame j))
      ∧ (∀ j ∈ [0, 1, 4294967294, 4294967295],
          (withFrame (summaryFrame j .current) listening).rxHead (rxClassOf .current) = some (summaryFrame j .current)) := by
  decide

theorem witness_closesNothing :
    (withFrame (closeFrame 9) member).rxHead .current = some (closeFrame 9)
      ∧ (withQueue [waiting (.close 9 0)] member).line.queue = [] ++ waiting (.close 9 0) :: []
      ∧ ((sending (.close 9 0) 2).sending = true ∧ (sending (.close 9 0) 2).body = .close 9 0)
      ∧ (9 < member.interval.openNumber ∧ (∀ r ∈ member.ring.records, r.number ≠ 9))
      ∧ (∃ r ∈ fullRing.ring.records, r.number = 9) := by decide +kernel

theorem witness_foreignClose :
    (withFrame (closeFrame 10) member).rxHead .current = some (closeFrame 10) ∧ member.interval.openNumber = 10
      ∧ (withFrame (closeFrame 4294967294) member).rxHead .current = some (closeFrame 4294967294)
      ∧ fullRing.interval.openNumber ≤ 10 ∧ 4 ≤ fullRing.ring.records.length
      ∧ (withHeld heldTwelve member).interval.held = some heldTwelve
      ∧ (∀ f ∈ (withQueue [sending (.close 9 0) 2] member).line.queue, ∀ own, f.body ≠ .close 10 own)
      ∧ (withQueue [sending (.close 9 0) 2] member).line.queue = [] ++ sending (.close 9 0) 2 :: []
      ∧ (sending (.close 9 0) 2).body.kind = 1 ∧ (waiting (.close 9 0)).sending = false := by decide +kernel

theorem witness_fullRingOrdered : fullRing.ringOrdered := by
  refine ⟨by decide +kernel, by decide +kernel, by decide +kernel,
    fun _ => ⟨[closed 7 .settling, closed 8 .provisional, closed 9 .gathering], Record.atOpen 10 1 false, rfl, rfl, rfl, ?_⟩,
    fun h => absurd (Or.inl rfl) h, fun h hh => ?_⟩
  · decide +kernel
  · simp [fullRing, withRecords, member, loaded, State.reset, State.afterReset] at hh

theorem witness_heldRingOrdered : (withHeld heldTwelve member).ringOrdered := by
  refine ⟨by decide, by decide, by decide, fun _ => ⟨[], Record.atOpen 10 1 false, rfl, rfl, rfl, by simp⟩,
    fun h => absurd (Or.inl rfl) h, fun h hh => ?_⟩
  simp only [withHeld, Option.some.injEq] at hh
  subst hh
  decide

theorem witness_drift :
    (let s : State := { member with interval := { member.interval with timer := .running 6000 } };
      s.interval.timer = .running 6000 ∧ 6000 * 100 ≤ s.image.lengthMs * 2)
      ∧ member.image.lengthMs * 2 < 6001 * 100
      ∧ (let s : State := { member with interval := { member.interval with driftRun := 2 } };
          s.interval.driftRun = 2 ∧ s.interval.driftMark = false) := by decide

theorem witness_heldClose :
    (withHeld heldTwelve member).interval.openNumber < heldTwelve.interval
      ∧ (withHeld ⟨10, .own, none, .schedule⟩ member).interval.openNumber = 10
      ∧ (withHeld heldTwelve member).ring.records = [] ++ [Record.atOpen 10 1 false] := by decide

theorem witness_drain :
    (draining observer).control.power = .running ∧ (draining observer).interval.drain = true
      ∧ (∀ x ∈ (draining observer).ring.records, x.state = .opened)
      ∧ (let s := withRecords [closed 9 .provisional, Record.atOpen 10 1 false] (draining observer);
          s.ring.records = closed 9 .provisional :: [Record.atOpen 10 1 false] ∧ (closed 9 .provisional).state ≠ .opened
            ∧ ∀ x ∈ s.ring.records, x.state ≠ .settling) := by decide +kernel

/-! ## The interval ring -/

/-- A MEMBER with interval 9 closed and in this state. -/
def withClosed (st : RecordState) (s : State) : State := withRecords [closed 9 st, Record.atOpen 10 1 false] s

theorem witness_sendTime :
    (withClosed .gathering member).following = true ∧ (closed 9 .gathering).number = 9 ∧ (closed 9 .gathering).send ≠ none
      ∧ (withClosed .gathering member).ring.records = [] ++ closed 9 .gathering :: [Record.atOpen 10 1 false]
      ∧ member.image.mask.pools = [0]
      ∧ ((closed 9 .gathering).pools.get 0).own = some ⟨⟨0, 0, 0, 0, 20⟩, false, false⟩
      ∧ ((closed 9 .gathering).pools.get 0).sending = some .waiting
      ∧ classFill .peer member.line.queue < 8 ∧ 8 ≤ classFill .peer (withQueue fullPeer member).line.queue
      ∧ (withClosed .gathering observer).interval.membership = .observer
      ∧ (closed 9 .gathering).send = some 0
      ∧ (PoolMask.pools 15#4 = [0, 1, 2, 3]
          ∧ 8 - classFill .peer (withQueue (List.replicate 6 (waiting (.recall 1 0 0#64))) member).line.queue = 2) := by decide +kernel

/-- Two records with no send time left. -/
theorem witness_twoDue :
    (three .provisional).following = true ∧ ((three .provisional).ring.records.map (fun y => y.number)).Pairwise (· < ·)
      ∧ findRecord 9 (three .provisional) = some (closed 9 .provisional) ∧ (closed 9 .provisional).send = some 0
      ∧ findRecord 8 (three .provisional) = some (closed 8 .provisional) ∧ (closed 8 .provisional).send = some 0
      ∧ (∀ y ∈ (three .provisional).ring.records, ¬ y.number < 8)
      ∧ (∀ x ∈ (withClosed .gathering member).ring.records, ¬ x.number < 9) := by decide +kernel

/-- The closed record of interval 9 with this expected set, not COMPLETE. -/
def gathering (expected : List Nat) : Record :=
  Record.onPool 0 (fun x => { x with expected := expected, complete := false }) (closed 9 .gathering)

theorem witness_gather :
    (withRecords [gathering [7], Record.atOpen 10 1 false] member).ring.records = [] ++ gathering [7] :: [Record.atOpen 10 1 false]
      ∧ (gathering [7]).number = 9 ∧ (gathering [7]).state = .gathering ∧ ((gathering [7]).pools.get 0).complete = false
      ∧ ((closed 9 .gathering).pools.get 0).complete = true
      ∧ (∀ x ∈ [Record.atOpen 10 1 false], x.number ≠ 9 ∧ x.state ≠ .gathering)
      ∧ (∃ x ∈ [closed 8 .gathering, Record.atOpen 10 1 false], x.state = .gathering ∧ x.number ≠ 9)
      ∧ ([0, 1, 2, 3].take (8 - classFill .peer (withQueue (List.replicate 6 (waiting (.recall 1 0 0#64))) member).line.queue)
          = [0, 1]) := by decide +kernel

/-- The state with a SUMMARY of interval n from station 7, whose entry this is, and pool 0 in the cross-check mask. -/
def summaryFrom (n : Nat) (p : Peer) (s : State) : State :=
  withPeers [p] (withFrame (summaryFrame n .current) { s with image := { s.image with checkMask := 1#4 } })

/-- An entry of station 7 with the values of the sample SUMMARY or others. -/
def entry (e : Nat) (conflict : Bool) : Entry := ⟨7, ⟨e, 2, 3, 4, 5⟩, false, false, false, false, conflict⟩

theorem witness_intake :
    (summaryFrom 9 (busy 0) (withClosed .gathering member)).rxHead (rxClassOf .current) = some (summaryFrame 9 .current)
      ∧ (summaryFrom 9 (busy 0) (withClosed .gathering member)).peer 7 = some (busy 0)
      ∧ (summaryFrom 9 (busy 0) (withClosed .gathering member)).image.checkMask.has 0 = true
      ∧ (busy 0).role = .node ∧ (busy 0).state ≠ .quarantined ∧ (busy 0).plan ≠ .mismatch
      ∧ (peer 7 .reader .active).role = .reader
      ∧ ([entry 1 false].find? (fun z => z.station == 7) = some (entry 1 false) ∧ (entry 1 false).values = (summary 9).values)
      ∧ ((entry 0 true).values ≠ (summary 9).values ∧ (entry 0 true).conflict = true ∧ (entry 0 false).conflict = false)
      ∧ (∀ z ∈ ((closed 9 .provisional).pools.get 0).contributors, z.station ≠ 7)
      ∧ (withClosed .gathering member).ring.records = [] ++ closed 9 .gathering :: [Record.atOpen 10 1 false]
      ∧ ((gathering [7]).pools.get 0).contributors = ((gathering [7]).pools.get 0).contributors ++ []
      ∧ (∀ z ∈ ((gathering [7]).pools.get 0).contributors, z.station < 7)
      ∧ (((gathering [7, 8]).pools.get 0).expected.contains 8 = true ∧ ∀ p, image.mask.has p = true → p = 0)
      ∧ (∃ j ∈ [(⟨.compute, 9⟩ : Job)], j.interval = 9 ∧ j.kind ≠ .settle)
      ∧ (∀ j ∈ (withClosed .provisional member).engine.jobs, j.interval ≠ 9 ∨ j.kind = .settle)
      ∧ ((Record.atOpen 10 1 false).state = .opened ∧ (withHeld heldTwelve member).interval.held ≠ none
          ∧ (withHeld heldTwelve member).ring.records = [] ++ Record.atOpen 10 1 false :: []
          ∧ (summaryFrom 10 (busy 0) (withHeld heldTwelve member)).rxHead (rxClassOf .current) = some (summaryFrame 10 .current)
          ∧ (summaryFrom 10 (busy 0) (withHeld heldTwelve member)).peer 7 = some (busy 0)) := by decide +kernel

theorem witness_tooLate :
    findRecord 9 (withClosed .settling member) = some (closed 9 .settling) ∧ (closed 9 .settling).state = .settling
      ∧ (8 < member.interval.openNumber ∧ ∀ r ∈ member.ring.records, r.number ≠ 8) := by decide +kernel

theorem witness_summaryCloses :
    (withFrame (summaryFrame 10 .current) member).rxHead (rxClassOf .current) = some (summaryFrame 10 .current)
      ∧ (withFrame (summaryFrame 4294967294 .current) member).interval.openNumber < 4294967294
      ∧ (withFrame (summaryFrame 11 .current) fullRing).interval.openNumber < 11
      ∧ ((withFrame (summaryFrame 10 .current) fullRing).interval.openNumber = 10
          ∧ (withFrame (summaryFrame 10 .current) fullRing).interval.held = none ∧ 4 ≤ fullRing.ring.records.length)
      ∧ (withFrame (summaryFrame 11 .current) (withHeld heldTwelve member)).interval.held = some heldTwelve
      ∧ (withFrame (summaryFrame 4294967295 .current) member).rxHead (rxClassOf .current) = some (summaryFrame 4294967295 .current)
      ∧ (withQueue [waiting (.close 9 0)] member).line.queue = [] ++ waiting (.close 9 0) :: []
      ∧ (summaryFrame 10 .current).frame.source ≠ member.image.station
      ∧ member.ring.records = [] ++ [Record.atOpen 10 1 false]
      ∧ (∀ y ∈ ((Record.atOpen 10 1 false).pools.get 0).contributors, y.station ≠ 7)
      ∧ (member.check.run < 3 ∧ member.cond.record = none ∧ observer.interval.membership = .observer)
      ∧ (withPeers [peer 7 .node .active] member).peer 7 = some (peer 7 .node .active)
      ∧ (withPeers [peer 7 .reader .active] member).peer 7 = some (peer 7 .reader .active) := by decide +kernel

/-- A RECALL of interval 9 and pool 0 that names these stations. -/
def recallFrame (missing : BitVec 64) : RxEntry := ⟨⟨7, .recall 9 0 missing⟩, .late, 1, false⟩

/-- The closed record of interval 9 with its own summary in this sending state and this many re-sends made. -/
def resent (x : Sending) (n : Nat) : Record :=
  Record.onPool 0 (fun y => { y with sending := some x, resends := n }) (closed 9 .provisional)

theorem witness_recall :
    (withFrame (recallFrame 32#64) member).rxHead .late = some (recallFrame 32#64)
      ∧ (32#64 : BitVec 64).getLsbD member.image.station = true ∧ (0#64 : BitVec 64).getLsbD member.image.station = false
      ∧ observer.interval.membership ≠ .member ∧ (∀ r ∈ member.ring.records, r.number = 9 → r.state = .settling ∨ r.state = .opened)
      ∧ (withRecords [resent .sent 2, Record.atOpen 10 1 false] member).ring.records
          = [] ++ resent .sent 2 :: [Record.atOpen 10 1 false]
      ∧ ((resent .queued 0).pools.get 0).sending = some .queued ∧ ((resent .sent 2).pools.get 0).resends = 2
      ∧ ((resent .sent 1).pools.get 0).resends < 2 ∧ ((resent .sent 1).pools.get 0).resendQueued = false
      ∧ ((resent .sent 1).pools.get 0).own = some ⟨⟨0, 0, 0, 0, 20⟩, false, false⟩ := by decide +kernel

/-! ## Service requests -/

/-- The payloads of a request: to station 5, tag 9. -/
def query (kind sel : Nat) : List Byte := [5#8, 9#8, 1#8] ++ beBytes 1 kind ++ beBytes 2 sel
def cutRequest (sel status : Nat) : List Byte := [5#8, 9#8, 2#8] ++ beBytes 2 sel ++ beBytes 1 status
def releaseRequest (sel : Nat) : List Byte := [5#8, 9#8, 3#8] ++ beBytes 2 sel
def ackRequest (n : Nat) : List Byte := [5#8, 9#8, 4#8] ++ beBytes 1 n

/-- A request waits at the head of SERVICE, from a READER of the roster. -/
theorem witness_asked (p : List Byte) :
    (asking p member).asked ⟨⟨3, .request p⟩, .service, 1, false⟩ p
      ∧ (asking p member).fromReader ⟨⟨3, .request p⟩, .service, 1, false⟩ :=
  ⟨⟨rfl, rfl, rfl, rfl⟩, rfl, peer 3 .reader .active, rfl, rfl⟩

theorem witness_unpermitted :
    (withPeers [] (asking (query 4 0) member)).peer 3 = none
      ∧ (withPeers [peer 3 .node .active] (asking (query 4 0) member)).peer 3 = some (peer 3 .node .active)
      ∧ (peer 3 .node .active).role = .node := by decide

theorem witness_requests :
    parseRequest (query 1 0) = .statement 0 ∧ parseRequest (query 2 15) = .closing 15 ∧ parseRequest (query 3 0) = .pool 0
      ∧ parseRequest (query 4 0) = .roster ∧ parseRequest (query 5 14) = .counters 14 ∧ parseRequest (query 5 15) = .counters 15
      ∧ parseRequest (query 6 0) = .conditions ∧ parseRequest (query 7 0) = .check ∧ parseRequest (query 8 0) = .undefined
      ∧ parseRequest (cutRequest 32769 1) = .cut 32769 1 ∧ parseRequest (releaseRequest 0) = .release 0
      ∧ parseRequest (ackRequest 255) = .ack 255 ∧ parseRequest [5#8, 9#8, 5#8] = .rejoin
      ∧ parseRequest [5#8, 9#8, 6#8] = .clearCheck := by decide

/-- The state with this slot for account 0. -/
def withSlot (x : Option Statement) (s : State) : State := setSlot 0 x s

/-- The state with this account 0. -/
def withAccount (f : Account → Account) (s : State) : State := onAccount 0 f s

theorem witness_queries :
    (accountOf image 16 = none ∧ accountOf image 15 = some 15 ∧ accountOf image 32769 = some 0 ∧ accountOf image 32768 = none)
      ∧ (member.table.slots.get 0 = none ∧ (withSlot (some (statement true)) member).table.slots.get 0 = some (statement true))
      ∧ (member.ring.view = none ∧ image.mask.has 0 = true ∧ image.mask.has 1 = false)
      ∧ (member.sectionLines 14).isSome = true
      ∧ (member.check.capture = none ∧ member.line.queue = []
          ∧ (withQueue [waiting (.close 9 0)] member).line.queue = waiting (.close 9 0) :: []) := by decide

theorem witness_cut :
    (¬ (listening.interval.membership = .member ∨ listening.interval.membership = .observer))
      ∧ ({ member with image := { image with cutEnable := false } } : State).image.cutEnable = false
      ∧ ((withAccount (fun a => { a with pendingCut := some .vacant }) member).table.accounts.get 0).pendingCut ≠ none
      ∧ (withSlot (some (statement true)) member).table.slots.get 0 ≠ none
      ∧ ((withAccount (fun a => { a with tenancy := 65535 }) member).table.accounts.get 0).tenancy = 65535
      ∧ ((member.table.accounts.get 0).tenancy ≠ 65535 ∧ (member.table.accounts.get 0).pendingCut = none) := by decide

/-- A cut and a repair that wait for the node's own close, and a step under way whose figures the cut takes. -/
theorem witness_cutAtClose :
    (∀ damaged ∈ [false, true],
      (let s := withAccount (fun a => { a with pendingCut := some .vacant, damaged := damaged }) member;
        s.following = true ∧ s.interval.timer = .running 300000 ∧ s.interval.held = none ∧ s.ring.records.length < 4
          ∧ (s.table.accounts.get 0).pendingCut = some .vacant ∧ (s.table.accounts.get 0).damaged = damaged))
      ∧ (withFlight (.settle (settleJob (some (.step 0 false Settled.zero)) false)) member).engine.flight
          = some (.settle (settleJob (some (.step 0 false Settled.zero)) false))
      ∧ (settleJob (some (.step 0 false Settled.zero)) false).absorbed = false := by decide

theorem witness_release : (statement false).final = false ∧ (statement true).final = true := by decide

theorem witness_ack :
    (withNotices eightNotices member).cond.notices = [] ++ ⟨1, .meterImbalance, 0, 9, .unsent⟩ :: eightNotices.tail
      ∧ (∀ x ∈ eightNotices.tail, x.seq ≠ 1)
      ∧ (withNotices [⟨1, .tamper, 7 * 256 + 1, 9, .unsent⟩] member).cond.notices = [] ++ ⟨1, .tamper, 7 * 256 + 1, 9, .unsent⟩ :: []
      ∧ ((withRecord heldFault member).cond.record = some heldFault ∧ heldFault.fault.seq = 1 ∧ heldFault.compound = none)
      ∧ (∀ x ∈ member.cond.notices, x.seq ≠ 1) := by decide

theorem witness_rejoin :
    member.interval.membership ≠ .observer ∧ (draining observer).interval.drain = true
      ∧ (withRecord heldFault observer).cond.record ≠ none
      ∧ (observer.interval.membership = .observer ∧ observer.interval.drain = false ∧ observer.cond.record = none)
      ∧ (∀ r ∈ observer.ring.records, r.state = .opened)
      ∧ (∃ r ∈ (withClosed .settling observer).ring.records, r.state = .settling)
      ∧ ((withClosed .gathering observer).ring.records = closed 9 .gathering :: [Record.atOpen 10 1 false]
          ∧ (closed 9 .gathering).state ≠ .opened ∧ ∀ x ∈ (withClosed .gathering observer).ring.records, x.state ≠ .settling) := by
  decide +kernel

/-! ## The engine, the store and the cross-check -/

/-- The state with these jobs waiting. -/
def withJobs (l : List Job) (s : State) : State := { s with engine := { s.engine with jobs := l } }

theorem witness_computeStart :
    (withJobs [⟨.compute, 9⟩] (withClosed .provisional member)).engine.jobs = ⟨.compute, 9⟩ :: []
      ∧ (withJobs [⟨.recompute, 9⟩] (withClosed .provisional member)).engine.jobs = ⟨.recompute, 9⟩ :: []
      ∧ findRecord 9 (withClosed .provisional member) = some (closed 9 .provisional) ∧ member.engine.flight = none := by
  decide +kernel

/-- A compute job in flight for interval 9 with these totals of pool 0. -/
def computeJob (t : Totals) : ComputeJob := ⟨false, 9, ⟨t, Totals.zero, Totals.zero, Totals.zero⟩, Table.fill 16 false, false⟩

theorem witness_computeComplete :
    (withFlight (.compute (computeJob ⟨1, 100, 2, 0, 40⟩)) (withClosed .provisional member)).engine.flight
        = some (.compute (computeJob ⟨1, 100, 2, 0, 40⟩))
      ∧ (withClosed .provisional member).ring.records = [] ++ closed 9 .provisional :: [Record.atOpen 10 1 false]
      ∧ (closed 9 .provisional).number = (computeJob ⟨1, 100, 2, 0, 40⟩).interval := by decide +kernel

theorem witness_computeRingOrdered :
    (withFlight (.compute (computeJob ⟨1, 100, 2, 0, 40⟩)) (withClosed .provisional member)).ringOrdered := by
  refine ⟨by decide +kernel, by decide +kernel, by decide +kernel,
    fun _ => ⟨[closed 9 .provisional], Record.atOpen 10 1 false, rfl, rfl, rfl, ?_⟩, fun h => absurd (Or.inl rfl) h, fun h hh => ?_⟩
  · decide +kernel
  · simp [withFlight, withClosed, withRecords, member, loaded, State.reset, State.afterReset] at hh

/-- Totals of an orphan pool with cost, and of a pool just out of balance; the marks are clear and the list has room. -/
theorem witness_computeNotices :
    (((computeJob ⟨0, 7, 0, 0, 0⟩).copy.get 0).a = 0 ∧ 0 < ((computeJob ⟨0, 7, 0, 0, 0⟩).copy.get 0).c)
      ∧ (let t := (computeJob ⟨16, 7, 18, 0, 40⟩).copy.get 0; 0 < t.e ∧ t.e + t.e / 16 < t.u ∧ t.a ≠ 0)
      ∧ (((closed 9 .provisional).pools.get 0).orphanNotice = false ∧ ((closed 9 .provisional).pools.get 0).imbalance = false)
      ∧ (member.image.mask.pools = [0] ∧ member.cond.notices.length + 2 ≤ 8) := by decide +kernel

theorem witness_costSplit : findRecord 10 member = some (Record.atOpen 10 1 false) ∧ (100 : Nat) ≤ 100 ∧ 0 < 1 := by decide

theorem witness_postings :
    (image.pools.get 0).base ≤ 100
      ∧ ((allAccounts.filter (fun i => image.takesPart i 0)).map (fun i => (image.accounts.get i).area)).sum
          ≤ ((computeJob ⟨1, 100, 2, 0, 20⟩).copy.get 0).a := by decide

theorem witness_settle :
    (let s := withJobs [⟨.settle, 9⟩] (withClosed .settling member);
      s.engine.jobs = ⟨.settle, 9⟩ :: [] ∧ findRecord 9 s = some (closed 9 .settling) ∧ s.image.settleAccountList = 0 :: [1]
        ∧ (s.table.accounts.get 0).damaged = false ∧ (s.table.accounts.get 0).settled.last < 9
        ∧ ((closed 9 .settling).accounts.get 0).tenancy = some ⟨1, .occupied⟩ ∧ (s.table.accounts.get 0).tenancy = 1
        ∧ (s.control.supplyWarn = false ∧ s.engine.flight = none ∧ ∀ q ∈ s.store.queue, q.awaited = false))
      ∧ ((settleJob none false).waiting = none
          ∧ (withRecords [closed 8 .settling, Record.atOpen 10 1 false] member).ring.records
              = [] ++ closed 8 .settling :: [Record.atOpen 10 1 false]
          ∧ (closed 8 .settling).number = (settleJob none false).interval ∧ member.ring.history.length ≤ 4) := by decide +kernel

/-- A SETTLING record 9 whose tenancy snapshots of account 0 this is, before its SETTLE job. -/
def settling (t : Option Tenancy) (a : Account) (slot : Option Statement) : State :=
  withSlot slot (withAccount (fun _ => a) (withJobs [⟨.settle, 9⟩] (withRecords
    [{ closed 9 .settling with accounts := Table.fill 16 ⟨t, Four.fill ⟨some 5, some 5, some 3, true, false⟩⟩ },
      Record.atOpen 10 1 false] member)))

/-- Settled figures one below their maxima in energy, in pool and band 0. -/
def nearlyFull : Settled := ⟨8, Figures.zero.set 0 ((Figures.zero.get 0).set 1 ⟨1099511627770, 7, 0, 65535⟩)⟩

/-- The targets of an account step: the account, its statement, the guard, none, and a DAMAGED account; and a figure that reaches
its maximum. -/
theorem witness_settleTargets :
    (let s := settling (some ⟨1, .occupied⟩) ⟨1, .occupied, nearlyFull, none, false⟩ none;
      s.engine.jobs = [⟨.settle, 9⟩] ∧ (s.table.accounts.get 0).settled.last < 9
        ∧ ((nearlyFull.figures.get 0).get 1).energy < 1099511627775
        ∧ 1099511627775 ≤ ((nearlyFull.figures.get 0).get 1).energy + 5 ∧ s.cond.record = none)
      ∧ (let s := settling (some ⟨1, .occupied⟩) ⟨2, .vacant, Settled.zero, none, false⟩ (some (statement false));
          (s.table.accounts.get 0).tenancy ≠ 1 ∧ s.table.slots.get 0 = some (statement false) ∧ (statement false).tenancy = 1)
      ∧ (settling (some ⟨1, .occupied⟩) ⟨1, .occupied, ⟨9, Figures.zero⟩, none, false⟩ none).table.accounts.get 0
          = ⟨1, .occupied, ⟨9, Figures.zero⟩, none, false⟩
      ∧ (settling none ⟨1, .occupied, Settled.zero, none, false⟩ none).table.slots.get 0 = none
      ∧ ((settling none ⟨1, .occupied, Settled.zero, none, true⟩ none).table.accounts.get 0).damaged = true
      ∧ (closed 9 .settling).compute = .none := by decide +kernel

theorem witness_store :
    (withStore none [nodeWrite false] member).store.queue = nodeWrite false :: []
      ∧ (withStore (some (nodeWrite true)) [] member).store.writing = some (nodeWrite true) ∧ (nodeWrite true).awaited = true
      ∧ (nodeWrite false).awaited = false ∧ (settleJob (some .node) false).waiting = some .node
      ∧ (settleJob (some (.step 0 false Settled.zero)) false).waiting = some (.step 0 false Settled.zero)
      ∧ (settleJob (some (.step 0 false Settled.zero)) false).accountsLeft = []
      ∧ (settleJob (some (.step 0 true Settled.zero)) false).absorbed = false
      ∧ ((withSlot (some { statement false with cut := 8 }) member).table.slots.get 0 = some { statement false with cut := 8 }
          ∧ (settleJob none false).interval = 8)
      ∧ ((settleJob (some (.final 0)) false).finalsLeft = []
          ∧ ({ settleJob (some (.final 0)) false with finalsLeft := [3] } : SettleJob).finalsLeft = 3 :: [])
      ∧ (∀ x, member.table.slots.get x = none) ∧ (∀ x ∈ member.store.queue, x.awaited = false)
      ∧ (member.control.resetLatched = false
          ∧ ({ member with control := { member.control with resetLatched := true } } : State).control.resetLatched = true) := by decide

/-- A MEMBER that holds the digests of intervals 4 to 7, all 1, and takes a SUMMARY of interval 8 from station 7. -/
def comparing (digest : Option Digest) (run runInterval : Nat) (latch : Bool) : State :=
  withFrame ⟨⟨7, .summary { summary 8 with digest := digest }⟩, .late, 1, false⟩
    { member with
      ring := { member.ring with history := [4, 5, 6, 7].map (fun n => ⟨n, 1, Four.fill 1#32⟩) }
      check := { member.check with run := run, runInterval := runInterval, latch := latch } }

theorem witness_compare :
    (let s := comparing (some 2#32) 3 4 false;
      s.following = true ∧ s.image.checkMask.has 0 = false ∧ 8 < s.interval.openNumber ∧ (∀ r ∈ s.ring.records, r.number ≠ 8)
        ∧ 3 < 8 ∧ s.ring.history.find? (fun x => x.number == 8 - 3) = some ⟨5, 1, Four.fill 1#32⟩
        ∧ (2#32 : Digest) ≠ (Four.fill 1#32 : Four Digest).get 0
        ∧ (s.check.latch = false ∧ s.check.runInterval ≠ 0 ∧ s.check.runInterval < 5 ∧ s.check.run = 3 ∧ s.cond.record = none)
        ∧ (¬ ∃ x ∈ s.ring.history, s.check.runInterval < x.number ∧ x.number < 5)
        ∧ ∃ x ∈ s.ring.history, x.number = s.check.runInterval)
      ∧ ((∀ x ∈ member.ring.history, x.number ≠ 8 - 3) ∧ (comparing none 0 0 false).check.runInterval = 0)
      ∧ ((comparing (some 2#32) 4 4 true).check.latch = true ∧ 5 ≤ (comparing (some 2#32) 2 5 false).check.runInterval)
      ∧ (∀ x ∈ (comparing (some 2#32) 2 3 false).ring.history, x.number ≠ (comparing (some 2#32) 2 3 false).check.runInterval) := by
  decide

/-- A GATHERING record, the OPEN record and one above it for a SUMMARY whose pool is compared; the digest's entry is in the history. -/
theorem witness_compareAtIntake :
    let s : State := { comparing (some 2#32) 3 4 false with ring := { (comparing (some 2#32) 3 4 false).ring with
      records := [closed 8 .gathering, Record.atOpen 10 1 false] } };
    (∃ r ∈ s.ring.records, r.number = 8 ∧ r.state ≠ .settling) ∧ (∃ r ∈ s.ring.records, r.number = 10 ∧ r.state ≠ .settling)
      ∧ (s.interval.openNumber < 11 ∧ s.interval.held = none ∧ s.interval.drain = false ∧ s.ring.records.length < 4)
      ∧ s.ring.history.find? (fun x => x.number == 8 - 3) = some ⟨5, 1, Four.fill 1#32⟩
      ∧ s.image.checkMask.has 0 = false ∧ s.peer 7 = none ∧ (withPeers [peer 7 .reader .active] s).peer 7 = some (peer 7 .reader .active)
      ∧ ¬ (withHeld heldTwelve s).interval.held = none := by decide +kernel

/-! ## Worked examples of the spec -/

/-- Section 2.7: the postings of account 0 in the two computes. -/
theorem test_sharesOfNode7 :
    share 30 ⟨120000, 2400000, 76800, 76700, 40900⟩ 76700 8000 21250 = 606280
      ∧ share 30 ⟨120000, 2400000, 76800, 76700, 40900⟩ 76700 4000 8050 = 246738
      ∧ share 30 ⟨120000, 2400000, 104100, 102800, 56000⟩ 102800 8000 21250 = 450133
      ∧ share 30 ⟨120000, 2400000, 104100, 102800, 56000⟩ 102800 6500 10500 = 255166 := by decide

/-- Section 4.11: the energy of samples 1, 2, 3 and 6, and the remainder carried. -/
theorem test_integrationSequence :
    (let c := [509394000, 337270000, 334944000, 332618000].foldl (fun x p => Channel.addForward p x) (Channel.fresh Lifetime.zero);
      c.energy = 1514 ∧ c.forwardRem = 226000) := by decide

/-- The roster of section 6.7 at station 7. -/
def exampleRoster : List Peer :=
  [ ⟨3, .node, 3#4, .isMatch, .active, 0, 1, 0, 2207, none, none⟩, ⟨5, .node, 2#4, .unknown, .active, 2, 1, 0, 2207, none, none⟩,
    ⟨12, .node, 1#4, .isMatch, .active, 0, 1, 0, 2207, none, none⟩,
    ⟨20, .node, 1#4, .mismatch, .active, 0, 1, 0, 2207, none, none⟩,
    ⟨25, .node, 0#4, .unknown, .active, 0, 1, 0, 2207, none, none⟩,
    ⟨31, .node, 1#4, .isMatch, .silent, 6, 1, 0, 2200, none, none⟩,
    ⟨40, .node, 1#4, .isMatch, .quarantined, 1, 1, 0, 2207, none, none⟩,
    ⟨60, .reader, 0#4, .unknown, .active, 1, 1, 0, 2207, none, none⟩ ]

/-- Section 6.7: the expected sets and the rank. -/
theorem test_rosterSnapshot :
    (let s := withPeers exampleRoster { member with image := { image with station := 7 } };
      s.roster.expectedSet 0 = [3, 12] ∧ s.roster.expectedSet 1 = [3, 5] ∧ s.rank = 2) := by decide

/-- Section 6.7: the missed counts after ageing against record 2206, which stations 3, 12 and 20 gave summaries for. -/
theorem test_rosterAgeing :
    exampleRoster.map (fun e =>
      let a := if e.role = .reader then e.ageReader 2207 else e.ageNode 3 ([3, 12, 20].contains e.station)
      (a.station, a.missed, a.state))
      = [(3, 0, .active), (5, 3, .silent), (12, 0, .active), (20, 0, .active), (25, 1, .active), (31, 7, .silent),
          (40, 2, .quarantined), (60, 0, .active)] := by decide

/-- Section 7.9: the first twelve levels of node 3's CLOSE(1003) hold no fill bit and spell its kind and source. -/
theorem test_precedenceOfNode3 :
    (lineBits 3 (.close 1003 0)).take 11 = [false, false, false, false, true, false, false, false, false, true, true] := by
  decide +kernel

/-! ## Single steps -/

/-- What a command answers, for a test to look at. -/
def after (c : Instr) (s : State) : State := match exec c s with | .next t => t | .fault _ => s | .refused _ => s

theorem test_emptyQueueTicks : (step member matches .next _) ∧ (tick member).interval.timer = .running 299980 := by
  exact ⟨rfl, rfl⟩

theorem test_powerOnStarts : (after .powerOn member).interval.membership = .starting := rfl

/-- Section 12.5: the latched reset takes effect with the write, and the input has been released. -/
theorem test_latchedResetTakesEffectWithTheWrite :
    (let s := withFlight (.settle (settleJob (some .node) false)) (withStore (some (nodeWrite true)) [] member)
     let t := after .storeWriteComplete { s with control := { s.control with resetLatched := true } }
     t.interval.membership = .starting ∧ t.store.contents.node = .valid 9 ∧ t.engine.flight = none
       ∧ t.control.resetLatched = false ∧ t.control.resetCause = .resetInput) := by decide +kernel

theorem test_countStandsInTheMarksByte :
    (after .lineIdle member).lineStateLine.getLast? = some 44#8 ∧ (after .lineIdle member).lineStateLine.length = 12 := by
  decide +kernel

theorem test_resetHolds : (after .resetAsserted member).control.power = .heldInReset := rfl

theorem test_lineIdle : (after .lineIdle member).line.monitor = .idle := by decide

theorem test_startBit : (after .startBit (withMonitor .idle member)).line.monitor = .frame := by decide

theorem test_frameReceivedIsAdmitted :
    (after (.frameReceived (lineBits 7 (.close 10 1))) receiver).rx.entries = [⟨⟨7, .close 10 1⟩, .current, 1, false⟩] := by
  decide +kernel

theorem test_foundingOpensTheFoundingNumber :
    (after .founding listening).ring.records.map (·.number) = [100] ∧ (after .founding listening).interval.membership = .member := by
  decide +kernel

theorem test_ownExpiryClosesAndQueues :
    (after .ownExpiry member).ring.records.map (fun r => (r.number, r.state)) = [(10, .provisional), (11, .opened)]
      ∧ (after .ownExpiry member).interval.timer = .waitingLine := by decide +kernel

theorem test_jumpRenumbers :
    (after .takeClose (withFrame (closeFrame 14) member)).ring.records.map (fun r => (r.number, r.renumbered))
      = [(14, true), (15, false)] := by decide +kernel

theorem test_cutIsAccepted :
    ((after .cut (asking (cutRequest 0 1) member)).table.accounts.get 0).pendingCut = some .vacant := by decide +kernel

theorem test_rosterReplyIsAHeaderAndLines :
    (after .rosterQuery (asking (query 4 0) member)).resp.serving.map (fun v => v.frames.map List.length)
      = some [11, 12, 18] := by decide +kernel

theorem test_computePosts :
    (((after .computeJobComplete
      (withFlight (.compute (computeJob ⟨1, 100, 2, 0, 40⟩)) (withClosed .provisional member))).ring.records.map
        (fun r => ((r.accounts.get 0).pools.get 0).posting)) = [some 24, none]) := by decide +kernel

theorem test_fourthMismatchRaisesDisagreement :
    ((after (.takeSummary .late) (comparing (some 2#32) 3 4 false)).cond.record.map (fun r => (r.fault.cause, r.fault.param)))
      = some (.disagreement, 1792) := by decide +kernel

/-- Both records are due: the older one's SUMMARY enters first. -/
theorem test_olderDueRecordIsOfferedFirst :
    (after (.sendTimeExpiry 9) (three .provisional)).line.queue.map (fun f => match f.body with | .summary b => b.interval | _ => 0)
      = [8, 9] := by decide +kernel

theorem test_historyHoldsANumberOnce :
    (pushHistory ([4, 5, 6, 7].map (fun n => ⟨n, 1, Four.fill 1#32⟩)) ⟨5, 2, Four.fill 2#32⟩).map (fun e => (e.number, e.band))
      = [(4, 1), (6, 1), (7, 1), (5, 2)] := by decide

theorem test_unconfiguredHoldsNoAccounts :
    (after (.loadComplete []) State.reset).table.holdsAccounts = false
      ∧ (after (.loadComplete []) State.reset).interval.membership = .unconfigured := by decide

end Sys2Proof.Tests
end

namespace Sys2Proof.CostSplit

open Sys2Proof Sys2Proof.Machine

/-! ## The two parts of the cost total (R31) -/

/-- With b = 0 no cost is base cost. -/
@[simp] theorem basePart_zero (c : Nat) : basePart c 0 = 0 := by
  simp [basePart]

/-- With b = 100 all cost is base cost. -/
@[simp] theorem basePart_hundred (c : Nat) : basePart c 100 = c :=
  Nat.mul_div_cancel c (by decide)

/-- A base share of at most 100 % takes no more than the cost total. -/
theorem basePart_le (c : Nat) {b : Nat} (hb : b ≤ 100) : basePart c b ≤ c :=
  calc basePart c b ≤ basePart c 100 := Nat.div_le_div_right (Nat.mul_le_mul_left c hb)
    _ = c := basePart_hundred c

/-- The remainder of the division by 100 falls into the consumption part, so nothing of the cost total is lost. -/
theorem basePart_add_consumption (c : Nat) {b : Nat} (hb : b ≤ 100) : basePart c b + (c - basePart c b) = c :=
  Nat.add_sub_of_le (basePart_le c hb)

/-! ## The share at the two ends (R31, R32) -/

/-- With b = 0 the area term is zero: the energy term alone is the share. -/
theorem share_zero (t : Totals) {divisor : Nat} (a m : Nat) (hd : 0 < divisor) : share 0 t divisor a m = t.c * m / divisor := by
  simp [share, hd]

/-- With b = 100 the energy term is zero, whichever of its two cases applies: the area term alone is the share. -/
theorem share_hundred (t : Totals) (divisor a m : Nat) : share 100 t divisor a m = t.c * a / t.a := by
  simp [share]

/-! ## The totals that the engine takes (R42) -/

/-- The compute job copies the pool's totals from its record as they stand. -/
theorem computeJob_copy_get {k : Nat} {r : Record} {s : State} (hr : findRecord k s = some r) (recompute : Bool) (p : PoolId) :
    (s.computeJob recompute k).copy.get p = (r.pools.get p).totals := by
  simp [State.computeJob, hr]

/-- Settles O56: the parts add up since the base part is at most C, and at b = 0 and b = 100 one of the share's two terms vanishes. -/
theorem costSplitsIntoBaseAndConsumption : Obligations.CostSplitsIntoBaseAndConsumption := by
  intro recompute k r p b a m divisor s hr hb t base
  have copied : t = (r.pools.get p).totals := computeJob_copy_get hr recompute p
  refine ⟨congrArg Totals.c copied, rfl, basePart_add_consumption t.c hb, ?noBase, ?noConsumption, ?byEnergy, ?byArea⟩
  case noBase =>
    rintro rfl
    exact basePart_zero t.c
  case noConsumption =>
    rintro rfl
    exact Nat.sub_eq_zero_of_le (basePart_hundred t.c).ge
  case byEnergy =>
    rintro rfl hd
    exact share_zero t a m hd
  case byArea =>
    rintro rfl
    exact share_hundred t divisor a m

end Sys2Proof.CostSplit

namespace Sys2Proof.SupplyCost

open Sys2Proof Sys2Proof.Machine

/-! ## What a close does to one channel (R93 to R95) -/

/-- A channel's close touches the figures of that channel alone. -/
theorem closeChannel_get_of_ne {i ch : ChannelId} (hne : i ≠ ch) (band : Band) (s : State) :
    (closeChannel band i s).channels.get ch = s.channels.get ch := by
  unfold closeChannel
  dsimp only
  split
  · rfl
  · simp [Table.get_modify, hne]

theorem closeChannel_get_self {ch : ChannelId} {s : State} (hon : (s.channelDef ch).kind ≠ .off) (band : Band) :
    (closeChannel band ch s).channels.get ch = (s.channels.get ch).restart (s.channelDef ch) band := by
  simp [closeChannel, hon]

/-- The configuration of a channel stands in the image, which no close changes. -/
@[simp] theorem closeChannel_channelDef (band : Band) (i ch : ChannelId) (s : State) :
    (closeChannel band i s).channelDef ch = s.channelDef ch := by
  simp [State.channelDef]

/-! ## What a close does to all channels -/

theorem foldl_closeChannel_get_of_notMem {ch : ChannelId} {l : List ChannelId} (hmem : ch ∉ l) (band : Band) (s : State) :
    (l.foldl (fun t i => closeChannel band i t) s).channels.get ch = s.channels.get ch := by
  induction l generalizing s with
  | nil => rfl
  | cons i l ih =>
    obtain ⟨hne, hrest⟩ := not_or.mp (mt List.mem_cons.mpr hmem)
    rw [List.foldl_cons, ih hrest, closeChannel_get_of_ne (Ne.symm hne)]

/-- A channel that stands once in the list restarts once: the closes before its own and after its own leave it as it is. -/
theorem foldl_closeChannel_get_of_mem {ch : ChannelId} {l : List ChannelId} (hnodup : l.Nodup) (hmem : ch ∈ l) (band : Band)
    {s : State} (hon : (s.channelDef ch).kind ≠ .off) :
    (l.foldl (fun t i => closeChannel band i t) s).channels.get ch =
      (s.channels.get ch).restart (s.channelDef ch) band := by
  induction l generalizing s with
  | nil => exact absurd hmem List.not_mem_nil
  | cons i l ih =>
    obtain ⟨honce, hrest⟩ := List.nodup_cons.mp hnodup
    rw [List.foldl_cons]
    by_cases heq : i = ch
    · subst heq
      rw [foldl_closeChannel_get_of_notMem honce, closeChannel_get_self hon]
    · have hlater : ch ∈ l := List.mem_of_ne_of_mem (Ne.symm heq) hmem
      rw [ih hrest hlater (by simpa using hon), closeChannel_get_of_ne heq, closeChannel_channelDef]

theorem allChannels_nodup : allChannels.Nodup := by decide

theorem mem_allChannels (ch : ChannelId) : ch ∈ allChannels := by
  revert ch; decide

theorem closeChannels_get {ch : ChannelId} {s : State} (hon : (s.channelDef ch).kind ≠ .off) (band : Band) :
    (closeChannels band s).channels.get ch = (s.channels.get ch).restart (s.channelDef ch) band :=
  foldl_closeChannel_get_of_mem allChannels_nodup (mem_allChannels ch) band hon

/-- Closing a record restarts each channel that is not OFF, at the band of that record; the record and the gather leave it. -/
theorem closeRecord_channels_get {k : Nat} {r : Record} {ch : ChannelId} {s : State} (hr : findRecord k s = some r)
    (hon : (s.channelDef ch).kind ≠ .off) (cause : CloseCause) (station : Option Nat) :
    ((closeRecord k cause station s).channels.get ch) = (s.channels.get ch).restart (s.channelDef ch) r.band := by
  simp [closeRecord, hr, closeChannels_get hon]

/-! ## The cost of a SUPPLY channel (R96) -/

theorem snapshot_cost_supply {d : ChannelDef} (hd : d.kind = .supply) (band : Band) (c : Channel) :
    (c.snapshot d band).cost = min (c.pulses * d.prices.get band) Config.costMax := by
  simp [Channel.snapshot, hd]

theorem snapshot_cost_of_free_band {d : ChannelDef} {band : Band} (hfree : d.prices.get band = 0) (c : Channel) :
    (c.snapshot d band).cost = 0 := by
  simp [Channel.snapshot, hfree]

/-- A SUPPLY channel counts its cost among the figures held at their maxima. -/
theorem clips_supply {d : ChannelDef} (hd : d.kind = .supply) (band : Band) (c : Channel) :
    c.clips d band = (if Config.max48 - c.life.energy < c.energy then 1 else 0)
      + (if Config.max48 < c.life.reverse + c.reverse then 1 else 0)
      + (if Config.max48 < c.life.volume + c.volume then 1 else 0)
      + (if Config.costMax < c.pulses * d.prices.get band then 1 else 0) := by
  simp [Channel.clips, hd]

/-- A million pulses at the highest price of R77 stay within the highest cost. -/
theorem pulses_of_cost_above_max {pulses price : Nat} (hprice : price ≤ 1048575) (habove : Config.costMax < pulses * price) :
    1000000 < pulses := by
  by_contra hfew
  have hwithin : pulses * price ≤ Config.costMax :=
    calc pulses * price ≤ 1000000 * 1048575 := Nat.mul_le_mul (Nat.le_of_not_lt hfew) hprice
      _ ≤ Config.costMax := by decide
  exact absurd habove (Nat.not_lt.mpr hwithin)

/-! ## The cost in the own summary (R8) -/

@[simp] theorem close_own (station : Nat) (expected : List Nat) (own : OwnSummary) (x : PoolPart) :
    (x.close station expected own).own = some own := rfl

/-- A pool of the node's mask gets the own summary that the close works out. -/
theorem closedRecord_own {s : State} {p : PoolId} (hp : s.image.mask.has p = true) (cause : CloseCause) (station : Option Nat)
    (r : Record) :
    ((s.closedRecord cause station r).pools.get p).own = some (s.ownSummary r.band (s.closeAccounts r.band) p) := by
  simp [State.closedRecord, hp]

/-- Settles O19: the close of the record restarts the channel once, and the restart counts each figure that the snapshot holds. -/
theorem supplySnapshotCostIsPulsesTimesPrice : Obligations.SupplySnapshotCostIsPulsesTimesPrice := by
  intro ch cause station r s d c hd hr
  have hon : (s.channelDef ch).kind ≠ .off := by simp [show (s.channelDef ch).kind = .supply from hd]
  refine ⟨snapshot_cost_supply hd r.band c, ?counted, pulses_of_cost_above_max, ?free, ?summed⟩
  case counted =>
    rw [closeRecord_channels_get hr hon]
    exact congrArg (bumpBy · c.counters.energyClipped) (clips_supply hd r.band c)
  case free => exact fun hfree => snapshot_cost_of_free_band hfree c
  case summed =>
    intro _ hp
    rw [closedRecord_own hp]
    rfl

end Sys2Proof.SupplyCost

namespace Sys2Proof.Effects

open Sys2Proof Sys2Proof.Machine

/-! ## What a command can do

One inversion for all commands: the state that a command answers with is the state itself or one of the operations below, made
under its guard. Every invariant is a case analysis over this relation. -/

/-- The answer that a handler gives to a permitted request: a copy, which leaves the state as it is, or one of the five effects. -/
inductive Handles : (State → Answer) → Prop
  | copies (h : State → Answer) (keeps : ∀ t, (h t).state = t) : Handles h
  | cut (sel status : Nat) : Handles (handleCut sel status)
  | release (sel : Nat) : Handles (handleRelease sel)
  | ack (seq : Nat) : Handles (handleAck seq)
  | rejoin : Handles handleRejoin
  | clearCheck : Handles handleClearCheck

/-- `Acts s t`: some command takes the state s to t. -/
inductive Acts (s : State) : State → Prop
  | nothing : Acts s s
  | reset (cause : ResetCause) : Acts s (resetNode cause s)
  | assertReset : Acts s (assertReset s)
  | latchedReset : Acts s (resetNode .resetInput (finishWrite s))
  | releaseReset : Acts s (releaseReset s)
  | supplyLost :
      Acts s (State.afterReset s.control.resetCause s.store.contents s.control.resetIn s.control.supplyWarn .off s.pending)
  | load (bytes : List Byte) (hs : s.interval.membership = .starting) : Acts s (finishLoad bytes s)
  | countWarning : Acts s (setWarn true (countWarning s))
  | setWarn : Acts s (setWarn true s)
  | clearWarn : Acts s (resumeSettle ((Machine.setWarn false s).onLine (fun l => { l with warnCounted := false })))
  | pulse (ch : ChannelId) : Acts s (s.onChannel ch (fun c => { c with sincePulses := c.sincePulses + 1 }))
  | sample (ch : ChannelId) (supply ret : Int) (contact : Contact) : Acts s (sampleChannel ch supply ret contact s)
  | tamper (ch : ChannelId) : Acts s (pulseTamper ch s)
  | lineIdle : Acts s (noteHeldStart (setMonitor .idle 11 0 s))
  | lineStuck : Acts s (enterStuck s)
  | startBit : Acts s (setMonitor .frame 0 1 s)
  | startFrame : Acts s (startFrame s)
  | loseContention : Acts s (loseContention s)
  | collide (f : TxFrame) : Acts s (collide f s)
  | endFrame (f : TxFrame) : Acts s (endFrame f s)
  | admitOffer (o : Offer) (rest : List Offer) (room : s.hasRoom .peer = true) :
      Acts s (admitOffer o (s.onLine (fun l => { l with offers := rest })))
  | offerCondition (c : Condition) (compound : Bool) (room : s.hasRoom .condition = true) : Acts s (offerCondition c compound s)
  | offerReply (v : Serving) : Acts s (offerReply v s)
  | badFrame (e : RxFault) : Acts s (onLinkCounters (fun c => c.countRx e) (setMonitor .gap 0 0 s))
  | handOn (f : RxFrame) : Acts s (handOn f (setMonitor .gap 0 0 s))
  | ownExpiry (hf : s.following = true) : Acts s (ownExpiry s)
  | founding (hl : s.interval.membership = .listening) :
      Acts s (enterMember s.image.founding (s.image.scheduledBand s.image.founding)
        (onIntervalCounters (fun c => { c with foundings := bump c.foundings }) s))
  | sendTimeExpiry (rs : List Record) : Acts s (rs.foldl sendRunsOut s)
  | gatherExpiry (k : Nat) (r : Record) (hr : findRecord k s = some r) (hg : r.state = .gathering) :
      Acts s (setPoolMode (finishGather k (s.image.nodePools.foldl (recallPool k) s)))
  | adoptClose (j : Nat) (band : Band) (hl : s.interval.membership = .listening) :
      Acts s (adopt j (.frame band) (takeHead .current s))
  | foreignClose (j : Nat) (band : Band) (source : Nat) (hf : s.following = true) :
      Acts s (foreignClose j band source (takeHead .current s))
  | adoptSummary (c : RxClass) (j : Nat) (hl : s.interval.membership = .listening) : Acts s (adopt j .schedule (takeHead c s))
  | placeSummary (c : RxClass) (source : Nat) (b : SummaryBody) (hf : s.following = true) :
      Acts s (placeSummary source b (takeHead c s))
  | dropRecall : Acts s (takeHead .late s)
  | answerRecall (k : Nat) (p : PoolId) : Acts s (answerRecall k p (takeHead .late s))
  | takeAnnounce (source : Nat) (m : Option Membership) (mask : PoolMask) (d : Digest) (n : Nat) :
      Acts s (takeAnnounce source m mask d n (takeHead .late s))
  | request (e : RxEntry) (p : List Byte) (h : State → Answer) (handles : Handles h) : Acts s (answerRequest e p h s)
  | startCompute (recompute : Bool) (k : Nat) (rest : List Job) : Acts s (startCompute recompute k rest s)
  | completeCompute (j : ComputeJob) : Acts s (completeCompute j s)
  | startSettle (r : Record) (rest : List Job) : Acts s (startSettle r rest s)
  | startWrite (q : StoreRequest) (rest : List StoreRequest) :
      Acts s (s.onStore (fun t => { t with writing := some q, queue := rest }))
  | completeWrite (q : StoreRequest) : Acts s (afterWrite q (commitWrite q s))
  | completeSettle (j : SettleJob) (r : Record) (hr : findRecord j.interval s = some r) (hs : r.state = .settling) :
      Acts s (completeSettle j r s)
  | takeHeld (q : HeldClose) (hf : s.following = true) (room : s.hasEmptySlot = true) (hq : s.interval.held = some q) :
      Acts s (takeRequest q (s.onInterval (fun u => { u with held := none })))
  | settleNext (hd : s.interval.drain = true) : Acts s (settleNext s)
  | endDrain (hd : s.drained = true) : Acts s (endDrain s)

/-- The outcome is a next state that some command brings about. -/
def Answers (s : State) (o : Host.Outcome State Fault Refusal) : Prop := ∃ t, o = .next t ∧ Acts s t

theorem Answers.next {s t : State} (h : Acts s t) : Answers s (.next t) := ⟨t, rfl, h⟩

/-- A command whose event cannot come about leaves the state as it is (log entry 6). -/
theorem Answers.same {s : State} : Answers s (.next s) := .next .nothing

/-- A live node that does not listen follows the intervals. -/
theorem following_of_live {s : State} (hl : s.live = true) (hn : s.interval.membership ≠ .listening) : s.following = true := by
  unfold State.live at hl
  unfold State.following
  cases hm : s.interval.membership <;> simp_all

theorem loadComplete_answers (bytes : List Byte) (s : State) : Answers s (execLoadComplete bytes s) := by
  unfold execLoadComplete
  split
  · next h =>
    simp only [Bool.and_eq_true, beq_iff_eq] at h
    exact .next (.load bytes h.1.2)
  · exact .same

theorem frameReceived_answers (bits : List Bool) (s : State) : Answers s (execFrameReceived bits s) := by
  unfold execFrameReceived
  split
  · split
    · exact .next (.badFrame _)
    · exact .next (.handOn _)
  · exact .same

theorem takeClose_answers (s : State) : Answers s (execTakeClose s) := by
  unfold execTakeClose
  split
  · next hl _ =>
    dsimp only
    split
    · next hm => exact .next (.adoptClose _ _ (by simpa using hm))
    · next hm => exact .next (.foreignClose _ _ _ (following_of_live hl (by simpa using hm)))
  · exact .same

theorem takeSummary_answers (cls : SummaryClass) (s : State) : Answers s (execTakeSummary cls s) := by
  unfold execTakeSummary
  split
  · next hl _ =>
    dsimp only
    split
    · next hm => exact .next (.adoptSummary _ _ (by simpa using hm))
    · next hm => exact .next (.placeSummary _ _ _ (following_of_live hl (by simpa using hm)))
  · exact .same

theorem takeRecall_answers (s : State) : Answers s (execTakeRecall s) := by
  unfold execTakeRecall
  split
  · dsimp only
    split
    · exact .next (.answerRecall _ _)
    · exact .next .dropRecall
  · exact .same

theorem takeAnnounce_answers (s : State) : Answers s (execTakeAnnounce s) := by
  unfold execTakeAnnounce
  split
  · exact .next (.takeAnnounce ..)
  · exact .same

theorem handleStatement_state (sel : Nat) (t : State) : (handleStatement sel t).state = t := by
  unfold handleStatement
  split <;> rfl

theorem handleClosing_state (sel : Nat) (t : State) : (handleClosing sel t).state = t := by
  unfold handleClosing
  split
  · rfl
  · split <;> rfl

theorem handlePool_state (n : Nat) (t : State) : (handlePool n t).state = t := by
  unfold handlePool
  split
  · split
    · split <;> rfl
    · rfl
  · rfl

theorem handleCounters_state (n : Nat) (t : State) : (handleCounters n t).state = t := by
  unfold handleCounters
  split <;> rfl

theorem statementQuery_answers (s : State) : Answers s (execStatementQuery s) := by
  unfold execStatementQuery
  split
  · split
    · exact .next (.request _ _ _ (.copies _ (handleStatement_state _)))
    · exact .same
  · exact .same

theorem closingQuery_answers (s : State) : Answers s (execClosingQuery s) := by
  unfold execClosingQuery
  split
  · split
    · exact .next (.request _ _ _ (.copies _ (handleClosing_state _)))
    · exact .same
  · exact .same

theorem poolQuery_answers (s : State) : Answers s (execPoolQuery s) := by
  unfold execPoolQuery
  split
  · split
    · exact .next (.request _ _ _ (.copies _ (handlePool_state _)))
    · exact .same
  · exact .same

theorem rosterQuery_answers (s : State) : Answers s (execRosterQuery s) := by
  unfold execRosterQuery
  split
  · split
    · exact .next (.request _ _ _ (.copies _ fun _ => rfl))
    · exact .same
  · exact .same

theorem countersQuery_answers (s : State) : Answers s (execCountersQuery s) := by
  unfold execCountersQuery
  split
  · split
    · exact .next (.request _ _ _ (.copies _ (handleCounters_state _)))
    · exact .same
  · exact .same

theorem conditionsQuery_answers (s : State) : Answers s (execConditionsQuery s) := by
  unfold execConditionsQuery
  split
  · split
    · exact .next (.request _ _ _ (.copies _ fun _ => rfl))
    · exact .same
  · exact .same

theorem checkQuery_answers (s : State) : Answers s (execCheckQuery s) := by
  unfold execCheckQuery
  split
  · split
    · exact .next (.request _ _ _ (.copies _ fun _ => rfl))
    · exact .same
  · exact .same

theorem cut_answers (s : State) : Answers s (execCut s) := by
  unfold execCut
  split
  · split
    · exact .next (.request _ _ _ (.cut _ _))
    · exact .same
  · exact .same

theorem release_answers (s : State) : Answers s (execRelease s) := by
  unfold execRelease
  split
  · split
    · exact .next (.request _ _ _ (.release _))
    · exact .same
  · exact .same

theorem ack_answers (s : State) : Answers s (execAck s) := by
  unfold execAck
  split
  · split
    · exact .next (.request _ _ _ (.ack _))
    · exact .same
  · exact .same

theorem rejoin_answers (s : State) : Answers s (execRejoin s) := by
  unfold execRejoin
  split
  · split
    · exact .next (.request _ _ _ .rejoin)
    · exact .same
  · exact .same

theorem clearCheck_answers (s : State) : Answers s (execClearCheck s) := by
  unfold execClearCheck
  split
  · split
    · exact .next (.request _ _ _ .clearCheck)
    · exact .same
  · exact .same

theorem undefinedRequest_answers (s : State) : Answers s (execUndefinedRequest s) := by
  unfold execUndefinedRequest
  split
  · split
    · exact .next (.request _ _ _ (.copies _ fun _ => rfl))
    · exact .same
  · exact .same

theorem sendTimeExpiry_answers (k : Nat) (s : State) : Answers s (execSendTimeExpiry k s) := by
  unfold execSendTimeExpiry
  split
  · split
    · exact .next (.sendTimeExpiry _)
    · exact .same
  · exact .same

theorem gatherExpiry_answers (k : Nat) (s : State) : Answers s (execGatherExpiry k s) := by
  unfold execGatherExpiry
  split
  · next _ hr =>
    split
    · next hg => exact .next (.gatherExpiry k _ hr (by simpa using hg))
    · exact .same
  · exact .same

theorem computeJobStart_answers (s : State) : Answers s (execComputeJobStart s) := by
  unfold execComputeJobStart
  split
  · exact .next (.startCompute ..)
  · exact .next (.startCompute ..)
  · exact .same

theorem settleJobStart_answers (s : State) : Answers s (execSettleJobStart s) := by
  unfold execSettleJobStart
  split
  · split
    · exact .next (.startSettle ..)
    · exact .same
  · exact .same

theorem settleJobComplete_answers (s : State) : Answers s (execSettleJobComplete s) := by
  unfold execSettleJobComplete
  split
  · split
    · next hr =>
      split
      · next hs => exact .next (.completeSettle _ _ hr (by simpa using hs))
      · exact .same
    · exact .same
  · exact .same

theorem heldCloseTaken_answers (s : State) : Answers s (execHeldCloseTaken s) := by
  unfold execHeldCloseTaken
  split
  · next hc hq =>
    obtain ⟨hf, room⟩ := Bool.and_eq_true_iff.mp hc
    exact .next (.takeHeld _ hf room hq)
  · exact .same

theorem supplyWarnAsserted_answers (s : State) : Answers s (execSupplyWarnAsserted s) := by
  unfold execSupplyWarnAsserted
  split
  · exact .same
  · split
    · exact .next .countWarning
    · exact .next .setWarn

/-- A command that acts under a guard and else leaves the state. -/
theorem ite_answers {s t : State} {c : Bool} (h : c = true → Acts s t) :
    Answers s (if c then .next t else .next s) := by
  cases c with
  | false => exact .same
  | true => exact .next (h rfl)

/-- Every command answers a next state, and that state is reached by one of the listed operations. -/
theorem exec_answers (c : Instr) (s : State) : Answers s (exec c s) := by
  cases c with
  | powerOn => exact .next (.reset .powerOn)
  | resetAsserted => exact .next .assertReset
  | resetTakesEffect => exact ite_answers fun _ => .latchedReset
  | resetReleased => exact .next .releaseReset
  | supplyLost => exact .next .supplyLost
  | loadComplete bytes => exact loadComplete_answers bytes s
  | supplyWarnAsserted => exact supplyWarnAsserted_answers s
  | supplyWarnDeasserted => exact .next .clearWarn
  | pulseInput ch => exact ite_answers fun _ => .pulse ch
  | sample ch a b c => exact ite_answers fun _ => .sample ch a b c
  | tamperEdge ch => exact ite_answers fun _ => .tamper ch
  | lineIdle => exact ite_answers fun _ => .lineIdle
  | lineStuck => exact ite_answers fun _ => .lineStuck
  | frameStart => exact ite_answers fun _ => .startFrame
  | contentionLost => exact ite_answers fun _ => .loseContention
  | collisionError =>
    show Answers s (execCollisionError s)
    unfold execCollisionError
    split
    · exact .next (.collide _)
    · exact .same
  | frameEnded =>
    show Answers s (execFrameEnded s)
    unfold execFrameEnded
    split
    · exact .next (.endFrame _)
    · exact .same
  | offerListEntry =>
    show Answers s (execOfferListEntry s)
    unfold execOfferListEntry
    split
    · next hc _ => exact .next (.admitOffer _ _ (Bool.and_eq_true_iff.mp hc).2)
    · exact .same
  | conditionOffer =>
    show Answers s (execConditionOffer s)
    unfold execConditionOffer
    split
    · next hc _ => exact .next (.offerCondition _ _ (Bool.and_eq_true_iff.mp hc).2)
    · exact .same
  | replyOffer =>
    show Answers s (execReplyOffer s)
    unfold execReplyOffer
    split
    · exact .next (.offerReply _)
    · exact .same
  | frameReceived bits => exact frameReceived_answers bits s
  | ownExpiry =>
    show Answers s (execOwnExpiry s)
    unfold execOwnExpiry
    split
    · next hf _ => exact .next (.ownExpiry hf)
    · exact .same
  | founding =>
    exact ite_answers fun h => .founding (by simpa using (Bool.and_eq_true_iff.mp h).2)
  | sendTimeExpiry k => exact sendTimeExpiry_answers k s
  | gatherExpiry k => exact gatherExpiry_answers k s
  | takeClose => exact takeClose_answers s
  | takeSummary cls => exact takeSummary_answers cls s
  | takeRecall => exact takeRecall_answers s
  | takeAnnounce => exact takeAnnounce_answers s
  | statementQuery => exact statementQuery_answers s
  | closingQuery => exact closingQuery_answers s
  | poolQuery => exact poolQuery_answers s
  | rosterQuery => exact rosterQuery_answers s
  | countersQuery => exact countersQuery_answers s
  | conditionsQuery => exact conditionsQuery_answers s
  | checkQuery => exact checkQuery_answers s
  | cut => exact cut_answers s
  | release => exact release_answers s
  | ack => exact ack_answers s
  | rejoin => exact rejoin_answers s
  | clearCheck => exact clearCheck_answers s
  | undefinedRequest => exact undefinedRequest_answers s
  | computeJobStart => exact computeJobStart_answers s
  | computeJobComplete =>
    show Answers s (execComputeJobComplete s)
    unfold execComputeJobComplete
    split
    · exact .next (.completeCompute _)
    · exact .same
  | settleJobStart => exact settleJobStart_answers s
  | storeWriteStart =>
    show Answers s (execStoreWriteStart s)
    unfold execStoreWriteStart
    split
    · exact .next (.startWrite _ _)
    · exact .same
  | storeWriteComplete =>
    show Answers s (execStoreWriteComplete s)
    unfold execStoreWriteComplete
    split
    · exact .next (.completeWrite _)
    · exact .same
  | settleJobComplete => exact settleJobComplete_answers s
  | heldCloseTaken => exact heldCloseTaken_answers s
  | drainSettleNext =>
    exact ite_answers fun h => .settleNext (Bool.and_eq_true_iff.mp h).2
  | drainEnd => exact ite_answers fun h => .endDrain (Bool.and_eq_true_iff.mp h).2
  | startBit => exact ite_answers fun _ => .startBit
  | receptionError e => exact ite_answers fun _ => .badFrame _

/-- What holds of the state that a command answers with, once it holds for every operation. -/
theorem acts_of_exec {c : Instr} {s t : State} (h : exec c s = .next t) : Acts s t := by
  obtain ⟨u, hu, ha⟩ := exec_answers c s
  rw [hu] at h
  cases h
  exact ha

/-- A step is a clock tick, or one of the operations on the state with the queue's rest. -/
theorem step_cases {s t : State} (h : step s = .next t) :
    (s.pending = [] ∧ t = tick s) ∨ ∃ rest, Acts (s.withPending rest) t := by
  unfold step at h
  split at h
  · next hp =>
    cases h
    exact .inl ⟨hp, rfl⟩
  · exact .inr ⟨_, acts_of_exec h⟩

/-- A property that does not read the queue of commands is kept by every step once the tick and every operation keep it. -/
theorem step_keeps {P : State → Prop} (hpending : ∀ s q, P s → P (s.withPending q)) (htick : ∀ s, P s → P (tick s))
    (hacts : ∀ s t, Acts s t → P s → P t) {s t : State} (hs : P s) (h : step s = .next t) : P t := by
  obtain ⟨-, rfl⟩ | ⟨rest, ha⟩ := step_cases h
  · exact htick s hs
  · exact hacts _ _ ha (hpending s rest hs)

end Sys2Proof.Effects

namespace Sys2Proof.Effects

open Sys2Proof Sys2Proof.Machine

/-! ## The waiting commands -/

@[simp] theorem resetNode_pending (cause : ResetCause) (s : State) : (resetNode cause s).pending = s.pending := rfl

@[simp] theorem afterReset_pending (cause : ResetCause) (c : StoreContents) (a b : Bool) (p : Power) (q : List Instr) :
    (State.afterReset cause c a b p q).pending = q := rfl

theorem finishWrite_pending (s : State) : (finishWrite s).pending = s.pending := by
  unfold finishWrite
  split <;> simp

@[simp] theorem assertReset_pending (s : State) : (assertReset s).pending = s.pending := by
  unfold assertReset
  split
  · simp [setResetIn]
  · split <;> simp [setResetIn]

@[simp] theorem finishLoad_pending (bytes : List Byte) (s : State) : (finishLoad bytes s).pending = s.pending := by
  unfold finishLoad
  split
  · simp [startValid, enterListening, setLoad]
  · simp [startInvalid, setHoldsAccounts, setMembership, setLoad]

/-- Only the line, the account table and the engine count a warning. -/
theorem countWarning_pending (s : State) : (countWarning s).pending = s.pending := by
  unfold countWarning
  dsimp only
  (repeat' split) <;> simp

theorem resumeSettle_pending (s : State) : (resumeSettle s).pending = s.pending := by
  unfold resumeSettle
  (repeat' split) <;> simp

theorem sendRunsOuts_pending (rs : List Record) (s : State) : (rs.foldl sendRunsOut s).pending = s.pending :=
  foldl_keeps State.pending _ (fun t r => by simp) rs s

theorem recallPools_pending (k : Nat) (ps : List PoolId) (s : State) : (ps.foldl (recallPool k) s).pending = s.pending :=
  foldl_keeps State.pending _ (fun t r => by simp) ps s

theorem handles_pending {h : State → Answer} (hh : Handles h) (s : State) : (h s).state.pending = s.pending := by
  cases hh with
  | copies _ keeps => rw [keeps]
  | cut sel status =>
    unfold handleCut
    split
    · rfl
    · split
      · rfl
      · simp only [Answer.plain]
        split <;> simp
  | release sel =>
    unfold handleRelease
    split
    · rfl
    · split
      · rfl
      · split <;> simp [Answer.plain]
  | ack seq =>
    unfold handleAck
    split
    · simp [Answer.plain]
    · split
      · rfl
      · split <;> simp [Answer.plain]
  | rejoin =>
    unfold handleRejoin
    split <;> simp [Answer.plain]
  | clearCheck => simp [handleClearCheck, Answer.plain]

theorem answerRequest_pending (e : RxEntry) (p : List Byte) {h : State → Answer} (hh : Handles h) (s : State) :
    (answerRequest e p h s).pending = s.pending := by
  unfold answerRequest
  dsimp only
  split <;> simp [serve, handles_pending hh, Answer.plain]

theorem acts_pending {s t : State} (h : Acts s t) : t.pending = s.pending := by
  cases h with
  | latchedReset => simp [finishWrite_pending]
  | countWarning => simp [setWarn, countWarning_pending]
  | setWarn => simp [setWarn]
  | clearWarn => simp [setWarn, resumeSettle_pending]
  | releaseReset => simp [releaseReset, setResetIn]
  | sendTimeExpiry rs => exact sendRunsOuts_pending rs s
  | gatherExpiry k => simp [recallPools_pending]
  | request e p h hh => exact answerRequest_pending e p hh s
  | completeWrite q =>
    unfold afterWrite
    split
    · simp
    · split <;> simp
  | _ => simp

/-- Settles O3: each command answers by one of the listed operations, and none of them reads or writes the queue of commands. -/
theorem everyCommandAnswersNext : Obligations.EveryCommandAnswersNext := by
  intro c s
  obtain ⟨t, ht, ha⟩ := exec_answers c s
  exact ⟨t, ht, acts_pending ha⟩

end Sys2Proof.Effects

namespace Sys2Proof.Effects

open Sys2Proof Sys2Proof.Machine

/-! ## The transmit queue, the pool, the history and the roster under each operation -/

section blocks

variable (s : State)

@[simp] theorem onLinkCounters_queue (f : LinkCounters → LinkCounters) : (onLinkCounters f s).line.queue = s.line.queue := by
  simp [onLinkCounters]

@[simp] theorem noteHeldStart_queue : (noteHeldStart s).line.queue = s.line.queue := by
  unfold noteHeldStart
  split <;> simp

@[simp] theorem enqueue_queue (b : FrameBody) : (enqueue b s).line.queue = queued b s.line.queue := by
  simp [enqueue, queued]

@[simp] theorem refuseOffer_queue : (refuseOffer s).line.queue = s.line.queue := by
  simp [refuseOffer]

@[simp] theorem listOffer_queue (o : Offer) : (listOffer o s).line.queue = s.line.queue := by
  simp [listOffer]

@[simp] theorem withdraw_queue (p : FrameBody → Bool) :
    (withdraw p s).line.queue = s.line.queue.filter (fun f => !p f.body) := by
  simp [withdraw]

@[simp] theorem setMonitor_queue (m : Monitor) (a b : Nat) : (setMonitor m a b s).line.queue = s.line.queue := by
  simp [setMonitor]

@[simp] theorem dropSending_queue : (dropSending s).line.queue = s.line.queue.filter (fun f => !f.sending) := by
  simp [dropSending]

/-- Raising a notice leaves the line as it is, so the boundary of a count period changes only the line's two marks. -/
@[simp] theorem countBoundary_line :
    (countBoundary s).line = { s.line with stuckMark := false, dupMark := false } := by
  unfold countBoundary
  exact (foldl_keeps State.line _ (fun t a => by simp) _ _).trans (by simp)

/-- The record's offers leave the list; nothing else of the line changes. -/
@[simp] theorem goToSettling_line (k : Nat) :
    (goToSettling k s).line = { s.line with offers := s.line.offers.filter (fun o => !o.isOf k) } := by
  simp [goToSettling]

@[simp] theorem settleNext_queue : (settleNext s).line.queue = s.line.queue := by
  unfold settleNext
  (repeat' split) <;> simp

@[simp] theorem advanceRing_queue : (advanceRing s).line.queue = s.line.queue := by
  unfold advanceRing
  split
  · split <;> simp
  · rfl

@[simp] theorem openNext_queue (n : Nat) (b : Band) : (openNext n b s).line.queue = s.line.queue := by
  simp [openNext]

@[simp] theorem setPoolMode_entries : (setPoolMode s).rx.entries = s.rx.entries := by
  simp only [setPoolMode, State.onRx_blocks]
  (repeat' split) <;> rfl

/-- Raising a notice leaves the pool as it is, so the boundary of a count period only clears the pool's drop marks. -/
@[simp] theorem countBoundary_rx :
    (countBoundary s).rx = { s.rx with dropCurrent := false, dropLate := false, dropService := false } := by
  unfold countBoundary
  exact (foldl_keeps State.rx _ (fun t a => by simp) _ _).trans (by simp)

theorem countBoundary_roster :
    (countBoundary s).roster =
      { s.roster with
        entries := s.roster.entries.map (fun e => { e.evaluate s.image.rateLimit with frames := 0 })
        fullMark := false
        counters := { s.roster.counters with
          quarantines := bumpBy (s.roster.newlyQuarantined s.image.rateLimit).length s.roster.counters.quarantines
          quarantineReleases :=
            bumpBy (s.roster.released s.image.rateLimit) s.roster.counters.quarantineReleases } } := by
  unfold countBoundary
  exact (foldl_keeps State.roster _ (fun t a => by simp) _ _).trans (by simp)

theorem evaluate_station (limit : Nat) (e : Peer) : (e.evaluate limit).station = e.station := by
  unfold Peer.evaluate
  (repeat' split) <;> rfl

/-- A count period's end evaluates the entries and restarts their counts; no station comes or goes. -/
@[simp] theorem countBoundary_stations :
    (countBoundary s).roster.entries.map (·.station) = s.roster.entries.map (·.station) := by
  simp [countBoundary_roster, Function.comp_def, evaluate_station]

@[simp] theorem updateRecord_history (k : Nat) (f : Record → Record) :
    (updateRecord k f s).ring.history = s.ring.history := by
  simp [updateRecord]

@[simp] theorem onRingCounters_history (f : RingCounters → RingCounters) :
    (onRingCounters f s).ring.history = s.ring.history := by
  simp [onRingCounters]

@[simp] theorem openRecord_history (n : Nat) (b : Band) (x : Bool) : (openRecord n b x s).ring.history = s.ring.history := by
  simp [openRecord]

@[simp] theorem finishGather_history (k : Nat) : (finishGather k s).ring.history = s.ring.history := by
  simp [finishGather]

@[simp] theorem checkGather_history (k : Nat) : (checkGather k s).ring.history = s.ring.history := by
  unfold checkGather
  split
  · split <;> simp
  · rfl

@[simp] theorem goToSettling_history (k : Nat) : (goToSettling k s).ring.history = s.ring.history := by
  simp [goToSettling]

@[simp] theorem settleNext_history : (settleNext s).ring.history = s.ring.history := by
  unfold settleNext
  (repeat' split) <;> simp

@[simp] theorem advanceRing_history : (advanceRing s).ring.history = s.ring.history := by
  unfold advanceRing
  split
  · split <;> simp
  · rfl

@[simp] theorem renumberOpen_history (c : Nat) : (renumberOpen c s).ring.history = s.ring.history := by
  unfold renumberOpen
  split <;> simp

@[simp] theorem closeRecord_history (c : Nat) (x : CloseCause) (st : Option Nat) :
    (closeRecord c x st s).ring.history = s.ring.history := by
  unfold closeRecord
  split <;> simp

@[simp] theorem openNext_history (n : Nat) (b : Band) : (openNext n b s).ring.history = s.ring.history := by
  simp [openNext]

/-- An entry that is replaced by one of its own station leaves the stations as they are. -/
theorem updatePeer_stations (st : Nat) (f : Peer → Peer) (hf : ∀ e, e.station = st → (f e).station = st) :
    (updatePeer st f s).roster.entries.map (·.station) = s.roster.entries.map (·.station) := by
  simp only [updatePeer, State.onRoster_blocks, List.map_map]
  refine List.map_congr_left fun e _ => ?_
  simp only [Function.comp_apply, beq_iff_eq]
  split
  · next h => rw [hf e h, h]
  · rfl

end blocks

/-! ## What is kept within bounds -/

/-- What s has within its bounds, t has too: each class of the transmit queue, the pool, the notices, the history, the roster. -/
structure Keeps (s t : State) : Prop where
  queue : s.queueBounded → t.queueBounded
  pool : s.poolBounded → t.poolBounded
  notices : s.noticesBounded → t.noticesBounded
  history : s.historyBounded → t.historyBounded
  roster : s.rosterOrdered → t.rosterOrdered

theorem Keeps.refl (s : State) : Keeps s s := ⟨id, id, id, id, id⟩

theorem Keeps.trans {s t u : State} (h : Keeps s t) (k : Keeps t u) : Keeps s u :=
  ⟨k.queue ∘ h.queue, k.pool ∘ h.pool, k.notices ∘ h.notices, k.history ∘ h.history, k.roster ∘ h.roster⟩

/-- What each operation of a fold keeps, the fold keeps. -/
theorem foldl_induction {σ α : Type} {P : σ → Prop} {f : σ → α → σ} (h : ∀ t a, P t → P (f t a)) (l : List α) {t : σ}
    (ht : P t) : P (l.foldl f t) := by
  induction l generalizing t with
  | nil => exact ht
  | cons a l ih => exact ih (h t a ht)

theorem Keeps.foldl {α : Type} {f : State → α → State} (h : ∀ t a, Keeps t (f t a)) (l : List α) (s : State) :
    Keeps s (l.foldl f s) :=
  foldl_induction (P := Keeps s) (fun t a hs => hs.trans (h t a)) l (.refl s)

/-- t has the frames of s in its queue, the pool's entries, as many notices, the history and the stations of s. -/
def SameSizes (s t : State) : Prop :=
  t.line.queue = s.line.queue ∧ t.rx.entries = s.rx.entries ∧ t.cond.notices.length = s.cond.notices.length
    ∧ t.ring.history = s.ring.history ∧ t.roster.entries.map (·.station) = s.roster.entries.map (·.station)

theorem rosterOrdered_of_stations {s t : State} (h : t.roster.entries.map (·.station) = s.roster.entries.map (·.station))
    (hs : s.rosterOrdered) : t.rosterOrdered := by
  obtain ⟨hlen, hord⟩ := hs
  refine ⟨?_, by rwa [h]⟩
  rwa [← List.length_map (f := fun e : Peer => e.station), h, List.length_map]

theorem SameSizes.keeps {s t : State} (h : SameSizes s t) : Keeps s t := by
  obtain ⟨hq, hx, hc, hh, hr⟩ := h
  refine ⟨?_, ?_, ?_, ?_, rosterOrdered_of_stations hr⟩
  · simp [State.queueBounded, hq]
  · simp [State.poolBounded, hx]
  · simp [State.noticesBounded, hc]
  · simp [State.historyBounded, hh]

/-- t differs from s at most in blocks that no bound speaks of and in the line. -/
theorem Keeps.of_line {s t : State} (hq : s.queueBounded → t.queueBounded) (hx : t.rx = s.rx) (hc : t.cond = s.cond)
    (hh : t.ring = s.ring) (hr : t.roster = s.roster) : Keeps s t := by
  refine ⟨hq, ?_, ?_, ?_, rosterOrdered_of_stations (by rw [hr])⟩
  · simp [State.poolBounded, hx]
  · simp [State.noticesBounded, hc]
  · simp [State.historyBounded, hh]

theorem Keeps.of_rx {s t : State} (hx : s.poolBounded → t.poolBounded) (hl : t.line = s.line) (hc : t.cond = s.cond)
    (hh : t.ring = s.ring) (hr : t.roster = s.roster) : Keeps s t := by
  refine ⟨?_, hx, ?_, ?_, rosterOrdered_of_stations (by rw [hr])⟩
  · simp [State.queueBounded, hl]
  · simp [State.noticesBounded, hc]
  · simp [State.historyBounded, hh]

theorem Keeps.of_cond {s t : State} (hc : s.noticesBounded → t.noticesBounded) (hl : t.line = s.line) (hx : t.rx = s.rx)
    (hh : t.ring = s.ring) (hr : t.roster = s.roster) : Keeps s t := by
  refine ⟨?_, ?_, hc, ?_, rosterOrdered_of_stations (by rw [hr])⟩
  · simp [State.queueBounded, hl]
  · simp [State.poolBounded, hx]
  · simp [State.historyBounded, hh]

theorem Keeps.of_roster {s t : State} (hr : s.rosterOrdered → t.rosterOrdered) (hl : t.line = s.line) (hx : t.rx = s.rx)
    (hc : t.cond = s.cond) (hh : t.ring = s.ring) : Keeps s t := by
  refine ⟨?_, ?_, ?_, ?_, hr⟩
  · simp [State.queueBounded, hl]
  · simp [State.poolBounded, hx]
  · simp [State.noticesBounded, hc]
  · simp [State.historyBounded, hh]

/-! ### The transmit queue (R149) -/

/-- Frames that leave the queue leave every class within its reserve. -/
theorem queueBounded_of_sublist {s t : State} (h : t.line.queue.Sublist s.line.queue) (hs : s.queueBounded) :
    t.queueBounded :=
  fun c => h.countP_le.trans (hs c)

/-- The class of a frame does not depend on whether it is on the line or how often it was tried. -/
theorem queueBounded_of_bodies {s t : State} (h : t.line.queue.map (·.body) = s.line.queue.map (·.body))
    (hs : s.queueBounded) : t.queueBounded := by
  intro c
  have fill (q : List TxFrame) : classFill c q = (q.map (·.body)).countP (fun b => b.txClass == c) := by
    simp [classFill, List.countP_map, Function.comp_def]
  rw [fill, h, ← fill]
  exact hs c

theorem hasRoom_iff {s : State} {c : TxClass} : s.hasRoom c = true ↔ classFill c s.line.queue < c.reserve := by
  simp [State.hasRoom]

/-- A frame that enters while its class has room leaves every class within its reserve. -/
theorem enqueue_keepsBounds {s : State} {b : FrameBody} (room : s.hasRoom b.txClass = true) : Keeps s (enqueue b s) := by
  refine .of_line (fun hs c => ?_) (by simp) (by simp) (by simp) (by simp)
  rw [enqueue_queue, classFill_queued]
  split
  · next heq =>
    subst heq
    exact hasRoom_iff.mp room
  · exact hs c

theorem withdraw_keepsBounds (p : FrameBody → Bool) (s : State) : Keeps s (withdraw p s) :=
  .of_line (queueBounded_of_sublist (by simp)) (by simp) (by simp) (by simp) (by simp)

/-- Going on the line, or back into the queue, leaves the frames what they are. -/
theorem releaseSending_bodies (more : Nat) (q : List TxFrame) :
    (releaseSending more q).map (·.body) = q.map (·.body) := by
  simp only [releaseSending, List.map_map]
  refine List.map_congr_left fun f _ => ?_
  simp only [Function.comp_apply]
  split <;> rfl

theorem startFrame_bodies (s : State) : (startFrame s).line.queue.map (·.body) = s.line.queue.map (·.body) := by
  simp only [startFrame, setMonitor_queue, State.onLine_blocks]
  split <;> simp_all

/-! ### The notices (R187) -/

theorem releaseLatch_keepsBounds (c : Condition) (s : State) : Keeps s (releaseLatch c s) :=
  SameSizes.keeps (by simp [SameSizes])

theorem displaceNotice_length {s : State} (hs : s.noticesBounded) : (displaceNotice s).cond.notices.length < 8 := by
  unfold displaceNotice
  unfold State.noticesBounded at hs
  split
  · next hn =>
    rw [hn] at hs
    split
    · simp at hs ⊢; omega
    · omega
  · next hn => simp [hn]

/-- A full list loses its oldest notice before another joins. -/
theorem raiseNoticeAt_keepsBounds (c : Cause) (p k : Nat) (s : State) : Keeps s (raiseNoticeAt c p k s) := by
  refine .of_cond (fun hs => ?_) (by simp) (by simp) (by simp) (by simp)
  unfold raiseNoticeAt
  split
  · exact hs
  · have := displaceNotice_length hs
    simp only [State.noticesBounded, joinNotice, State.onCond_blocks, List.length_append, List.length_cons,
      List.length_nil]
    omega

theorem raiseNotice_keepsBounds (c : Cause) (p : Nat) (s : State) : Keeps s (raiseNotice c p s) :=
  raiseNoticeAt_keepsBounds c p s.interval.openNumber s

/-- An operation that changes the condition unit alone, and drops or alters notices without adding one. -/
theorem Keeps.onCond (f : CondUnit → CondUnit) (s : State) (hf : (f s.cond).notices.length ≤ s.cond.notices.length) :
    Keeps s (s.onCond f) :=
  .of_cond (fun hs => le_trans (by simpa using hf) hs) (by simp) (by simp) (by simp) (by simp)

theorem setCondSending_keepsBounds (q : Nat) (x : CondSending) (s : State) : Keeps s (setCondSending q x s) :=
  .of_cond (by simp [State.noticesBounded, setCondSending]) (by simp) (by simp) (by simp) (by simp)

/-! ### The pool (R157, R166) -/

/-- An operation that changes the pool alone and adds no entry. -/
theorem onRx_keepsBounds (f : RxPool → RxPool) (s : State) (hf : (f s.rx).entries.length ≤ s.rx.entries.length) :
    Keeps s (s.onRx f) :=
  .of_rx (fun hs => le_trans (by simpa using hf) hs) (by simp) (by simp) (by simp) (by simp)

theorem removeHead_length (c : RxClass) (es : List RxEntry) : (removeHead c es).length ≤ es.length := by
  induction es with
  | nil => simp [removeHead]
  | cons e rest ih =>
    unfold removeHead
    split <;> simp [ih]

theorem takeHead_keepsBounds (c : RxClass) (s : State) : Keeps s (takeHead c s) :=
  onRx_keepsBounds _ s (removeHead_length c _)

theorem purgeLate_keepsBounds (s : State) : Keeps s (purgeLate s) :=
  onRx_keepsBounds _ s (List.length_filter_le _ _)

/-- A frame is admitted only while one of the 40 entries is free. -/
theorem admitFrame_keepsBounds {f : RxFrame} {c : RxClass} {s : State} (h : s.rx.admits c = true) (x : Bool) :
    Keeps s (admitFrame f c x s) := by
  refine .of_rx (fun _ => ?_) (by simp) (by simp) (by simp) (by simp)
  have hfree : 0 < 40 - s.rx.entries.length := by
    simp only [RxPool.admits, Bool.and_eq_true, decide_eq_true_eq] at h
    exact h.1.2
  simp only [State.poolBounded, admitFrame, State.onRx_blocks, List.length_append, List.length_cons, List.length_nil]
  omega

theorem dropFrame_keepsBounds (f : RxFrame) (c : RxClass) (s : State) : Keeps s (dropFrame f c s) := by
  have hcount : Keeps s (onRxCounters (fun k => k.countDrop c) s) := onRx_keepsBounds _ s (le_refl _)
  unfold dropFrame
  dsimp only
  split
  · exact hcount
  · refine (hcount.trans (onRx_keepsBounds _ _ ?_)).trans (raiseNotice_keepsBounds _ _ _)
    cases c <;> simp [RxPool.setDropMark]

theorem admitOrDrop_keepsBounds (f : RxFrame) (x : Bool) (s : State) : Keeps s (admitOrDrop f x s) := by
  unfold admitOrDrop
  dsimp only
  split
  · next h => exact admitFrame_keepsBounds h x
  · exact dropFrame_keepsBounds _ _ _

theorem onRxCounters_keepsBounds (f : RxCounters → RxCounters) (s : State) : Keeps s (onRxCounters f s) :=
  onRx_keepsBounds _ s (le_refl _)

theorem filterFrame_keepsBounds (f : RxFrame) (x : Bool) (s : State) : Keeps s (filterFrame f x s) := by
  unfold filterFrame
  split
  · exact onRxCounters_keepsBounds _ _
  · exact onRxCounters_keepsBounds _ _
  · split
    · exact onRxCounters_keepsBounds _ _
    · exact admitOrDrop_keepsBounds _ _ _
  · split
    · exact onRxCounters_keepsBounds _ _
    · split
      · exact admitOrDrop_keepsBounds _ _ _
      · exact onRxCounters_keepsBounds _ _
  · split
    · exact admitOrDrop_keepsBounds _ _ _
    · exact onRxCounters_keepsBounds _ _
  · exact admitOrDrop_keepsBounds _ _ _
  · split
    · exact admitOrDrop_keepsBounds _ _ _
    · exact onRxCounters_keepsBounds _ _

/-! ### The roster (R122 to R125) -/

/-- An operation that changes the roster alone and keeps its order. -/
theorem onRoster_keepsBounds (f : Roster → Roster) (s : State) (hf : s.rosterOrdered → (s.onRoster f).rosterOrdered) :
    Keeps s (s.onRoster f) :=
  .of_roster hf (by simp) (by simp) (by simp) (by simp)

theorem onRosterCounters_keepsBounds (f : RosterCounters → RosterCounters) (s : State) : Keeps s (onRosterCounters f s) :=
  onRoster_keepsBounds _ s (rosterOrdered_of_stations (by simp))

theorem updatePeer_keepsBounds (st : Nat) (f : Peer → Peer) (s : State) (hf : ∀ e, e.station = st → (f e).station = st) :
    Keeps s (updatePeer st f s) :=
  onRoster_keepsBounds _ s (rosterOrdered_of_stations (updatePeer_stations s st f hf))

theorem passed_station (body : FrameBody) (e : Peer) : (e.passed body).station = e.station := by
  unfold Peer.passed
  dsimp only
  split <;> split <;> simp only [Peer.addSummary, Peer.setRole] <;> (repeat' split) <;> rfl

theorem peer_station {s : State} {st : Nat} {e : Peer} (h : s.peer st = some e) : e.station = st := by
  simpa using List.find?_some h

/-- An entry joins between the lower and the higher stations, so the order stays where its station is new. -/
theorem insertPeer_pairwise (e : Peer) (es : List Peer) (hnew : ∀ x ∈ es, x.station ≠ e.station)
    (hord : (es.map (·.station)).Pairwise (· < ·)) :
    ((insertPeer e es).map (·.station)).Pairwise (· < ·) ∧ ∀ n, n ∈ (insertPeer e es).map (·.station) →
      n = e.station ∨ n ∈ es.map (·.station) := by
  induction es with
  | nil => simp [insertPeer]
  | cons x rest ih =>
    simp only [List.map_cons, List.pairwise_cons] at hord
    obtain ⟨hx, hrest⟩ := hord
    have hne : x.station ≠ e.station := hnew x (by simp)
    obtain ⟨ihord, ihmem⟩ := ih (fun y hy => hnew y (by simp [hy])) hrest
    unfold insertPeer
    split
    · next hlt =>
      refine ⟨?_, by simp⟩
      simp only [List.map_cons, List.pairwise_cons, List.mem_cons]
      refine ⟨?_, hx, hrest⟩
      rintro n (rfl | hn)
      · exact hlt
      · exact hlt.trans (hx n hn)
    · next hge =>
      refine ⟨?_, ?_⟩
      · simp only [List.map_cons, List.pairwise_cons]
        refine ⟨fun n hn => ?_, ihord⟩
        obtain rfl | hn := ihmem n hn
        · omega
        · exact hx n hn
      · intro n hn
        simp only [List.map_cons, List.mem_cons] at hn ⊢
        obtain rfl | hn := hn
        · exact .inr (.inl rfl)
        · obtain rfl | hn := ihmem n hn
          · exact .inl rfl
          · exact .inr (.inr hn)

@[simp] theorem insertPeer_length (e : Peer) (es : List Peer) : (insertPeer e es).length = es.length + 1 := by
  induction es with
  | nil => rfl
  | cons x rest ih =>
    unfold insertPeer
    split <;> simp [ih]

theorem newPeer_station (f : RxFrame) (n : Nat) : (newPeer f n).station = f.source := passed_station _ _

/-- A new station joins a roster of fewer than 32 entries. -/
theorem learn_rosterOrdered {f : RxFrame} {s : State} (hnew : ∀ e ∈ s.roster.entries, e.station ≠ f.source)
    (room : s.roster.entries.length < 32) (hs : s.rosterOrdered) : (learn f s).rosterOrdered := by
  obtain ⟨-, hord⟩ := hs
  refine ⟨?_, ?_⟩
  · simpa [learn] using room
  · simp only [learn, State.onRoster_blocks]
    exact (insertPeer_pairwise _ _ (by simpa [newPeer_station] using hnew) hord).1

/-- An eviction makes room: the evicted station was in the roster. -/
theorem evictee_mem {es : List Peer} {x : Peer} (hs : (es.map (·.station)).Pairwise (· < ·)) (h : evictee es = some x) : x ∈ es := by
  obtain ⟨hnone, -⟩ | ⟨y, hy, hsome, -⟩ := evictee_spec es hs
  · rw [hnone] at h; cases h
  · rw [hsome] at h; cases h; exact hy

theorem rosterArrival_keepsBounds (f : RxFrame) (s : State) : Keeps s (rosterArrival f s).2 := by
  unfold rosterArrival
  split
  · next e he =>
    have hst := peer_station he
    dsimp only
    split
    · dsimp only
      refine Keeps.trans ?_ (onRosterCounters_keepsBounds _ _)
      exact updatePeer_keepsBounds _ _ _ fun _ _ => hst
    · exact updatePeer_keepsBounds _ _ _ fun _ _ => (passed_station _ _).trans hst
  · next hnone =>
    have hnew : ∀ e ∈ s.roster.entries, e.station ≠ f.source := by
      simpa [State.peer] using hnone
    split
    · next room => exact onRoster_keepsBounds _ s (learn_rosterOrdered hnew room)
    · split
      · next old hold =>
        refine Keeps.of_roster (fun hs => ?_) (by simp) (by simp) (by simp) (by simp)
        obtain ⟨hlen, hord⟩ := hs
        have hmem := evictee_mem hord hold
        refine learn_rosterOrdered (s := s.onRoster _) ?_ ?_ ⟨?_, ?_⟩
        · exact fun e he => hnew e (List.mem_filter.mp he).1
        · simp only [State.onRoster_blocks]
          refine lt_of_lt_of_le (List.length_filter_lt_length_iff_exists.mpr ⟨old, hmem, by simp⟩) hlen
        · exact (List.length_filter_le _ _).trans hlen
        · exact hord.sublist (List.filter_sublist.map _)
      · dsimp only
        split
        · exact onRosterCounters_keepsBounds _ _
        · exact ((onRosterCounters_keepsBounds _ _).trans
            (onRoster_keepsBounds _ _ (rosterOrdered_of_stations (by simp)))).trans (raiseNotice_keepsBounds _ _ _)

theorem acceptFrame_keepsBounds (f : RxFrame) (s : State) : Keeps s (acceptFrame f s) := by
  have harrive := (onRx_keepsBounds (fun x => { x with arrivals := x.arrivals + 1 }) s (le_refl _)).trans
    (rosterArrival_keepsBounds f _)
  unfold acceptFrame
  dsimp only
  split
  · exact harrive
  · split
    · exact harrive.trans (filterFrame_keepsBounds _ _ _)
    · exact harrive
  · exact harrive.trans (filterFrame_keepsBounds _ _ _)

theorem countBoundary_keepsBounds (s : State) : Keeps s (countBoundary s) := by
  refine ⟨by simp [State.queueBounded], by simp [State.poolBounded], fun hs => ?_, by simp [State.historyBounded],
    rosterOrdered_of_stations (by simp)⟩
  unfold countBoundary
  refine foldl_induction (P := State.noticesBounded) (fun t st => (raiseNotice_keepsBounds _ st t).notices) _ ?_
  simpa [State.noticesBounded] using hs

/-- Freed entries leave; the others keep their stations. -/
theorem ageRoster_keepsBounds (c k : Nat) (s : State) : Keeps s (ageRoster c k s) := by
  refine .of_roster (fun hs => ?_) (by simp) (by simp) (by simp) (by simp)
  obtain ⟨hlen, hord⟩ := hs
  have hstations : (s.roster.entries.map (Peer.age s.image.codeA k (s.previousRecord c))).map (·.station) =
      s.roster.entries.map (·.station) := by
    rw [List.map_map]
    refine List.map_congr_left fun e _ => ?_
    simp only [Function.comp_apply, Peer.age, Peer.ageReader, Peer.ageNode]
    (repeat' split) <;> rfl
  refine ⟨?_, ?_⟩
  · exact (List.length_filter_le _ _).trans (by simpa using hlen)
  · refine List.Pairwise.sublist (List.filter_sublist.map _) ?_
    rw [hstations]
    exact hord

theorem takeAnnounce_keepsBounds (source : Nat) (m : Option Membership) (mask : PoolMask) (d : Digest) (n : Nat) (s : State) :
    Keeps s (takeAnnounce source m mask d n s) := by
  unfold takeAnnounce
  split
  · exact .refl s
  · next e he =>
    have hjudge (x : Peer) : (x.judgePlan s.roster.planDigest d).station = x.station := by
      unfold Peer.judgePlan
      (repeat' split) <;> rfl
    have hupdate : ∀ x : Peer, x.station = source → Keeps s (updatePeer source (fun _ => x) s) :=
      fun x hx => updatePeer_keepsBounds _ _ _ fun _ _ => hx
    have hx := hupdate _ ((hjudge { e with mask := mask, announcedInterval := some n, announcedMembership := m }).trans
      (show e.station = source from peer_station he))
    dsimp only
    split
    · exact (hx.trans (onRosterCounters_keepsBounds _ _)).trans (raiseNotice_keepsBounds _ _ _)
    · exact hx

end Sys2Proof.Effects

namespace Sys2Proof.Effects

open Sys2Proof Sys2Proof.Machine

/-! ## Every operation keeps the bounds -/

theorem Keeps.ite {c : Prop} [Decidable c] {s t u : State} (ht : Keeps s t) (hu : Keeps s u) : Keeps s (if c then t else u) := by
  split
  · exact ht
  · exact hu

/-! ### Updates of one block that no bound speaks of -/

theorem Keeps.onInterval (f : IntervalUnit → IntervalUnit) (s : State) : Keeps s (s.onInterval f) :=
  SameSizes.keeps (by simp [SameSizes])

theorem Keeps.onControl (f : Control → Control) (s : State) : Keeps s (s.onControl f) :=
  SameSizes.keeps (by simp [SameSizes])

theorem Keeps.onEngine (f : Engine → Engine) (s : State) : Keeps s (s.onEngine f) :=
  SameSizes.keeps (by simp [SameSizes])

theorem Keeps.onTable (f : AccountTable → AccountTable) (s : State) : Keeps s (s.onTable f) :=
  SameSizes.keeps (by simp [SameSizes])

theorem Keeps.onResp (f : Responder → Responder) (s : State) : Keeps s (s.onResp f) :=
  SameSizes.keeps (by simp [SameSizes])

theorem Keeps.onCheck (f : CrossCheck → CrossCheck) (s : State) : Keeps s (s.onCheck f) :=
  SameSizes.keeps (by simp [SameSizes])

theorem Keeps.onChannel (ch : ChannelId) (f : Channel → Channel) (s : State) : Keeps s (s.onChannel ch f) :=
  SameSizes.keeps (by simp [SameSizes])

theorem Keeps.requestWrite (w : StoreWrite) (a : Bool) (s : State) : Keeps s (Machine.requestWrite w a s) :=
  SameSizes.keeps (by simp [SameSizes])

theorem Keeps.onRing (f : Ring → Ring) (s : State) (hf : (f s.ring).history = s.ring.history) : Keeps s (s.onRing f) :=
  SameSizes.keeps (by simp [SameSizes, hf])

theorem Keeps.onRoster (f : Roster → Roster) (s : State)
    (hf : (f s.roster).entries.map (·.station) = s.roster.entries.map (·.station)) : Keeps s (s.onRoster f) :=
  SameSizes.keeps (by simp [SameSizes, hf])

theorem Keeps.onLine (f : Line → Line) (s : State) (hf : (f s.line).queue.Sublist s.line.queue) : Keeps s (s.onLine f) :=
  .of_line (queueBounded_of_sublist (by simpa using hf)) (by simp) (by simp) (by simp) (by simp)

theorem Keeps.updateRecord (k : Nat) (f : Record → Record) (s : State) : Keeps s (Machine.updateRecord k f s) :=
  SameSizes.keeps (by simp [SameSizes])

theorem Keeps.setPoolMode (s : State) : Keeps s (Machine.setPoolMode s) := SameSizes.keeps (by simp [SameSizes])

theorem Keeps.setAnnounce (x : AnnounceSending) (s : State) : Keeps s (Machine.setAnnounce x s) :=
  Keeps.onRoster _ s rfl

theorem Keeps.refuseOffer (s : State) : Keeps s (Machine.refuseOffer s) := SameSizes.keeps (by simp [SameSizes])

theorem Keeps.listOffer (o : Offer) (s : State) : Keeps s (Machine.listOffer o s) := SameSizes.keeps (by simp [SameSizes])

theorem Keeps.onRingCounters (f : RingCounters → RingCounters) (s : State) : Keeps s (Machine.onRingCounters f s) :=
  Keeps.onRing _ s rfl

theorem Keeps.onLinkCounters (f : LinkCounters → LinkCounters) (s : State) : Keeps s (Machine.onLinkCounters f s) :=
  SameSizes.keeps (by simp [SameSizes])

theorem Keeps.setMonitor (m : Monitor) (a b : Nat) (s : State) : Keeps s (Machine.setMonitor m a b s) :=
  SameSizes.keeps (by simp [SameSizes])

/-! ### Conditions -/

theorem withdrawOwnClose_keepsBounds (s : State) : Keeps s (withdrawOwnClose s) := by
  unfold withdrawOwnClose loadTimer
  split
  · exact (withdraw_keepsBounds _ _).trans <| (Keeps.onInterval _ _).trans (Keeps.onInterval _ _)
  · exact .refl s

theorem enterObserver_keepsBounds (s : State) : Keeps s (enterObserver s) := by
  unfold enterObserver
  exact (Keeps.onInterval _ s).trans <| (Keeps.onCond _ _ (le_refl _)).trans <| (withdrawOwnClose_keepsBounds _).trans <|
    (withdraw_keepsBounds _ _).trans <| (Keeps.onLine _ _ (List.Sublist.refl _)).trans <|
      (Keeps.onRing _ _ rfl).trans (Keeps.onRoster _ _ rfl)

theorem placeFault_keepsBounds (c : Cause) (p : Nat) (s : State) : Keeps s (placeFault c p s) := by
  unfold placeFault
  split
  · exact Keeps.onCond _ s (le_refl _)
  · split
    · exact (Keeps.onCond _ s (le_refl _)).trans (enterObserver_keepsBounds _)
    · split <;> exact Keeps.onCond _ s (le_refl _)

theorem raiseFault_keepsBounds (c : Cause) (p : Nat) (s : State) : Keeps s (raiseFault c p s) := by
  unfold raiseFault
  split
  · exact .refl s
  · exact (Keeps.onCond _ s (le_refl _)).trans (placeFault_keepsBounds c p _)

/-! ### Control lines, start and restore -/

theorem afterReset_keepsBounds (cause : ResetCause) (c : StoreContents) (a b : Bool) (p : Power) (q : List Instr) (s : State) :
    Keeps s (State.afterReset cause c a b p q) :=
  ⟨fun _ _ => Nat.zero_le _, fun _ => Nat.zero_le _, fun _ => Nat.zero_le _, fun _ => Nat.zero_le _,
    fun _ => ⟨Nat.zero_le _, .nil⟩⟩

theorem resetNode_keepsBounds (cause : ResetCause) (s : State) : Keeps s (resetNode cause s) :=
  afterReset_keepsBounds ..

theorem assertReset_keepsBounds (s : State) : Keeps s (assertReset s) := by
  unfold assertReset
  split
  · exact SameSizes.keeps (by simp [SameSizes, setResetIn])
  · split
    · exact SameSizes.keeps (by simp [SameSizes, setResetIn])
    · exact (SameSizes.keeps (by simp [SameSizes, setResetIn])).trans (resetNode_keepsBounds _ (setResetIn true s))

theorem restoreAccount_keepsBounds (s : State) (i : AccountId) : Keeps s (restoreAccount s i) := by
  have hfresh : Keeps s (freshAccount s i) :=
    (Keeps.onTable _ s).trans <| (raiseNotice_keepsBounds _ _ _).trans (Keeps.requestWrite _ _ _)
  unfold restoreAccount
  split
  · split
    · exact SameSizes.keeps (by simp [SameSizes])
    · exact hfresh
  · exact hfresh
  · exact SameSizes.keeps (by simp [SameSizes])

theorem raiseDamaged_keepsBounds (s : State) : Keeps s (raiseDamaged s) := by
  unfold raiseDamaged
  split
  · exact .refl s
  · exact raiseFault_keepsBounds _ _ _

theorem restore_keepsBounds (s : State) : Keeps s (restore s) := by
  have haccounts : Keeps s (allAccounts.foldl restoreAccount (allAccounts.foldl restoreStatement s)) :=
    (SameSizes.keeps (by simp [SameSizes])).trans (Keeps.foldl restoreAccount_keepsBounds _ _)
  unfold restore
  refine Keeps.trans ?_ (raiseDamaged_keepsBounds _)
  exact haccounts.trans (SameSizes.keeps (by simp [SameSizes]))

theorem finishLoad_keepsBounds (bytes : List Byte) (s : State) : Keeps s (finishLoad bytes s) := by
  unfold finishLoad
  split
  · unfold startValid enterListening
    refine Keeps.trans ?_ (Keeps.setMonitor _ _ _ _)
    refine Keeps.trans ?_ (Keeps.onInterval _ _)
    refine Keeps.trans ?_ (restore_keepsBounds _)
    refine Keeps.trans ?_ (raiseNotice_keepsBounds _ _ _)
    exact SameSizes.keeps (by simp [SameSizes, setLoad])
  · unfold startInvalid setHoldsAccounts setMembership
    exact (Keeps.onControl _ s).trans <| (raiseFault_keepsBounds _ _ _).trans <|
      (Keeps.onInterval _ _).trans (Keeps.onTable _ _)

theorem countWarning_keepsBounds (s : State) : Keeps s (countWarning s) := by
  unfold countWarning
  dsimp only
  refine SameSizes.keeps ?_
  (repeat' split) <;> simp [SameSizes]

theorem resumeSettle_keepsBounds (s : State) : Keeps s (resumeSettle s) := by
  unfold resumeSettle
  refine SameSizes.keeps ?_
  (repeat' split) <;> simp [SameSizes]

/-! ### Meter channels -/

theorem overrunSample_keepsBounds (ch : ChannelId) (n : Nat) (s : State) : Keeps s (overrunSample ch n s) := by
  unfold overrunSample
  dsimp only
  split
  · exact .refl s
  · split
    · exact Keeps.onChannel _ _ s
    · exact (Keeps.onChannel _ _ s).trans <| (Keeps.onChannel _ _ _).trans (raiseNotice_keepsBounds _ _ _)

theorem readSample_keepsBounds (ch : ChannelId) (a b : Int) (s : State) : Keeps s (readSample ch a b s) := by
  unfold readSample
  dsimp only
  split
  · exact Keeps.onChannel _ _ s
  · split
    · exact (Keeps.onChannel _ _ s).trans (raiseNotice_keepsBounds _ _ _)
    · exact Keeps.onChannel _ _ s

theorem integrateSample_keepsBounds (ch : ChannelId) (c : SampleClass) (v : Nat) (s : State) :
    Keeps s (integrateSample ch c v s) := by
  unfold integrateSample
  dsimp only
  split
  · exact .refl s
  · split
    · exact (Keeps.onChannel _ _ s).trans <| (Keeps.onChannel _ _ _).trans (raiseNotice_keepsBounds _ _ _)
    · exact (Keeps.onChannel _ _ s).trans (Keeps.onChannel _ _ _)

theorem energySample_keepsBounds (ch : ChannelId) (n : Nat) (a b : Int) (s : State) : Keeps s (energySample ch n a b s) := by
  unfold energySample
  dsimp only
  refine Keeps.trans ?_ (integrateSample_keepsBounds _ _ _ _)
  split
  · exact (Keeps.onChannel _ _ s).trans (readSample_keepsBounds _ _ _ _)
  · exact Keeps.onChannel _ _ s

theorem levelTamper_keepsBounds (ch : ChannelId) (c : Contact) (s : State) : Keeps s (levelTamper ch c s) := by
  unfold levelTamper
  dsimp only
  split
  · split
    · split
      · exact Keeps.onChannel _ _ s
      · exact (Keeps.onChannel _ _ s).trans <| (Keeps.onChannel _ _ _).trans (raiseNotice_keepsBounds _ _ _)
    · exact Keeps.onChannel _ _ s
  · exact .refl s

theorem sampleChannel_keepsBounds (ch : ChannelId) (a b : Int) (c : Contact) (s : State) :
    Keeps s (sampleChannel ch a b c s) := by
  unfold sampleChannel
  dsimp only
  refine Keeps.trans ?_ (levelTamper_keepsBounds _ _ _)
  have hcount : Keeps s (overrunSample ch (s.channels.get ch).sincePulses
      (s.onChannel ch (Channel.countSample (s.channelDef ch)))) :=
    (Keeps.onChannel _ _ s).trans (overrunSample_keepsBounds _ _ _)
  split
  · exact hcount
  · exact hcount.trans (energySample_keepsBounds _ _ _ _ _)

theorem pulseTamper_keepsBounds (ch : ChannelId) (s : State) : Keeps s (pulseTamper ch s) := by
  unfold pulseTamper
  dsimp only
  split
  · exact Keeps.onChannel _ _ s
  · exact (Keeps.onChannel _ _ s).trans <| (Keeps.onChannel _ _ _).trans (raiseNotice_keepsBounds _ _ _)

/-! ### The engine -/

theorem orphanCheck_keepsBounds (k : Nat) (t : Totals) (p : PoolId) (s : State) : Keeps s (orphanCheck k t p s) := by
  unfold orphanCheck
  dsimp only
  split
  · refine Keeps.ite ?_ (Keeps.updateRecord _ _ s)
    exact (Keeps.updateRecord _ _ s).trans <| (Keeps.updateRecord _ _ _).trans (raiseNotice_keepsBounds _ _ _)
  · exact Keeps.updateRecord _ _ _

theorem imbalanceCheck_keepsBounds (k : Nat) (t : Totals) (p : PoolId) (s : State) : Keeps s (imbalanceCheck k t p s) := by
  unfold imbalanceCheck
  dsimp only
  exact Keeps.ite ((Keeps.updateRecord _ _ s).trans (raiseNotice_keepsBounds _ _ _)) (.refl s)

theorem completeCompute_keepsBounds (j : ComputeJob) (s : State) : Keeps s (completeCompute j s) := by
  unfold completeCompute
  dsimp only
  refine Keeps.trans ?_ (Keeps.onEngine _ _)
  refine (Keeps.updateRecord _ _ s).trans (Keeps.foldl (fun t p => ?_) _ _)
  exact (orphanCheck_keepsBounds _ _ _ _).trans (imbalanceCheck_keepsBounds _ _ _ _)

theorem raiseLimits_keepsBounds (a : Adding) (s : State) : Keeps s (raiseLimits a s) := by
  unfold raiseLimits
  exact (Keeps.onTable _ s).trans (Keeps.foldl (fun t p => raiseFault_keepsBounds _ p t) _ _)

theorem awaitWrite_keepsBounds (j : SettleJob) (w : SettleWrite) (s : State) : Keeps s (awaitWrite j w s) :=
  SameSizes.keeps (by simp [SameSizes])

theorem onAccountCounters_keepsBounds (f : AccountCounters → AccountCounters) (s : State) :
    Keeps s (onAccountCounters f s) :=
  SameSizes.keeps (by simp [SameSizes])

theorem onEngineCounters_keepsBounds (f : EngineCounters → EngineCounters) (s : State) : Keeps s (onEngineCounters f s) :=
  SameSizes.keeps (by simp [SameSizes])

theorem settleAccounts_keepsBounds (r : Record) (l : List AccountId) (j : SettleJob) (s : State) :
    Keeps s (settleAccounts r j l s) := by
  induction l generalizing s with
  | nil => exact SameSizes.keeps (by simp [SameSizes, settleAccounts])
  | cons i rest ih =>
    unfold settleAccounts
    dsimp only
    split
    · exact ih s
    · split
      · exact (onAccountCounters_keepsBounds _ s).trans (ih _)
      · split
        · exact (onEngineCounters_keepsBounds _ s).trans (ih _)
        · exact (raiseLimits_keepsBounds _ s).trans (awaitWrite_keepsBounds _ _ _)

theorem startSettle_keepsBounds (r : Record) (rest : List Job) (s : State) : Keeps s (startSettle r rest s) := by
  unfold startSettle
  refine Keeps.trans ?_ (settleAccounts_keepsBounds _ _ _ _)
  split <;> exact SameSizes.keeps (by simp [SameSizes])

theorem takeSettled_keepsBounds (j : SettleJob) (w : SettleWrite) (s : State) : Keeps s (takeSettled j w s) :=
  SameSizes.keeps (by simp [SameSizes])

theorem settleFinals_keepsBounds (j : SettleJob) (l : List AccountId) (s : State) : Keeps s (settleFinals j s l) :=
  SameSizes.keeps (by simp [SameSizes])

theorem settleWriteDone_keepsBounds (s : State) : Keeps s (settleWriteDone s) := by
  unfold settleWriteDone
  split
  · split
    · exact .refl s
    · dsimp only
      have htake := takeSettled_keepsBounds
      split
      · split
        · exact (htake _ _ s).trans (settleAccounts_keepsBounds _ _ _ _)
        · exact (htake _ _ s).trans (settleFinals_keepsBounds _ _ _)
      · exact (htake _ _ s).trans (settleFinals_keepsBounds _ _ _)
      · exact (htake _ _ s).trans (Keeps.onEngine _ _)
  · exact .refl s

theorem afterWrite_keepsBounds (q : StoreRequest) (s : State) : Keeps s (afterWrite q s) := by
  unfold afterWrite
  split
  · exact resetNode_keepsBounds _ _
  · split
    · exact settleWriteDone_keepsBounds s
    · exact .refl s

/-- The completed record leaves the ring, and its entry joins a history that never grows beyond four. -/
theorem completeSettle_keepsBounds (j : SettleJob) (r : Record) (s : State) : Keeps s (completeSettle j r s) := by
  refine ⟨?_, ?_, ?_, fun _ => ?_, rosterOrdered_of_stations (by simp)⟩
  · simp [State.queueBounded]
  · simp [State.poolBounded]
  · simp [State.noticesBounded]
  · simpa [State.historyBounded, completeSettle] using pushHistory_length _ _

/-! ### The cross-check unit and intake -/

theorem advanceRun_keepsBounds (m : Nat) (p : PoolId) (st : Nat) (s : State) : Keeps s (advanceRun m p st s) := by
  unfold advanceRun
  dsimp only
  split
  · exact .refl s
  · split
    · exact (Keeps.onCheck _ s).trans <| (Keeps.onCheck _ _).trans (raiseFault_keepsBounds _ _ _)
    · exact Keeps.onCheck _ s

theorem handDigest_keepsBounds (k : Nat) (p : PoolId) (st : Nat) (d : Option Digest) (s : State) :
    Keeps s (handDigest k p st d s) := by
  unfold handDigest
  split
  · exact .refl s
  · split
    · exact SameSizes.keeps (by simp [SameSizes])
    · split
      · exact SameSizes.keeps (by simp [SameSizes])
      · split
        · exact SameSizes.keeps (by simp [SameSizes])
        · refine Keeps.trans ?_ (advanceRun_keepsBounds _ _ _ _)
          exact (Keeps.onCheck _ s).trans (Keeps.onCheck _ _)

theorem repeatedSummary_keepsBounds (st : Nat) (e : Entry) (b : SummaryBody) (s : State) :
    Keeps s (repeatedSummary st e b s) := by
  unfold repeatedSummary
  dsimp only
  split
  · exact Keeps.onRingCounters _ s
  · split
    · exact (Keeps.onRingCounters _ s).trans (Keeps.updateRecord _ _ _)
    · exact (Keeps.onRingCounters _ s).trans <| (Keeps.updateRecord _ _ _).trans (raiseNotice_keepsBounds _ _ _)

theorem newSummary_keepsBounds (st : Nat) (r : Record) (b : SummaryBody) (s : State) : Keeps s (newSummary st r b s) := by
  unfold newSummary
  dsimp only
  split <;> exact SameSizes.keeps (by simp [SameSizes])

theorem intake_keepsBounds (st : Nat) (b : SummaryBody) (s : State) : Keeps s (intake st b s) := by
  unfold intake intakeInto
  dsimp only
  split
  · refine Keeps.trans ?_ (Keeps.setPoolMode _)
    split
    · exact Keeps.onRingCounters _ s
    · refine Keeps.trans ?_ (handDigest_keepsBounds _ _ _ _ _)
      split
      · exact repeatedSummary_keepsBounds _ _ _ _
      · exact newSummary_keepsBounds _ _ _ _
  · exact .refl s

theorem summaryTooLate_keepsBounds (st : Nat) (b : SummaryBody) (s : State) : Keeps s (summaryTooLate st b s) :=
  (Keeps.onRingCounters _ s).trans (handDigest_keepsBounds _ _ _ _ _)

/-! ### Offers and recalls -/

theorem setSending_keepsBounds (k : Nat) (p : PoolId) (x : Sending) (s : State) : Keeps s (setSending k p x s) :=
  Keeps.updateRecord _ _ _

theorem offerSummary_keepsBounds (r : Record) (s : State) (p : PoolId) : Keeps s (offerSummary r s p) := by
  unfold offerSummary
  split
  · split
    · split
      · next room => exact (enqueue_keepsBounds (b := .summary _) room).trans (setSending_keepsBounds _ _ _ _)
      · exact (Keeps.listOffer _ s).trans (setSending_keepsBounds _ _ _ _)
    · exact setSending_keepsBounds _ _ _ _
  · exact .refl s

theorem sendRunsOut_keepsBounds (s : State) (r : Record) : Keeps s (sendRunsOut s r) :=
  (Keeps.updateRecord _ _ _).trans (Keeps.foldl (offerSummary_keepsBounds r) _ _)

theorem recallPool_keepsBounds (k : Nat) (s : State) (p : PoolId) : Keeps s (recallPool k s p) := by
  unfold recallPool
  split
  · exact .refl s
  · split
    · exact .refl s
    · split
      · next room => exact (enqueue_keepsBounds (b := .recall ..) room).trans (Keeps.updateRecord _ _ _)
      · exact (Keeps.refuseOffer s).trans (Keeps.onRingCounters _ _)

theorem offerResend_keepsBounds (r : Record) (p : PoolId) (s : State) : Keeps s (offerResend r p s) := by
  unfold offerResend
  split
  · next room => exact (enqueue_keepsBounds (b := .summary _) room).trans (Keeps.updateRecord _ _ _)
  · exact (Keeps.refuseOffer s).trans (Keeps.onRingCounters _ _)

theorem answerRecall_keepsBounds (k : Nat) (p : PoolId) (s : State) : Keeps s (answerRecall k p s) := by
  unfold answerRecall
  split
  · exact Keeps.onRingCounters _ s
  · split
    · exact Keeps.onRingCounters _ s
    · split
      · exact Keeps.onRingCounters _ s
      · split
        · exact .refl s
        · split
          · exact Keeps.onRingCounters _ s
          · exact offerResend_keepsBounds _ _ _

theorem announceDue_keepsBounds (s : State) : Keeps s (announceDue s) := by
  unfold announceDue
  split
  · split
    · next room => exact (enqueue_keepsBounds (b := s.announceBody) room).trans (Keeps.setAnnounce _ _)
    · exact (Keeps.listOffer _ s).trans (Keeps.setAnnounce _ _)
  · exact .refl s

/-! ### The interval unit -/

theorem takeCloseOf_keepsBounds (c : Nat) (x : CloseCause) (st : Option Nat) (b : BandSource) (s : State) :
    Keeps s (takeCloseOf c x st b s) := by
  unfold takeCloseOf announceAtClose
  dsimp only
  refine Keeps.trans ?_ (Keeps.setPoolMode _)
  refine Keeps.trans ?_ (Keeps.onInterval _ _)
  have hboundary : Keeps s (countBoundary (ageRoster c s.interval.openNumber (openNext (c + 1) (s.image.bandFor (c + 1) b)
      (applyCuts c (closeRecord c x st (renumberOpen c s)))))) := by
    refine Keeps.trans ?_ (countBoundary_keepsBounds _)
    refine Keeps.trans ?_ (ageRoster_keepsBounds _ _ _)
    exact SameSizes.keeps (by simp [SameSizes])
  split
  · exact hboundary.trans (announceDue_keepsBounds _)
  · exact hboundary

theorem takeRequest_keepsBounds (q : HeldClose) (s : State) : Keeps s (takeRequest q s) := by
  unfold takeRequest reportJump
  dsimp only
  split
  · exact (takeCloseOf_keepsBounds _ _ _ _ s).trans <| (Keeps.onInterval _ _).trans (raiseNoticeAt_keepsBounds _ _ _ _)
  · exact takeCloseOf_keepsBounds _ _ _ _ s

theorem loadTimer_keepsBounds (s : State) : Keeps s (loadTimer s) := Keeps.onInterval _ s

theorem holdClose_keepsBounds (q : HeldClose) (s : State) : Keeps s (holdClose q s) :=
  (Keeps.onInterval _ s).trans <| (withdrawOwnClose_keepsBounds _).trans <|
    (loadTimer_keepsBounds _).trans (countBoundary_keepsBounds _)

theorem clearDrift_keepsBounds (s : State) : Keeps s (clearDrift s) := Keeps.onInterval _ s

theorem consultDrift_keepsBounds (st k : Nat) (s : State) : Keeps s (consultDrift st k s) := by
  unfold consultDrift deviate
  dsimp only
  split
  · split
    · split
      · exact (Keeps.onInterval _ s).trans <| (Keeps.onInterval _ _).trans (raiseNoticeAt_keepsBounds _ _ _ _)
      · exact Keeps.onInterval _ s
    · exact clearDrift_keepsBounds s
  · exact .refl s

theorem queueOwnClose_keepsBounds (k : Nat) (b : Band) (s : State) : Keeps s (queueOwnClose k b s) := by
  unfold queueOwnClose
  split
  · next room => exact (enqueue_keepsBounds (b := .close k b) room).trans (Keeps.onInterval _ _)
  · exact loadTimer_keepsBounds s

theorem onIntervalCounters_keepsBounds (f : IntervalCounters → IntervalCounters) (s : State) :
    Keeps s (onIntervalCounters f s) :=
  Keeps.onInterval _ s

theorem countNumberLimit_keepsBounds (s : State) : Keeps s (countNumberLimit s) := onIntervalCounters_keepsBounds _ s

theorem ownExpiry_keepsBounds (s : State) : Keeps s (ownExpiry s) := by
  unfold ownExpiry
  dsimp only
  split
  · exact (countNumberLimit_keepsBounds s).trans (loadTimer_keepsBounds _)
  · split
    · split
      · exact (clearDrift_keepsBounds s).trans <| (takeRequest_keepsBounds _ _).trans (queueOwnClose_keepsBounds _ _ _)
      · exact (clearDrift_keepsBounds s).trans <| (takeRequest_keepsBounds _ _).trans (loadTimer_keepsBounds _)
    · exact holdClose_keepsBounds _ s

theorem enterMember_keepsBounds (n : Nat) (b : Band) (s : State) : Keeps s (enterMember n b s) := by
  unfold enterMember
  dsimp only
  refine Keeps.trans ?_ (announceDue_keepsBounds _)
  refine Keeps.trans ?_ (countBoundary_keepsBounds _)
  exact SameSizes.keeps (by simp [SameSizes])

theorem adopt_keepsBounds (j : Nat) (b : BandSource) (s : State) : Keeps s (adopt j b s) := by
  unfold adopt
  split
  · exact .refl s
  · split
    · exact countNumberLimit_keepsBounds s
    · exact (Keeps.onInterval _ s).trans (enterMember_keepsBounds _ _ _)

theorem frameClose_keepsBounds (q : HeldClose) (s : State) : Keeps s (frameClose q s) :=
  (withdrawOwnClose_keepsBounds s).trans <| (takeRequest_keepsBounds q _).trans (loadTimer_keepsBounds _)

theorem foreignClose_keepsBounds (j : Nat) (b : Band) (st : Nat) (s : State) : Keeps s (foreignClose j b st s) := by
  unfold foreignClose
  dsimp only
  split
  · exact countNumberLimit_keepsBounds s
  · split
    · exact (withdrawOwnClose_keepsBounds s).trans (Keeps.updateRecord _ _ _)
    · split
      · split
        · exact (consultDrift_keepsBounds _ _ s).trans (frameClose_keepsBounds _ _)
        · exact holdClose_keepsBounds _ s
      · split
        · split
          · exact frameClose_keepsBounds _ s
          · exact holdClose_keepsBounds _ s
        · split <;> exact Keeps.onInterval _ s

theorem implicitClose_keepsBounds (st : Nat) (b : SummaryBody) (s : State) : Keeps s (implicitClose st b s) := by
  unfold implicitClose
  dsimp only
  split
  · exact countNumberLimit_keepsBounds s
  · refine Keeps.trans ?_ (intake_keepsBounds _ _ _)
    refine Keeps.trans ?_ (Keeps.onInterval _ _)
    split
    · exact frameClose_keepsBounds _ s
    · exact holdClose_keepsBounds _ s

theorem summaryJump_keepsBounds (st : Nat) (b : SummaryBody) (s : State) : Keeps s (summaryJump st b s) := by
  unfold summaryJump
  dsimp only
  split
  · exact countNumberLimit_keepsBounds s
  · split
    · exact (frameClose_keepsBounds _ s).trans (intake_keepsBounds _ _ _)
    · exact (holdClose_keepsBounds _ s).trans (Keeps.onRingCounters _ _)

theorem placeSummary_keepsBounds (st : Nat) (b : SummaryBody) (s : State) : Keeps s (placeSummary st b s) := by
  unfold placeSummary
  split
  · split
    · exact summaryTooLate_keepsBounds _ _ _
    · split
      · exact intake_keepsBounds _ _ _
      · exact implicitClose_keepsBounds _ _ _
    · exact intake_keepsBounds _ _ _
  · split
    · exact summaryJump_keepsBounds _ _ _
    · exact summaryTooLate_keepsBounds _ _ _

theorem endDrain_keepsBounds (s : State) : Keeps s (endDrain s) := by
  refine Keeps.trans ?_ (purgeLate_keepsBounds _)
  exact SameSizes.keeps (by simp [SameSizes, startPeriod, Function.comp_def])

/-! ### The line -/

theorem dropSending_keepsBounds (s : State) : Keeps s (dropSending s) := Keeps.onLine _ s List.filter_sublist

/-- The same frames stand in the queue, sent or not. -/
theorem bodies_keepsBounds (f : Line → Line) (s : State) (hf : (f s.line).queue.map (·.body) = s.line.queue.map (·.body)) :
    Keeps s (s.onLine f) :=
  .of_line (queueBounded_of_bodies (by simpa using hf)) (by simp) (by simp) (by simp) (by simp)

theorem enterStuck_keepsBounds (s : State) : Keeps s (enterStuck s) := by
  unfold enterStuck
  dsimp only
  split
  · exact (Keeps.setMonitor _ _ _ s).trans (Keeps.onLinkCounters _ _)
  · exact (Keeps.setMonitor _ _ _ s).trans <| (Keeps.onLinkCounters _ _).trans <|
      (Keeps.onLine _ _ (List.Sublist.refl _)).trans (raiseFault_keepsBounds _ _ _)

theorem startFrame_keepsBounds (s : State) : Keeps s (startFrame s) :=
  .of_line (queueBounded_of_bodies (startFrame_bodies s)) (by simp) (by simp) (by simp) (by simp)

theorem tellEnded_keepsBounds (b : FrameBody) (s : State) : Keeps s (tellEnded b s) := by
  unfold tellEnded
  split
  · exact (loadTimer_keepsBounds s).trans (Keeps.onInterval _ _)
  · exact (Keeps.onCond _ s (le_refl _)).trans (setCondSending_keepsBounds _ _ _)
  · split
    · exact Keeps.updateRecord _ _ _
    · exact setSending_keepsBounds _ _ _ _
  · exact (Keeps.setAnnounce _ s).trans (onRosterCounters_keepsBounds _ _)
  · exact SameSizes.keeps (by simp [SameSizes])
  · exact .refl s
  · exact .refl s

theorem tellAbandoned_keepsBounds (b : FrameBody) (s : State) : Keeps s (tellAbandoned b s) := by
  unfold tellAbandoned
  split
  · exact loadTimer_keepsBounds s
  · exact setCondSending_keepsBounds _ _ _
  · split
    · exact Keeps.updateRecord _ _ _
    · exact setSending_keepsBounds _ _ _ _
  · exact Keeps.setAnnounce _ s
  · exact SameSizes.keeps (by simp [SameSizes])
  · exact .refl s
  · exact .refl s

theorem abandonFrame_keepsBounds (b : FrameBody) (s : State) : Keeps s (abandonFrame b s) := by
  unfold abandonFrame
  dsimp only
  split
  · exact (dropSending_keepsBounds s).trans <| (Keeps.onLinkCounters _ _).trans (tellAbandoned_keepsBounds _ _)
  · exact (dropSending_keepsBounds s).trans <| (Keeps.onLinkCounters _ _).trans <|
      (tellAbandoned_keepsBounds _ _).trans (raiseNotice_keepsBounds _ _ _)

theorem collide_keepsBounds (f : TxFrame) (s : State) : Keeps s (collide f s) := by
  unfold collide
  dsimp only
  split
  · exact (Keeps.setMonitor _ _ _ s).trans <| (Keeps.onLinkCounters _ _).trans (abandonFrame_keepsBounds _ _)
  · exact (Keeps.setMonitor _ _ _ s).trans <| (Keeps.onLinkCounters _ _).trans
      (bodies_keepsBounds _ _ (releaseSending_bodies _ _))

theorem endFrame_keepsBounds (f : TxFrame) (s : State) : Keeps s (endFrame f s) :=
  (Keeps.setMonitor _ _ _ s).trans <| (dropSending_keepsBounds _).trans <|
    (Keeps.onLinkCounters _ _).trans (tellEnded_keepsBounds _ _)

theorem admitOffer_keepsBounds (o : Offer) {s : State} (room : s.hasRoom .peer = true) : Keeps s (admitOffer o s) := by
  cases o with
  | summary b => exact (enqueue_keepsBounds (b := .summary b) room).trans (setSending_keepsBounds _ _ _ _)
  | announce => exact (enqueue_keepsBounds (b := s.announceBody) room).trans (Keeps.setAnnounce _ _)

theorem offerReply_keepsBounds (v : Serving) (s : State) : Keeps s (offerReply v s) := by
  unfold offerReply
  split
  · split
    · next room => exact (enqueue_keepsBounds (b := .reply _) room).trans (Keeps.onResp _ _)
    · exact (Keeps.refuseOffer s).trans (Keeps.onResp _ _)
  · exact .refl s

theorem handOn_keepsBounds (f : RxFrame) (s : State) : Keeps s (handOn f s) := by
  unfold handOn ownSource
  dsimp only
  split
  · split
    · exact (Keeps.onLinkCounters _ s).trans (Keeps.onLinkCounters _ _)
    · exact (Keeps.onLinkCounters _ s).trans <| (Keeps.onLinkCounters _ _).trans <|
        (Keeps.onLine _ _ (List.Sublist.refl _)).trans (raiseFault_keepsBounds _ _ _)
  · exact (Keeps.onLinkCounters _ s).trans (acceptFrame_keepsBounds _ _)

/-! ### Requests -/

theorem countAck_keepsBounds (s : State) : Keeps s (countAck s) := by
  unfold countAck onCondCounters
  exact Keeps.onCond _ s (le_refl _)

theorem handles_keepsBounds {h : State → Answer} (hh : Handles h) (s : State) : Keeps s (h s).state := by
  cases hh with
  | copies _ keeps =>
    rw [keeps]
    exact .refl s
  | cut sel status =>
    unfold handleCut
    split
    · exact .refl s
    · split
      · exact .refl s
      · dsimp only [Answer.plain]
        split
        · exact SameSizes.keeps (by simp [SameSizes])
        · exact .refl s
  | release sel =>
    unfold handleRelease
    split
    · exact .refl s
    · split
      · exact .refl s
      · split
        · exact SameSizes.keeps (by simp [SameSizes, Answer.plain])
        · exact .refl s
  | ack seq =>
    unfold handleAck
    split
    · exact (Keeps.onCond _ s (List.length_filter_le _ _)).trans <| (releaseLatch_keepsBounds _ _).trans
        (countAck_keepsBounds _)
    · split
      · exact .refl s
      · split
        · exact (Keeps.onCond _ s (le_refl _)).trans (countAck_keepsBounds _)
        · exact .refl s
  | rejoin =>
    unfold handleRejoin
    split
    · exact SameSizes.keeps (by simp [SameSizes, Answer.plain, acceptRejoin, beginDrain, onCondCounters])
    · exact .refl s
  | clearCheck => exact SameSizes.keeps (by simp [SameSizes, handleClearCheck, Answer.plain])

theorem answerRequest_keepsBounds (e : RxEntry) (p : List Byte) {h : State → Answer} (hh : Handles h) (s : State) :
    Keeps s (answerRequest e p h s) := by
  have hbegin : Keeps s (beginRequest s) :=
    (takeHead_keepsBounds .service s).trans (SameSizes.keeps (by simp [SameSizes, beginRequest]))
  unfold answerRequest serve
  dsimp only
  split
  · exact (hbegin.trans (handles_keepsBounds hh _)).trans (SameSizes.keeps (by simp [SameSizes]))
  · exact hbegin.trans (SameSizes.keeps (by simp [SameSizes, Answer.plain]))

/-! ### The commands -/

theorem acts_keepsBounds {s t : State} (h : Acts s t) : Keeps s t := by
  cases h with
  | nothing => exact .refl s
  | reset => exact resetNode_keepsBounds _ _
  | assertReset => exact assertReset_keepsBounds s
  | latchedReset =>
    refine Keeps.trans (SameSizes.keeps ?_) (resetNode_keepsBounds _ _)
    unfold finishWrite
    split <;> simp [SameSizes]
  | supplyLost => exact afterReset_keepsBounds _ _ _ _ _ _ _
  | load bytes => exact finishLoad_keepsBounds bytes s
  | countWarning => exact (countWarning_keepsBounds s).trans (SameSizes.keeps (by simp [SameSizes, setWarn]))
  | clearWarn => exact (SameSizes.keeps (by simp [SameSizes, setWarn])).trans (resumeSettle_keepsBounds _)
  | sample => exact sampleChannel_keepsBounds _ _ _ _ _
  | tamper ch => exact pulseTamper_keepsBounds ch s
  | lineStuck => exact enterStuck_keepsBounds s
  | startFrame => exact startFrame_keepsBounds s
  | loseContention => exact (bodies_keepsBounds _ s (releaseSending_bodies _ _)).trans (Keeps.onLinkCounters _ _)
  | collide f => exact collide_keepsBounds f s
  | endFrame f => exact endFrame_keepsBounds f s
  | admitOffer o rest room =>
    exact (Keeps.onLine _ s (List.Sublist.refl _)).trans (admitOffer_keepsBounds o (by simpa [State.hasRoom] using room))
  | offerCondition c compound room =>
    exact (enqueue_keepsBounds (b := .condition _) room).trans (setCondSending_keepsBounds _ _ _)
  | offerReply v => exact offerReply_keepsBounds v s
  | handOn f => exact (Keeps.setMonitor _ _ _ s).trans (handOn_keepsBounds f _)
  | ownExpiry => exact ownExpiry_keepsBounds s
  | founding => exact (Keeps.onInterval _ s).trans (enterMember_keepsBounds _ _ _)
  | sendTimeExpiry rs => exact Keeps.foldl sendRunsOut_keepsBounds rs s
  | gatherExpiry k =>
    refine (Keeps.foldl (recallPool_keepsBounds k) s.image.nodePools s).trans ?_
    exact SameSizes.keeps (by simp [SameSizes])
  | adoptClose => exact (takeHead_keepsBounds _ s).trans (adopt_keepsBounds _ _ _)
  | foreignClose => exact (takeHead_keepsBounds _ s).trans (foreignClose_keepsBounds _ _ _ _)
  | adoptSummary => exact (takeHead_keepsBounds _ s).trans (adopt_keepsBounds _ _ _)
  | placeSummary => exact (takeHead_keepsBounds _ s).trans (placeSummary_keepsBounds _ _ _)
  | dropRecall => exact takeHead_keepsBounds _ s
  | answerRecall => exact (takeHead_keepsBounds _ s).trans (answerRecall_keepsBounds _ _ _)
  | takeAnnounce => exact (takeHead_keepsBounds _ s).trans (takeAnnounce_keepsBounds _ _ _ _ _ _)
  | request e p f hf => exact answerRequest_keepsBounds e p hf s
  | completeCompute j => exact completeCompute_keepsBounds j s
  | startSettle => exact startSettle_keepsBounds _ _ s
  | completeWrite q => exact (SameSizes.keeps (by simp [SameSizes])).trans (afterWrite_keepsBounds q _)
  | completeSettle j r => exact completeSettle_keepsBounds j r s
  | takeHeld q => exact (Keeps.onInterval _ s).trans (takeRequest_keepsBounds q _)
  | endDrain => exact endDrain_keepsBounds s
  | _ => exact SameSizes.keeps (by simp [SameSizes, setWarn, releaseReset, setResetIn])

theorem tick_keepsBounds (s : State) : Keeps s (tick s) := by
  unfold tick
  split <;> exact SameSizes.keeps (by simp [SameSizes])

/-- A step keeps whatever is within bounds. -/
theorem step_keepsBounds {s t : State} (h : step s = .next t) : Keeps s t := by
  obtain ⟨-, rfl⟩ | ⟨rest, ha⟩ := step_cases h
  · exact tick_keepsBounds s
  · exact (SameSizes.keeps (by simp [SameSizes])).trans (acts_keepsBounds ha)

/-! ## The statements about capacities -/

/-- Every frame is of one of the four classes, so their reserves bound the queue. -/
theorem length_eq_classFills (q : List TxFrame) :
    q.length = classFill .close q + classFill .condition q + classFill .peer q + classFill .reply q := by
  induction q with
  | nil => rfl
  | cons f q ih =>
    simp only [classFill, List.length_cons, List.countP_cons] at ih ⊢
    cases f.body.txClass <;> simp <;> omega

theorem queue_length_le {s : State} (hs : s.queueBounded) : s.line.queue.length ≤ 16 := by
  have h1 := hs .close
  have h2 := hs .condition
  have h3 := hs .peer
  have h4 := hs .reply
  simp only [TxClass.reserve] at h1 h2 h3 h4
  rw [length_eq_classFills]
  omega

/-- Settles O6: every frame that enters finds room in its class, and the four reserves add up to 16. -/
theorem transmitQueueStaysWithinReserves : Obligations.TransmitQueueStaysWithinReserves := by
  intro s t hs h
  have ht := (step_keepsBounds h).queue hs
  exact ⟨ht, queue_length_le ht⟩

/-- Settles O7: a frame is admitted to a free entry, a notice joins after a full list has lost its oldest, and the history never
grows beyond four. -/
theorem capacitiesAreKept : Obligations.CapacitiesAreKept := by
  intro s t hpool hnotices hhistory h
  have hk := step_keepsBounds h
  exact ⟨hk.pool hpool, hk.notices hnotices, hk.history hhistory⟩

/-- Settles O8: a station joins once, at its place, into a roster with room. -/
theorem rosterStaysOrdered : Obligations.RosterStaysOrdered :=
  fun _ _ hs h => (step_keepsBounds h).roster hs

end Sys2Proof.Effects

namespace Sys2Proof.RingOrder

open Sys2Proof Sys2Proof.Machine Sys2Proof.Effects

/-! ## What the ring's order speaks of

The order reads the number and the state of each record, whether the node is MEMBER or OBSERVER, the open number and the held close.
Two states that agree on these are ordered alike. -/

def Record.key (r : Record) : Nat × RecordState := (r.number, r.state)

def State.keys (s : State) : List (Nat × RecordState) := s.ring.records.map Record.key

/-- s and t agree on what the ring's order reads. -/
structure SameRing (s t : State) : Prop where
  keys : State.keys t = State.keys s
  hasRing : t.hasRing ↔ s.hasRing
  openNumber : t.interval.openNumber = s.interval.openNumber
  held : t.interval.held = s.interval.held

theorem SameRing.refl (s : State) : SameRing s s := ⟨rfl, .rfl, rfl, rfl⟩

theorem SameRing.trans {s t u : State} (h : SameRing s t) (k : SameRing t u) : SameRing s u :=
  ⟨k.keys.trans h.keys, k.hasRing.trans h.hasRing, k.openNumber.trans h.openNumber, k.held.trans h.held⟩

theorem SameRing.foldl {α : Type} {f : State → α → State} (h : ∀ t a, SameRing t (f t a)) (l : List α) (s : State) :
    SameRing s (l.foldl f s) :=
  foldl_induction (P := SameRing s) (fun t a hs => hs.trans (h t a)) l (.refl s)

theorem SameRing.ite {c : Prop} [Decidable c] {s t u : State} (ht : SameRing s t) (hu : SameRing s u) :
    SameRing s (if c then t else u) := by
  split
  · exact ht
  · exact hu

theorem SameRing.length {s t : State} (h : SameRing s t) : t.ring.records.length = s.ring.records.length := by
  simpa [State.keys] using congrArg List.length h.keys

theorem pairwise_numbers_iff (s : State) :
    (s.ring.records.map (·.number)).Pairwise (· < ·) ↔ (State.keys s).Pairwise (fun a b => a.1 < b.1) := by
  simp [State.keys, List.pairwise_map, Record.key]

theorem countP_settling (s : State) :
    s.ring.records.countP (·.state == .settling) = (State.keys s).countP (·.2 == .settling) := by
  simp [State.keys, List.countP_map, Function.comp_def, Record.key]

/-- The keys with the OPEN record newest: no other record is OPEN. -/
def OpenLast (open_ : Nat) (ks : List (Nat × RecordState)) : Prop :=
  ∃ older, ks = older ++ [(open_, .opened)] ∧ ∀ x ∈ older, x.2 ≠ .opened

theorem openIsNewest_iff (s : State) : s.openIsNewest ↔ OpenLast s.interval.openNumber (State.keys s) := by
  constructor
  · rintro ⟨older, r, hrec, hst, hnum, hold⟩
    refine ⟨older.map Record.key, ?_, ?_⟩
    · simp [State.keys, hrec, Record.key, hst, hnum]
    · simpa [Record.key] using hold
  · rintro ⟨older, hkeys, hold⟩
    obtain ⟨xs, ys, hrec, hxs, hys⟩ := List.map_eq_append_iff.mp hkeys
    obtain ⟨r, rest, hrest, hr, hnil⟩ := List.map_eq_cons_iff.mp hys
    obtain rfl : rest = [] := List.map_eq_nil_iff.mp hnil
    obtain ⟨hnum, hst⟩ := Prod.mk.inj hr
    refine ⟨xs, r, by rw [hrec, hrest], hst, hnum, fun x hx => ?_⟩
    exact hold (Record.key x) (hxs ▸ List.mem_map_of_mem hx)

/-- The ring's order, read from the keys. -/
theorem ringOrdered_iff (s : State) :
    s.ringOrdered ↔
      (State.keys s).length ≤ 4 ∧ (State.keys s).Pairwise (fun a b => a.1 < b.1)
        ∧ (State.keys s).countP (·.2 == .settling) ≤ 1
        ∧ (s.hasRing → OpenLast s.interval.openNumber (State.keys s))
        ∧ (¬ s.hasRing → State.keys s = [] ∧ s.interval.held = none)
        ∧ ∀ h, s.interval.held = some h → s.interval.openNumber ≤ h.interval := by
  unfold State.ringOrdered
  rw [pairwise_numbers_iff, countP_settling, openIsNewest_iff]
  simp [State.keys]

theorem SameRing.ordered {s t : State} (h : SameRing s t) (hs : s.ringOrdered) : t.ringOrdered := by
  rw [ringOrdered_iff] at hs ⊢
  rw [h.keys, h.hasRing, h.openNumber, h.held]
  exact hs

/-! ## Operations that leave the ring's order as it is -/

theorem SameRing.of_blocks {s t : State} (hr : t.ring.records = s.ring.records) (hi : t.interval = s.interval) :
    SameRing s t :=
  ⟨by simp [State.keys, hr], by simp [State.hasRing, hi], by rw [hi], by rw [hi]⟩

/-- An update of the interval unit's timer, listen time, drift monitor, drain mark or counters. -/
theorem SameRing.onInterval (f : IntervalUnit → IntervalUnit) (s : State)
    (hm : (f s.interval).membership = s.interval.membership) (ho : (f s.interval).openNumber = s.interval.openNumber)
    (hh : (f s.interval).held = s.interval.held) : SameRing s (s.onInterval f) :=
  ⟨by simp [State.keys], by simp [State.hasRing, hm], by simpa using ho, by simpa using hh⟩

theorem SameRing.onRing (f : Ring → Ring) (s : State) (hf : (f s.ring).records.map Record.key = State.keys s) :
    SameRing s (s.onRing f) :=
  ⟨by simpa [State.keys] using hf, by simp [State.hasRing], by simp, by simp⟩

theorem SameRing.onLine (f : Line → Line) (s : State) : SameRing s (s.onLine f) := .of_blocks (by simp) (by simp)

theorem SameRing.onRoster (f : Roster → Roster) (s : State) : SameRing s (s.onRoster f) := .of_blocks (by simp) (by simp)

theorem SameRing.onCond (f : CondUnit → CondUnit) (s : State) : SameRing s (s.onCond f) := .of_blocks (by simp) (by simp)

theorem SameRing.onTable (f : AccountTable → AccountTable) (s : State) : SameRing s (s.onTable f) :=
  .of_blocks (by simp) (by simp)

theorem SameRing.onEngine (f : Engine → Engine) (s : State) : SameRing s (s.onEngine f) := .of_blocks (by simp) (by simp)

theorem SameRing.onCheck (f : CrossCheck → CrossCheck) (s : State) : SameRing s (s.onCheck f) :=
  .of_blocks (by simp) (by simp)

theorem SameRing.onControl (f : Control → Control) (s : State) : SameRing s (s.onControl f) :=
  .of_blocks (by simp) (by simp)

theorem onRingCounters_sameRing (f : RingCounters → RingCounters) (s : State) : SameRing s (onRingCounters f s) :=
  .onRing _ s rfl

theorem onIntervalCounters_sameRing (f : IntervalCounters → IntervalCounters) (s : State) :
    SameRing s (onIntervalCounters f s) :=
  .onInterval _ s rfl rfl rfl

theorem loadTimer_sameRing (s : State) : SameRing s (loadTimer s) := .onInterval _ s rfl rfl rfl

theorem clearDrift_sameRing (s : State) : SameRing s (clearDrift s) := .onInterval _ s rfl rfl rfl

theorem raiseNoticeAt_sameRing (c : Cause) (p k : Nat) (s : State) : SameRing s (raiseNoticeAt c p k s) :=
  .of_blocks (by simp) (by simp)

theorem raiseNotice_sameRing (c : Cause) (p : Nat) (s : State) : SameRing s (raiseNotice c p s) :=
  .of_blocks (by simp) (by simp)

theorem setPoolMode_sameRing (s : State) : SameRing s (setPoolMode s) := .of_blocks (by simp) (by simp)

theorem appendJob_sameRing (kind : JobKind) (k : Nat) (s : State) : SameRing s (appendJob kind k s) :=
  .of_blocks (by simp) (by simp)

theorem enqueue_sameRing (b : FrameBody) (s : State) : SameRing s (enqueue b s) := .of_blocks (by simp) (by simp)

theorem refuseOffer_sameRing (s : State) : SameRing s (refuseOffer s) := .of_blocks (by simp) (by simp)

theorem listOffer_sameRing (o : Offer) (s : State) : SameRing s (listOffer o s) := .of_blocks (by simp) (by simp)

theorem countBoundary_sameRing (s : State) : SameRing s (countBoundary s) := .of_blocks (by simp) (by simp)

theorem takeHead_sameRing (c : RxClass) (s : State) : SameRing s (takeHead c s) := .of_blocks (by simp) (by simp)

theorem keys_updateRecord (k : Nat) (f : Record → Record) (s : State) :
    State.keys (updateRecord k f s) =
      s.ring.records.map (fun r => if r.number = k then Record.key (f r) else Record.key r) := by
  simp only [State.keys, updateRecord, State.onRing_blocks, List.map_map]
  refine List.map_congr_left fun r _ => ?_
  simp only [Function.comp_apply, beq_iff_eq]
  split <;> rfl

/-- An update of a record that keeps its number and state. -/
theorem updateRecord_sameRing {k : Nat} {f : Record → Record} (hf : ∀ r, Record.key (f r) = Record.key r) (s : State) :
    SameRing s (updateRecord k f s) :=
  ⟨by rw [keys_updateRecord]; simp [hf, State.keys], by simp [State.hasRing], by simp, by simp⟩

theorem onPool_key (p : PoolId) (f : PoolPart → PoolPart) (r : Record) : Record.key (r.onPool p f) = Record.key r := rfl

theorem updatePool_sameRing (k : Nat) (p : PoolId) (f : PoolPart → PoolPart) (s : State) :
    SameRing s (updateRecord k (Record.onPool p f) s) :=
  updateRecord_sameRing (onPool_key p f) s

theorem withdraw_sameRing (p : FrameBody → Bool) (s : State) : SameRing s (withdraw p s) := .of_blocks (by simp) (by simp)

theorem withdrawOwnClose_sameRing (s : State) : SameRing s (withdrawOwnClose s) := by
  unfold withdrawOwnClose
  split
  · exact (withdraw_sameRing _ s).trans <| (SameRing.onInterval _ _ rfl rfl rfl).trans
      (loadTimer_sameRing _)
  · exact .refl s

/-- A MEMBER that enters OBSERVER keeps its ring. -/
theorem enterObserver_sameRing {s : State} (hs : s.hasRing) : SameRing s (enterObserver s) := by
  have hobserver : SameRing s (onCondCounters (fun c => { c with observerEntries := bump c.observerEntries })
      (s.onInterval (fun u => { u with membership := .observer }))) :=
    ⟨by simp [State.keys], by simpa [State.hasRing] using hs, by simp, by simp⟩
  unfold enterObserver
  dsimp only
  refine SameRing.trans ?_ (SameRing.onRoster _ _)
  refine SameRing.trans ?_ (SameRing.onRing _ _ (by simp [State.keys, Record.key, Function.comp_def]))
  refine SameRing.trans ?_ (SameRing.onLine _ _)
  exact hobserver.trans <| (withdrawOwnClose_sameRing _).trans (withdraw_sameRing _ _)

theorem placeFault_sameRing (c : Cause) (p : Nat) (s : State) : SameRing s (placeFault c p s) := by
  unfold placeFault
  split
  · exact .onCond _ s
  · split
    · next h =>
      simp only [Bool.and_eq_true, beq_iff_eq] at h
      exact (SameRing.onCond _ s).trans (enterObserver_sameRing (.inl (by simpa using h.2)))
    · split <;> exact .onCond _ s

theorem raiseFault_sameRing (c : Cause) (p : Nat) (s : State) : SameRing s (raiseFault c p s) := by
  unfold raiseFault
  split
  · exact .refl s
  · exact (SameRing.onCond _ s).trans (placeFault_sameRing c p _)

theorem raiseDamaged_sameRing (s : State) : SameRing s (raiseDamaged s) := by
  unfold raiseDamaged
  split
  · exact .refl s
  · exact raiseFault_sameRing _ _ _

theorem restore_sameRing (s : State) : SameRing s (restore s) := by
  unfold restore
  refine SameRing.trans ?_ (raiseDamaged_sameRing _)
  exact .of_blocks (by simp) (by simp)

theorem orphanCheck_sameRing (k : Nat) (t : Totals) (p : PoolId) (s : State) : SameRing s (orphanCheck k t p s) := by
  unfold orphanCheck
  dsimp only
  split
  · refine SameRing.ite ?_ (updatePool_sameRing _ _ _ _)
    exact (updatePool_sameRing _ _ _ s).trans <| (updatePool_sameRing _ _ _ _).trans (raiseNotice_sameRing _ _ _)
  · exact updatePool_sameRing _ _ _ _

theorem imbalanceCheck_sameRing (k : Nat) (t : Totals) (p : PoolId) (s : State) : SameRing s (imbalanceCheck k t p s) := by
  unfold imbalanceCheck
  dsimp only
  exact SameRing.ite ((updatePool_sameRing _ _ _ s).trans (raiseNotice_sameRing _ _ _)) (.refl s)

theorem completeCompute_sameRing (j : ComputeJob) (s : State) : SameRing s (completeCompute j s) := by
  unfold completeCompute
  dsimp only
  refine SameRing.trans ?_ (SameRing.onEngine _ _)
  refine (updateRecord_sameRing (by intro; rfl) s).trans (SameRing.foldl (fun t p => ?_) _ _)
  exact (orphanCheck_sameRing _ _ _ _).trans (imbalanceCheck_sameRing _ _ _ _)

theorem raiseLimits_sameRing (a : Adding) (s : State) : SameRing s (raiseLimits a s) := by
  unfold raiseLimits
  exact (SameRing.onTable _ s).trans (SameRing.foldl (fun t p => raiseFault_sameRing _ p t) _ _)

theorem awaitWrite_sameRing (j : SettleJob) (w : SettleWrite) (s : State) : SameRing s (awaitWrite j w s) :=
  .of_blocks (by simp) (by simp)

theorem settleAccounts_sameRing (r : Record) (l : List AccountId) (j : SettleJob) (s : State) :
    SameRing s (settleAccounts r j l s) := by
  induction l generalizing s with
  | nil => exact .of_blocks (by simp [settleAccounts]) (by simp [settleAccounts])
  | cons i rest ih =>
    unfold settleAccounts
    dsimp only
    split
    · exact ih s
    · split
      · exact (SameRing.onTable _ s).trans (ih _)
      · split
        · exact (SameRing.onEngine _ s).trans (ih _)
        · exact (raiseLimits_sameRing _ s).trans (awaitWrite_sameRing _ _ _)

theorem startSettle_sameRing (r : Record) (rest : List Job) (s : State) : SameRing s (startSettle r rest s) := by
  unfold startSettle
  refine SameRing.trans ?_ (settleAccounts_sameRing _ _ _ _)
  have hcount : SameRing s (countUncomputed r (s.onEngine (fun e => { e with jobs := rest }))) :=
    .of_blocks (by simp) (by simp)
  split
  · exact hcount.trans (updateRecord_sameRing (by intro; rfl) _)
  · exact hcount

theorem settleWriteDone_sameRing (s : State) : SameRing s (settleWriteDone s) := by
  have htake (j : SettleJob) (w : SettleWrite) : SameRing s (takeSettled j w s) := .of_blocks (by simp) (by simp)
  unfold settleWriteDone
  split
  · split
    · exact .refl s
    · dsimp only
      split
      · split
        · exact (htake _ _).trans (settleAccounts_sameRing _ _ _ _)
        · exact .of_blocks (by simp) (by simp)
      · exact .of_blocks (by simp) (by simp)
      · exact .of_blocks (by simp) (by simp)
  · exact .refl s

theorem advanceRun_sameRing (m : Nat) (p : PoolId) (st : Nat) (s : State) : SameRing s (advanceRun m p st s) := by
  unfold advanceRun
  dsimp only
  split
  · exact .refl s
  · split
    · exact (SameRing.onCheck _ s).trans <| (SameRing.onCheck _ _).trans (raiseFault_sameRing _ _ _)
    · exact .onCheck _ s

theorem handDigest_sameRing (k : Nat) (p : PoolId) (st : Nat) (d : Option Digest) (s : State) :
    SameRing s (handDigest k p st d s) := by
  unfold handDigest
  split
  · exact .refl s
  · split
    · exact .onCheck _ s
    · split
      · exact .onCheck _ s
      · split
        · exact .onCheck _ s
        · refine SameRing.trans ?_ (advanceRun_sameRing _ _ _ _)
          exact (SameRing.onCheck _ s).trans (SameRing.onCheck _ _)

theorem repeatedSummary_sameRing (st : Nat) (e : Entry) (b : SummaryBody) (s : State) :
    SameRing s (repeatedSummary st e b s) := by
  unfold repeatedSummary
  dsimp only
  split
  · exact onRingCounters_sameRing _ s
  · split
    · exact (onRingCounters_sameRing _ s).trans (updatePool_sameRing _ _ _ _)
    · exact (onRingCounters_sameRing _ s).trans <| (updatePool_sameRing _ _ _ _).trans (raiseNotice_sameRing _ _ _)

theorem summaryTooLate_sameRing (st : Nat) (b : SummaryBody) (s : State) : SameRing s (summaryTooLate st b s) :=
  (onRingCounters_sameRing _ s).trans (handDigest_sameRing _ _ _ _ _)

theorem setSending_sameRing (k : Nat) (p : PoolId) (x : Sending) (s : State) : SameRing s (setSending k p x s) :=
  updatePool_sameRing _ _ _ s

theorem offerSummary_sameRing (r : Record) (s : State) (p : PoolId) : SameRing s (offerSummary r s p) := by
  unfold offerSummary
  split
  · split
    · split
      · exact (enqueue_sameRing _ s).trans (setSending_sameRing _ _ _ _)
      · exact (listOffer_sameRing _ s).trans (setSending_sameRing _ _ _ _)
    · exact setSending_sameRing _ _ _ _
  · exact .refl s

theorem sendRunsOut_sameRing (s : State) (r : Record) : SameRing s (sendRunsOut s r) :=
  (updateRecord_sameRing (by intro; rfl) s).trans
    (SameRing.foldl (offerSummary_sameRing r) _ _)

theorem recallPool_sameRing (k : Nat) (s : State) (p : PoolId) : SameRing s (recallPool k s p) := by
  unfold recallPool
  split
  · exact .refl s
  · split
    · exact .refl s
    · split
      · exact (enqueue_sameRing _ s).trans (updatePool_sameRing _ _ _ _)
      · exact (refuseOffer_sameRing s).trans (onRingCounters_sameRing _ _)

theorem offerResend_sameRing (r : Record) (p : PoolId) (s : State) : SameRing s (offerResend r p s) := by
  unfold offerResend
  split
  · exact (enqueue_sameRing _ s).trans (updatePool_sameRing _ _ _ _)
  · exact (refuseOffer_sameRing s).trans (onRingCounters_sameRing _ _)

theorem answerRecall_sameRing (k : Nat) (p : PoolId) (s : State) : SameRing s (answerRecall k p s) := by
  unfold answerRecall
  split
  · exact onRingCounters_sameRing _ s
  · split
    · exact onRingCounters_sameRing _ s
    · split
      · exact onRingCounters_sameRing _ s
      · split
        · exact .refl s
        · split
          · exact onRingCounters_sameRing _ s
          · exact offerResend_sameRing _ _ _

theorem consultDrift_sameRing (st k : Nat) (s : State) : SameRing s (consultDrift st k s) := by
  unfold consultDrift deviate
  dsimp only
  split
  · split
    · split
      · exact (SameRing.onInterval _ s rfl rfl rfl).trans <| (SameRing.onInterval _ _ rfl rfl rfl).trans
          (raiseNoticeAt_sameRing _ _ _ _)
      · exact .onInterval _ s rfl rfl rfl
    · exact clearDrift_sameRing s
  · exact .refl s

theorem queueOwnClose_sameRing (k : Nat) (b : Band) (s : State) : SameRing s (queueOwnClose k b s) := by
  unfold queueOwnClose
  split
  · exact (enqueue_sameRing _ s).trans (.onInterval _ _ rfl rfl rfl)
  · exact loadTimer_sameRing s

theorem enterStuck_sameRing (s : State) : SameRing s (enterStuck s) := by
  unfold enterStuck
  dsimp only
  split
  · exact .of_blocks (by simp) (by simp)
  · refine SameRing.trans ?_ (raiseFault_sameRing _ _ _)
    exact .of_blocks (by simp) (by simp)

theorem handOn_sameRing (f : RxFrame) (s : State) : SameRing s (handOn f s) := by
  unfold handOn ownSource
  dsimp only
  split
  · split
    · exact .of_blocks (by simp) (by simp)
    · refine SameRing.trans ?_ (raiseFault_sameRing _ _ _)
      exact .of_blocks (by simp) (by simp)
  · exact .of_blocks (by simp) (by simp)

theorem clearResend_sameRing (b : SummaryBody) (s : State) : SameRing s (clearResend b s) := updatePool_sameRing _ _ _ s

theorem tellEnded_sameRing (b : FrameBody) (s : State) : SameRing s (tellEnded b s) := by
  unfold tellEnded
  split
  · exact (loadTimer_sameRing s).trans (onIntervalCounters_sameRing _ _)
  · exact .of_blocks (by simp) (by simp)
  · split
    · exact clearResend_sameRing _ _
    · exact setSending_sameRing _ _ _ _
  · exact .of_blocks (by simp) (by simp)
  · exact .of_blocks (by simp) (by simp)
  · exact .refl s
  · exact .refl s

theorem tellAbandoned_sameRing (b : FrameBody) (s : State) : SameRing s (tellAbandoned b s) := by
  unfold tellAbandoned
  split
  · exact loadTimer_sameRing s
  · exact .of_blocks (by simp) (by simp)
  · split
    · exact clearResend_sameRing _ _
    · exact setSending_sameRing _ _ _ _
  · exact .of_blocks (by simp) (by simp)
  · exact .of_blocks (by simp) (by simp)
  · exact .refl s
  · exact .refl s

theorem abandonFrame_sameRing (b : FrameBody) (s : State) : SameRing s (abandonFrame b s) := by
  have htold := (SameRing.of_blocks (s := s)
    (t := onLinkCounters (fun c => { c with txAbandoned := bump c.txAbandoned }) (dropSending s)) (by simp) (by simp)).trans
      (tellAbandoned_sameRing b _)
  unfold abandonFrame
  dsimp only
  split
  · exact htold
  · exact htold.trans (raiseNotice_sameRing _ _ _)

theorem collide_sameRing (f : TxFrame) (s : State) : SameRing s (collide f s) := by
  unfold collide
  dsimp only
  split
  · refine SameRing.trans ?_ (abandonFrame_sameRing _ _)
    exact .of_blocks (by simp) (by simp)
  · exact .of_blocks (by simp) (by simp)

theorem endFrame_sameRing (f : TxFrame) (s : State) : SameRing s (endFrame f s) := by
  refine SameRing.trans ?_ (tellEnded_sameRing _ _)
  exact .of_blocks (by simp) (by simp)

theorem admitOffer_sameRing (o : Offer) (s : State) : SameRing s (admitOffer o s) := by
  cases o with
  | summary b => exact (enqueue_sameRing _ s).trans (setSending_sameRing _ _ _ _)
  | announce => exact .of_blocks (by simp [admitOffer]) (by simp [admitOffer])

theorem tick_sameRing (s : State) : SameRing s (tick s) := by
  unfold tick
  split
  · refine (SameRing.onInterval _ s rfl rfl rfl).trans (.onRing _ _ ?_)
    simp [State.keys, Record.key, Function.comp_def, Record.tick]
  · exact .refl s

end Sys2Proof.RingOrder

namespace Sys2Proof.RingOrder

open Sys2Proof Sys2Proof.Machine Sys2Proof.Effects

/-! ## Look-ups in an ordered ring -/

/-- In an ordered ring a record is found under its own number. -/
theorem findRecord_of_mem {s : State} (hord : (State.keys s).Pairwise (fun a b => a.1 < b.1)) {r : Record}
    (hr : r ∈ s.ring.records) : findRecord r.number s = some r := by
  obtain ⟨before, after, hsplit⟩ := List.append_of_mem hr
  have hlt : ∀ x ∈ before, x.number ≠ r.number := by
    simp only [State.keys, hsplit, List.map_append, List.map_cons, List.pairwise_append] at hord
    obtain ⟨-, -, hcross⟩ := hord
    intro x hx
    have := hcross (Record.key x) (List.mem_map_of_mem hx) (Record.key r) (by simp)
    exact Nat.ne_of_lt this
  rw [findRecord, hsplit, List.find?_append, List.find?_eq_none.mpr (by simpa using hlt)]
  simp

theorem findRecord_mem {k : Nat} {s : State} {r : Record} (h : findRecord k s = some r) :
    r ∈ s.ring.records ∧ r.number = k :=
  ⟨List.mem_of_find?_eq_some h, by simpa using List.find?_some h⟩

/-- The newest record is found under its number, which no older record has. -/
theorem findRecord_last {s : State} {older : List Record} {r : Record} {k : Nat} (hrec : s.ring.records = older ++ [r])
    (hk : r.number = k) (hold : ∀ x ∈ older, x.number ≠ k) : findRecord k s = some r := by
  rw [findRecord, hrec, List.find?_append, List.find?_eq_none.mpr (by simpa using hold)]
  simp [hk]

/-- An update under the newest record's number changes that record alone. -/
theorem updateRecord_last {s : State} {older : List Record} {r : Record} {k : Nat} (f : Record → Record)
    (hrec : s.ring.records = older ++ [r]) (hk : r.number = k) (hold : ∀ x ∈ older, x.number ≠ k) :
    (updateRecord k f s).ring.records = older ++ [f r] := by
  have hsame : older.map (fun x => if x.number = k then f x else x) = older := by
    refine (List.map_congr_left fun x hx => ?_).trans older.map_id
    simp [hold x hx]
  simp [updateRecord, hrec, hsame, hk]

/-! ## A record changes its state -/

/-- The key with the state that record k changes to. -/
def restate (k : Nat) (st : RecordState) (x : Nat × RecordState) : Nat × RecordState := if x.1 = k then (x.1, st) else x

@[simp] theorem restate_fst (k : Nat) (st : RecordState) (x : Nat × RecordState) : (restate k st x).1 = x.1 := by
  unfold restate
  split <;> rfl

theorem keys_restate {k : Nat} {st : RecordState} {f : Record → Record} (hf : ∀ r, Record.key (f r) = (r.number, st))
    (s : State) : State.keys (updateRecord k f s) = (State.keys s).map (restate k st) := by
  rw [keys_updateRecord]
  simp only [State.keys, hf, List.map_map]
  rfl

/-- In a following node a record that is not OPEN has not the open number. -/
theorem number_ne_open {s : State} (hs : s.ringOrdered) (hring : s.hasRing) {r : Record} (hr : r ∈ s.ring.records)
    (hne : r.state ≠ .opened) : r.number ≠ s.interval.openNumber := by
  obtain ⟨-, hord, -, hopen, -, -⟩ := (ringOrdered_iff s).mp hs
  obtain ⟨older, hkeys, -⟩ := hopen hring
  have hmem : Record.key r ∈ State.keys s := List.mem_map_of_mem hr
  rw [hkeys] at hord hmem
  obtain hold | hlast := List.mem_append.mp hmem
  · have hlt := (List.pairwise_append.mp hord).2.2 _ hold _ (List.mem_singleton.mpr rfl)
    exact Nat.ne_of_lt hlt
  · exact absurd (congrArg Prod.snd (List.mem_singleton.mp hlast)) hne

theorem countP_number_le_one {ks : List (Nat × RecordState)} (hord : ks.Pairwise (fun a b => a.1 < b.1)) (k : Nat) :
    ks.countP (fun x => x.1 == k) ≤ 1 := by
  induction ks with
  | nil => simp
  | cons x rest ih =>
    obtain ⟨hx, hrest⟩ := List.pairwise_cons.mp hord
    rw [List.countP_cons]
    split
    · next heq =>
      have hnone : rest.countP (fun y => y.1 == k) = 0 := by
        refine List.countP_eq_zero.mpr fun y hy => ?_
        have := hx y hy
        simp only [beq_iff_eq] at heq ⊢
        omega
      omega
    · exact ih hrest

/-- A record that is not OPEN takes another state than OPEN; SETTLING only while no record is. -/
theorem restate_ordered {s : State} {r : Record} {st : RecordState} {f : Record → Record}
    (hf : ∀ x, Record.key (f x) = (x.number, st)) (hs : s.ringOrdered) (hr : r ∈ s.ring.records) (hne : r.state ≠ .opened)
    (hst : st ≠ .opened) (hset : st = .settling → ∀ x ∈ State.keys s, x.2 ≠ .settling) :
    (updateRecord r.number f s).ringOrdered := by
  have hs' := hs
  rw [ringOrdered_iff] at hs ⊢
  obtain ⟨hlen, hord, hcount, hopen, hempty, hheld⟩ := hs
  rw [keys_restate hf]
  have hring : (updateRecord r.number f s).hasRing ↔ s.hasRing := by simp [State.hasRing]
  refine ⟨by simpa using hlen, ?_, ?_, ?_, ?_, by simpa using hheld⟩
  · simpa [List.pairwise_map] using hord
  · rw [List.countP_map]
    by_cases h : st = .settling
    · refine le_trans (List.countP_mono_left fun x hx hx2 => ?_) (countP_number_le_one hord r.number)
      by_contra hno
      simp only [beq_iff_eq] at hno
      simp only [Function.comp_apply, restate, hno, if_false, beq_iff_eq] at hx2
      exact hset h x hx hx2
    · refine le_trans (List.countP_mono_left fun x _ hx2 => ?_) hcount
      simp only [Function.comp_apply, restate] at hx2
      split at hx2
      · exact absurd (by simpa using hx2) h
      · exact hx2
  · intro hh
    rw [hring] at hh
    obtain ⟨older, hkeys, hold⟩ := hopen hh
    have hne' := number_ne_open hs' hh hr hne
    refine ⟨older.map (restate r.number st), ?_, ?_⟩
    · simp [hkeys, restate, hne'.symm]
    · intro x hx
      obtain ⟨y, hy, rfl⟩ := List.mem_map.mp hx
      unfold restate
      split
      · exact hst
      · exact hold y hy
  · intro hh
    rw [hring] at hh
    obtain ⟨hk, hhd⟩ := hempty hh
    exact ⟨by simp [hk], by simpa using hhd⟩

theorem finishGather_ordered {k : Nat} {s : State} {r : Record} (hs : s.ringOrdered) (hr : findRecord k s = some r)
    (hg : r.state = .gathering) : (finishGather k s).ringOrdered := by
  obtain ⟨hmem, rfl⟩ := findRecord_mem hr
  exact (appendJob_sameRing _ _ _).ordered
    (restate_ordered (st := .provisional) (fun _ => rfl) hs hmem (by simp [hg]) (by simp) (by simp))

theorem checkGather_ordered (k : Nat) {s : State} (hs : s.ringOrdered) : (checkGather k s).ringOrdered := by
  unfold checkGather
  split
  · next r hr =>
    split
    · next h => exact finishGather_ordered hs hr (by simpa using (Bool.and_eq_true_iff.mp h).1)
    · exact hs
  · exact hs

/-- A record that waits goes to SETTLING while no record is. -/
theorem goToSettling_ordered {s : State} {r : Record} (hs : s.ringOrdered) (hr : r ∈ s.ring.records) (hne : r.state ≠ .opened)
    (hset : ∀ x ∈ State.keys s, x.2 ≠ .settling) : (goToSettling r.number s).ringOrdered := by
  unfold goToSettling
  refine ((SameRing.onLine _ _).trans (appendJob_sameRing _ _ _)).ordered ?_
  exact restate_ordered (st := .settling) (fun _ => rfl) hs hr hne (by simp) (fun _ => hset)

theorem mem_waitingRecords {s : State} {r : Record} :
    r ∈ s.waitingRecords ↔ r ∈ s.ring.records ∧ r.state ≠ .opened ∧ r.state ≠ .settling := by
  simp [State.waitingRecords]

theorem settleNext_ordered {s : State} (hs : s.ringOrdered) : (settleNext s).ringOrdered := by
  unfold settleNext
  split
  · exact hs
  · next hnone =>
    split
    · next r rest hw =>
      obtain ⟨hmem, hne, -⟩ := mem_waitingRecords.mp (hw ▸ List.mem_cons_self : r ∈ s.waitingRecords)
      refine goToSettling_ordered hs hmem hne ?_
      simpa [State.keys, Record.key] using hnone
    · exact hs

/-- With three records that wait and one OPEN, none of the four is SETTLING. -/
theorem no_settling_of_three_waiting {s : State} (hs : s.ringOrdered) (hring : s.hasRing) {a b c : Record}
    (hw : s.waitingRecords = [a, b, c]) : ∀ x ∈ State.keys s, x.2 ≠ .settling := by
  obtain ⟨hlen, -, -, hopen, -, -⟩ := hs
  obtain ⟨older, r, hrec, hst, -, -⟩ := hopen hring
  have hwlen : (older.filter (fun x => x.state != .opened && x.state != .settling)).length = 3 := by
    simpa [State.waitingRecords, hrec, hst] using congrArg List.length hw
  have hlen3 : older.length ≤ 3 := by simp only [hrec, List.length_append, List.length_singleton] at hlen; omega
  have hall : older.filter (fun x => x.state != .opened && x.state != .settling) = older :=
    List.filter_sublist.eq_of_length_le (by omega)
  intro x hx
  simp only [State.keys, hrec, List.map_append, List.map_cons, List.map_nil, List.mem_append, List.mem_singleton] at hx
  obtain hx | rfl := hx
  · obtain ⟨y, hy, rfl⟩ := List.mem_map.mp hx
    have := List.filter_eq_self.mp hall y hy
    simp only [Bool.and_eq_true, bne_iff_ne, ne_eq] at this
    exact this.2
  · simp [Record.key, hst]

theorem advanceRing_ordered {s : State} (hs : s.ringOrdered) (hring : s.hasRing) : (advanceRing s).ringOrdered := by
  unfold advanceRing
  split
  · next r b c hw =>
    obtain ⟨hmem, hne, -⟩ := mem_waitingRecords.mp (hw ▸ List.mem_cons_self : r ∈ s.waitingRecords)
    have hset := no_settling_of_three_waiting hs hring hw
    split
    · have hsame := appendJob_sameRing .compute r.number s
      exact goToSettling_ordered (hsame.ordered hs) (by simpa using hmem) hne (by rw [hsame.keys]; exact hset)
    · exact goToSettling_ordered hs hmem hne hset
  · exact hs

/-! ## A close is taken (R106) -/

/-- The record that is OPEN when the close of c is taken, under the number that the close gives it (R6). -/
def renumbered (s : State) (c : Nat) (r : Record) : Record := if s.interval.openNumber < c then r.renumber c else r

theorem renumberOpen_last {c : Nat} {s : State} {older : List Record} {r : Record} (hrec : s.ring.records = older ++ [r])
    (hk : r.number = s.interval.openNumber) (hold : ∀ x ∈ older, x.number < r.number) :
    (renumberOpen c s).ring.records = older ++ [renumbered s c r] := by
  have hne : ∀ x ∈ older, x.number ≠ s.interval.openNumber := fun x hx => hk ▸ (hold x hx).ne
  unfold renumberOpen renumbered
  split
  · exact updateRecord_last _ hrec hk hne
  · exact hrec

/-- The record that the close of c fills, once its gather has been judged (R7, R15). -/
def closedAs (s : State) (cause : CloseCause) (station : Option Nat) (r : Record) : Record :=
  let x := s.closedRecord cause station r
  if x.allComplete s.image.mask then { x with state := .provisional, gather := none } else x

theorem closedAs_number (s : State) (cause : CloseCause) (station : Option Nat) (r : Record) :
    (closedAs s cause station r).number = r.number := by
  unfold closedAs
  dsimp only
  split <;> rfl

theorem closedAs_state (s : State) (cause : CloseCause) (station : Option Nat) (r : Record) :
    (closedAs s cause station r).state = .gathering ∨ (closedAs s cause station r).state = .provisional := by
  unfold closedAs
  dsimp only
  split
  · exact .inr rfl
  · exact .inl rfl

theorem closeRecord_last {c : Nat} {s : State} {older : List Record} {r : Record} (cause : CloseCause) (station : Option Nat)
    (hrec : s.ring.records = older ++ [r]) (hk : r.number = c) (hold : ∀ x ∈ older, x.number ≠ c) :
    (closeRecord c cause station s).ring.records = older ++ [closedAs s cause station r] := by
  have hfind : findRecord c s = some r := findRecord_last hrec hk hold
  have hupdated : (updateRecord c (fun _ => s.closedRecord cause station r) (closeChannels r.band s)).ring.records =
      older ++ [s.closedRecord cause station r] :=
    updateRecord_last _ (by simpa using hrec) hk hold
  have hnumber : (s.closedRecord cause station r).number = c := hk
  simp only [closeRecord, hfind]
  unfold checkGather closedAs
  rw [findRecord_last hupdated hnumber hold]
  have hstate : (s.closedRecord cause station r).state = .gathering := rfl
  simp only [hstate, beq_self_eq_true, Bool.true_and, updateRecord_keeps, closeChannels_keeps]
  split
  · simpa [finishGather] using updateRecord_last _ hupdated hnumber hold
  · exact hupdated

theorem renumbered_number {s : State} {c : Nat} {r : Record} (hk : r.number = s.interval.openNumber)
    (hc : s.interval.openNumber ≤ c) : (renumbered s c r).number = c := by
  unfold renumbered
  split
  · rfl
  · omega

/-- The records after the steps of a close up to the opening of the next: the OPEN record is closed as c, the older stay. -/
theorem closed_records {c : Nat} {s : State} {older : List Record} {r : Record} (cause : CloseCause) (station : Option Nat)
    (hrec : s.ring.records = older ++ [r]) (hk : r.number = s.interval.openNumber) (hold : ∀ x ∈ older, x.number < r.number)
    (hc : s.interval.openNumber ≤ c) :
    (applyCuts c (closeRecord c cause station (renumberOpen c s))).ring.records =
      older ++ [closedAs (renumberOpen c s) cause station (renumbered s c r)] := by
  have hlt : ∀ x ∈ older, x.number ≠ c := fun x hx => by have := hold x hx; omega
  simpa using closeRecord_last cause station (renumberOpen_last hrec hk hold) (renumbered_number hk hc) hlt

/-- A following node's ring: the OPEN record last, every older one below it in number and not OPEN. -/
theorem exists_open {s : State} (hs : s.ringOrdered) (hring : s.hasRing) :
    ∃ older r, s.ring.records = older ++ [r] ∧ r.state = .opened ∧ r.number = s.interval.openNumber
      ∧ (∀ x ∈ older, x.state ≠ .opened) ∧ ∀ x ∈ older, x.number < r.number := by
  obtain ⟨-, hord, -, hopen, -, -⟩ := hs
  obtain ⟨older, r, hrec, hst, hnum, hold⟩ := hopen hring
  refine ⟨older, r, hrec, hst, hnum, hold, fun x hx => ?_⟩
  rw [hrec, List.map_append, List.pairwise_append] at hord
  exact hord.2.2 _ (List.mem_map_of_mem hx) _ (by simp)

/-- Interval c + 1 opens behind the closed record c, while a slot is empty and no close is held. -/
theorem openNext_ordered {c : Nat} {s t : State} {older : List Record} {r x : Record} (band : Band) (hs : s.ringOrdered)
    (hring : s.hasRing) (hrec : s.ring.records = older ++ [r]) (hlen : older.length < 3) (hheld : s.interval.held = none)
    (hc : s.interval.openNumber ≤ c) (ht : t.ring.records = older ++ [x]) (hti : t.interval = s.interval) (hxn : x.number = c)
    (hxs : x.state = .gathering ∨ x.state = .provisional) :
    (openNext (c + 1) band t).ringOrdered ∧ (openNext (c + 1) band t).hasRing := by
  obtain ⟨-, hord, hcount, hopen, -, -⟩ := hs
  obtain ⟨older', r', hrec', hst, hnum, hold⟩ := hopen hring
  obtain ⟨rfl, hlast⟩ := List.append_inj' (hrec.symm.trans hrec') rfl
  obtain rfl : r = r' := by simpa using hlast
  rw [hrec, List.map_append, List.pairwise_append] at hord
  obtain ⟨hpair, -, hcross⟩ := hord
  have hbelow : ∀ y ∈ older, y.number < c := fun y hy => by
    have := hcross _ (List.mem_map_of_mem hy) r.number (by simp)
    omega
  have hxne : x.state ≠ .opened ∧ x.state ≠ .settling := by rcases hxs with h | h <;> simp [h]
  have hring' : ((openRecord (c + 1) band false t).onInterval (fun u => { u with openNumber := c + 1 })).hasRing := by
    simpa [State.hasRing, hti] using hring
  refine ⟨advanceRing_ordered ?_ hring', by simpa [openNext, State.hasRing, hti] using hring⟩
  refine ⟨?_, ?_, ?_, fun _ => ?_, fun h => absurd hring' h, ?_⟩
  · simp [openRecord, ht]; omega
  · simp only [openRecord, State.onInterval_blocks, State.onRing_blocks, ht, List.map_append, List.map_cons, List.map_nil,
      List.append_assoc, List.cons_append, List.nil_append, List.pairwise_append]
    refine ⟨hpair, by simp [Record.atOpen, hxn], fun a ha b hb => ?_⟩
    obtain ⟨y, hy, rfl⟩ := List.mem_map.mp ha
    have := hbelow y hy
    simp only [List.mem_cons, List.not_mem_nil, or_false] at hb
    obtain rfl | rfl := hb
    · omega
    · simp only [Record.atOpen]; omega
  · simp [openRecord, ht, List.countP_append, hxne.2, Record.atOpen]
    simp [hrec, List.countP_append, hst] at hcount
    exact hcount
  · refine ⟨older ++ [x], Record.atOpen (c + 1) band false, by simp [openRecord, ht], rfl, rfl, fun y hy => ?_⟩
    obtain hy | hy := List.mem_append.mp hy
    · exact hold y hy
    · rw [List.mem_singleton.mp hy]
      exact hxne.1
  · simp [hti, hheld]

theorem ageRoster_sameRing (c k : Nat) (s : State) : SameRing s (ageRoster c k s) := .of_blocks (by simp) (by simp)

theorem announceDue_sameRing (s : State) : SameRing s (announceDue s) := .of_blocks (by simp) (by simp)

theorem announceAtClose_sameRing (n : Nat) (s : State) : SameRing s (announceAtClose n s) := .of_blocks (by simp) (by simp)

theorem takeCloseOf_ordered {c : Nat} {s : State} (cause : CloseCause) (station : Option Nat) (source : BandSource)
    (hs : s.ringOrdered) (hring : s.hasRing) (room : s.ring.records.length < 4) (hheld : s.interval.held = none)
    (hc : s.interval.openNumber ≤ c) : (takeCloseOf c cause station source s).ringOrdered := by
  obtain ⟨older, r, hrec, -, hnum, -, hbelow⟩ := exists_open hs hring
  have hopened := openNext_ordered (s.image.bandFor (c + 1) source) hs hring hrec (by simp [hrec] at room; omega) hheld hc
    (closed_records cause station hrec hnum hbelow hc) (by simp)
    ((closedAs_number ..).trans (renumbered_number hnum hc)) (closedAs_state ..)
  unfold takeCloseOf
  refine SameRing.ordered ?_ hopened.1
  exact (ageRoster_sameRing _ _ _).trans <| (countBoundary_sameRing _).trans <| (announceAtClose_sameRing _ _).trans <|
    (onIntervalCounters_sameRing _ _).trans (setPoolMode_sameRing _)

theorem takeRequest_ordered {q : HeldClose} {s : State} (hs : s.ringOrdered) (hring : s.hasRing)
    (room : s.ring.records.length < 4) (hheld : s.interval.held = none) (hq : s.interval.openNumber ≤ q.interval) :
    (takeRequest q s).ringOrdered := by
  unfold takeRequest reportJump
  dsimp only
  split
  · exact ((onIntervalCounters_sameRing _ _).trans (raiseNoticeAt_sameRing _ _ _ _)).ordered
      (takeCloseOf_ordered _ _ _ hs hring room hheld hq)
  · exact takeCloseOf_ordered _ _ _ hs hring room hheld hq

/-- A request names no number below the open one, so the held close does not either. -/
theorem holdClose_ordered {q : HeldClose} {s : State} (hs : s.ringOrdered) (hring : s.hasRing)
    (hq : s.interval.openNumber ≤ q.interval) : (holdClose q s).ringOrdered := by
  unfold holdClose
  refine ((withdrawOwnClose_sameRing _).trans <| (loadTimer_sameRing _).trans (countBoundary_sameRing _)).ordered ?_
  have hm : ∀ f : IntervalUnit → IntervalUnit, (f s.interval).membership = s.interval.membership →
      (f s.interval).openNumber = s.interval.openNumber →
      (∀ h, (f s.interval).held = some h → s.interval.openNumber ≤ h.interval) → (s.onInterval f).ringOrdered := by
    intro f hmem hopen hheld
    obtain ⟨hlen, hord, hcount, hnew, -, -⟩ := hs
    have hring' : (s.onInterval f).hasRing := by simpa [State.hasRing, hmem] using hring
    refine ⟨by simpa using hlen, by simpa using hord, by simpa using hcount, fun _ => ?_, fun h => absurd hring' h, ?_⟩
    · simpa [State.openIsNewest, hopen] using hnew hring
    · simpa [hopen] using hheld
  refine hm _ ?_ ?_ ?_
  · split <;> rfl
  · split <;> rfl
  · intro h hh
    split at hh
    · obtain rfl : q = h := by simpa using hh
      exact hq
    · next h0 _ =>
      obtain rfl : h0.merge q = h := by simpa using hh
      exact le_max_of_le_right hq

/-! ## The commands of the interval unit -/

theorem takesNow_iff {s : State} :
    s.takesNow = true ↔ (s.ring.records.length < 4 ∧ s.interval.drain = false) ∧ s.interval.held = none := by
  simp [State.takesNow, State.hasEmptySlot]

theorem hasRing_of_following {s : State} (h : s.following = true) : s.hasRing := by
  simp only [State.following, Bool.and_eq_true, Bool.or_eq_true, beq_iff_eq] at h
  exact h.2

theorem frameClose_ordered {q : HeldClose} {s : State} (hs : s.ringOrdered) (hring : s.hasRing)
    (room : s.ring.records.length < 4) (hheld : s.interval.held = none) (hq : s.interval.openNumber ≤ q.interval) :
    (frameClose q s).ringOrdered := by
  have hw := withdrawOwnClose_sameRing s
  refine (loadTimer_sameRing _).ordered (takeRequest_ordered (hw.ordered hs) (hw.hasRing.mpr hring) ?_ ?_ ?_)
  · rw [hw.length]; exact room
  · rw [hw.held]; exact hheld
  · rw [hw.openNumber]; exact hq

/-- A request is taken at once or held; either keeps the order. -/
theorem takeOrHold_ordered {q : HeldClose} {s : State} (hs : s.ringOrdered) (hring : s.hasRing)
    (hq : s.interval.openNumber ≤ q.interval) :
    (if s.takesNow then frameClose q s else holdClose q s).ringOrdered := by
  split
  · next h =>
    obtain ⟨⟨room, -⟩, hheld⟩ := takesNow_iff.mp h
    exact frameClose_ordered hs hring room hheld hq
  · exact holdClose_ordered hs hring hq

theorem ownExpiry_ordered {s : State} (hs : s.ringOrdered) (hring : s.hasRing) : (ownExpiry s).ringOrdered := by
  unfold ownExpiry
  dsimp only
  split
  · exact ((onIntervalCounters_sameRing _ s).trans (loadTimer_sameRing _)).ordered hs
  · split
    · next h =>
      obtain ⟨⟨room, -⟩, hheld⟩ := takesNow_iff.mp h
      have hd := clearDrift_sameRing s
      have ht := takeRequest_ordered (q := ⟨s.interval.openNumber, .own, none, .schedule⟩) (hd.ordered hs)
        (hd.hasRing.mpr hring) (by rw [hd.length]; exact room) (by rw [hd.held]; exact hheld) (by rw [hd.openNumber])
      split
      · exact (queueOwnClose_sameRing _ _ _).ordered ht
      · exact (loadTimer_sameRing _).ordered ht
    · exact holdClose_ordered hs hring (le_refl _)

/-- The first OPEN record of a node that had no ring (R118, R119). -/
theorem enterMember_ordered (n : Nat) (band : Band) {s : State} (hs : s.ringOrdered) (hring : ¬ s.hasRing) :
    (enterMember n band s).ringOrdered := by
  obtain ⟨-, -, -, -, hempty, -⟩ := hs
  obtain ⟨hrec, hheld⟩ := hempty hring
  unfold enterMember
  have hmember : (loadTimer ((openRecord n band true s).onInterval (fun u =>
      { u with membership := .member, openNumber := n, listen := none }))).ringOrdered := by
    refine (loadTimer_sameRing _).ordered ⟨?_, ?_, ?_, fun _ => ?_, fun h => absurd (.inl (by simp)) h, ?_⟩
    · simp [openRecord, hrec]
    · simp [openRecord, hrec]
    · simp [openRecord, hrec, Record.atOpen]
    · exact ⟨[], Record.atOpen n band true, by simp [openRecord, hrec], rfl, rfl, by simp⟩
    · simp [hheld]
  exact ((countBoundary_sameRing _).trans (announceDue_sameRing _)).ordered hmember

theorem hasRing_of_mem {s : State} (hs : s.ringOrdered) {r : Record} (hr : r ∈ s.ring.records) : s.hasRing := by
  obtain ⟨-, -, -, -, hempty, -⟩ := hs
  by_contra h
  rw [(hempty h).1] at hr
  exact absurd hr List.not_mem_nil

/-- The only OPEN record has the open number. -/
theorem open_number {s : State} (hs : s.ringOrdered) {r : Record} (hr : r ∈ s.ring.records) (ho : r.state = .opened) :
    r.number = s.interval.openNumber := by
  obtain ⟨older, x, hrec, -, hnum, hold, -⟩ := exists_open hs (hasRing_of_mem hs hr)
  rw [hrec] at hr
  obtain hr | hr := List.mem_append.mp hr
  · exact absurd ho (hold r hr)
  · rw [List.mem_singleton.mp hr, hnum]

theorem adopt_ordered (j : Nat) (source : BandSource) {s : State} (hs : s.ringOrdered) (hring : ¬ s.hasRing) :
    (adopt j source s).ringOrdered := by
  have hcount := onIntervalCounters_sameRing (fun c => { c with adoptions := bump c.adoptions }) s
  unfold adopt
  split
  · exact hs
  · split
    · exact (onIntervalCounters_sameRing _ s).ordered hs
    · exact enterMember_ordered _ _ (hcount.ordered hs) (mt hcount.hasRing.mp hring)

theorem foreignClose_ordered (j : Nat) (band : Band) (source : Nat) {s : State} (hs : s.ringOrdered) (hring : s.hasRing) :
    (foreignClose j band source s).ringOrdered := by
  unfold foreignClose
  dsimp only
  split
  · exact (onIntervalCounters_sameRing _ s).ordered hs
  · split
    · exact ((withdrawOwnClose_sameRing s).trans (updateRecord_sameRing (by intro; rfl) _)).ordered hs
    · split
      · next hj =>
        split
        · next h =>
          obtain ⟨⟨room, -⟩, hheld⟩ := takesNow_iff.mp h
          have hd := consultDrift_sameRing source s.interval.openNumber s
          exact frameClose_ordered (hd.ordered hs) (hd.hasRing.mpr hring) (by rw [hd.length]; exact room)
            (by rw [hd.held]; exact hheld) (by rw [hd.openNumber]; exact hj.ge)
        · exact holdClose_ordered hs hring hj.ge
      · split
        · next hlt => exact takeOrHold_ordered hs hring hlt.le
        · split <;> exact (onIntervalCounters_sameRing _ s).ordered hs

theorem newSummary_ordered (source : Nat) (r : Record) (b : SummaryBody) {s : State} (hs : s.ringOrdered) :
    (newSummary source r b s).ringOrdered := by
  have hadd : SameRing s (updateRecord b.interval (Record.addPeer source b) s) := updateRecord_sameRing (by intro; rfl) s
  unfold newSummary
  dsimp only
  split
  · exact (hadd.trans (.of_blocks (by simp) (by simp))).ordered hs
  · exact checkGather_ordered _ (hadd.ordered hs)

theorem intake_ordered (source : Nat) (b : SummaryBody) {s : State} (hs : s.ringOrdered) : (intake source b s).ringOrdered := by
  unfold intake intakeInto
  split
  · refine (setPoolMode_sameRing _).ordered ?_
    split
    · exact (onRingCounters_sameRing _ s).ordered hs
    · refine (handDigest_sameRing _ _ _ _ _).ordered ?_
      split
      · exact (repeatedSummary_sameRing _ _ _ s).ordered hs
      · exact newSummary_ordered _ _ _ hs
  · exact hs

theorem placeSummary_ordered (source : Nat) (b : SummaryBody) {s : State} (hs : s.ringOrdered) (hring : s.hasRing) :
    (placeSummary source b s).ringOrdered := by
  unfold placeSummary
  split
  · next r hr =>
    split
    · exact (summaryTooLate_sameRing source b s).ordered hs
    · next ho =>
      obtain ⟨hmem, hnum⟩ := findRecord_mem hr
      have hopen : s.interval.openNumber = b.interval := (open_number hs hmem ho).symm.trans hnum
      split
      · exact intake_ordered source b hs
      · unfold implicitClose
        dsimp only
        split
        · exact (onIntervalCounters_sameRing _ s).ordered hs
        · exact intake_ordered source b ((onIntervalCounters_sameRing _ _).ordered (takeOrHold_ordered hs hring hopen.le))
    · exact intake_ordered source b hs
  · split
    · next hlt =>
      unfold summaryJump
      dsimp only
      split
      · exact (onIntervalCounters_sameRing _ s).ordered hs
      · split
        · next h =>
          obtain ⟨⟨room, -⟩, hheld⟩ := takesNow_iff.mp h
          exact intake_ordered source b (frameClose_ordered hs hring room hheld hlt.le)
        · exact (onRingCounters_sameRing _ _).ordered (holdClose_ordered hs hring hlt.le)
    · exact (summaryTooLate_sameRing source b s).ordered hs

/-! ## The other commands -/

/-- A completed record leaves; it was SETTLING, so the OPEN record stays the newest. -/
theorem completeSettle_ordered (j : SettleJob) {s : State} {r : Record} (hs : s.ringOrdered) (hr : r ∈ s.ring.records)
    (hset : r.state = .settling) : (completeSettle j r s).ringOrdered := by
  have hring := hasRing_of_mem hs hr
  obtain ⟨older, x, hrec, hst, hnum, hold, hbelow⟩ := exists_open hs hring
  have hne : x.number ≠ r.number := by
    rw [hnum]
    exact (number_ne_open hs hring hr (by simp [hset])).symm
  obtain ⟨hlen, hord, hcount, -, -, hheld⟩ := hs
  have hsub : (s.ring.records.filter (fun y => y.number != r.number)).Sublist s.ring.records := List.filter_sublist
  have hring' : (completeSettle j r s).hasRing := by simpa [State.hasRing] using hring
  refine ⟨?_, ?_, ?_, fun _ => ?_, fun h => absurd hring' h, by simpa using hheld⟩
  · simpa [completeSettle] using hsub.length_le.trans hlen
  · simpa [completeSettle] using hord.sublist (hsub.map _)
  · simpa [completeSettle] using (hsub.countP_le).trans hcount
  · refine ⟨older.filter (fun y => y.number != r.number), x, ?_, hst, by simpa using hnum, ?_⟩
    · simp [completeSettle, hrec, List.filter_append, hne]
    · exact fun y hy => hold y (List.mem_filter.mp hy).1

/-- The gathers end: a GATHERING record is PROVISIONAL then, and no other changes. -/
theorem endGathers_ordered {s : State} (hs : s.ringOrdered) :
    (s.onRing (fun g => { g with records := g.records.map Record.endGather })).ringOrdered := by
  have hnumber (r : Record) : r.endGather.number = r.number := by unfold Record.endGather; split <;> rfl
  have hstate (r : Record) (st : RecordState) (hp : st ≠ .provisional) (hg : st ≠ .gathering) :
      r.endGather.state = st ↔ r.state = st := by
    unfold Record.endGather
    split
    · next h =>
      simp only [beq_iff_eq] at h
      simp [h, hp.symm, hg.symm]
    · exact .rfl
  obtain ⟨hlen, hord, hcount, hopen, hempty, hheld⟩ := hs
  have hring : (s.onRing (fun g => { g with records := g.records.map Record.endGather })).hasRing ↔ s.hasRing := by
    simp [State.hasRing]
  refine ⟨by simpa using hlen, ?_, ?_, fun h => ?_, fun h => ?_, by simpa using hheld⟩
  · simpa [Function.comp_def, hnumber] using hord
  · simpa [List.countP_map, Function.comp_def, Bool.beq_eq_decide_eq, hstate] using hcount
  · obtain ⟨older, x, hrec, hst, hnum, hold⟩ := hopen (hring.mp h)
    refine ⟨older.map Record.endGather, x.endGather, by simp [hrec], (hstate x _ (by simp) (by simp)).mpr hst,
      by simpa [hnumber] using hnum, fun y hy => ?_⟩
    obtain ⟨z, hz, rfl⟩ := List.mem_map.mp hy
    exact mt (hstate z _ (by simp) (by simp)).mp (hold z hz)
  · obtain ⟨hrec, hh⟩ := hempty (mt hring.mpr h)
    exact ⟨by simp [hrec], by simpa using hh⟩

theorem beginDrain_ordered {s : State} (hs : s.ringOrdered) : (beginDrain s).ringOrdered :=
  settleNext_ordered ((setPoolMode_sameRing _).ordered (endGathers_ordered hs))

/-- A node in no ring state with an empty ring and no held close. -/
theorem ordered_of_empty {s : State} (hring : ¬ s.hasRing) (hrec : s.ring.records = []) (hheld : s.interval.held = none) :
    s.ringOrdered :=
  ⟨by simp [hrec], by simp [hrec], by simp [hrec], fun h => absurd h hring, fun _ => ⟨hrec, hheld⟩, by simp [hheld]⟩

theorem purgeLate_sameRing (s : State) : SameRing s (purgeLate s) := .of_blocks (by simp) (by simp)

theorem endDrain_ordered (s : State) : (endDrain s).ringOrdered := by
  unfold endDrain startPeriod
  dsimp only
  refine (purgeLate_sameRing _).ordered <| (SameRing.onRoster _ _).ordered <| (clearDrift_sameRing _).ordered ?_
  exact ordered_of_empty (by simp [State.hasRing]) (by simp) (by simp)

theorem afterReset_ordered (cause : ResetCause) (c : StoreContents) (a b : Bool) (p : Power) (q : List Instr) :
    (State.afterReset cause c a b p q).ringOrdered :=
  ordered_of_empty (by simp [State.hasRing, State.afterReset]) rfl rfl

theorem resetNode_ordered (cause : ResetCause) (s : State) : (resetNode cause s).ringOrdered := afterReset_ordered ..

theorem assertReset_ordered {s : State} (hs : s.ringOrdered) : (assertReset s).ringOrdered := by
  unfold assertReset
  split
  · exact (SameRing.onControl _ s).ordered hs
  · split
    · exact ((SameRing.onControl _ s).trans (.onControl _ _)).ordered hs
    · exact resetNode_ordered _ _

theorem setMonitor_sameRing (m : Monitor) (a b : Nat) (s : State) : SameRing s (setMonitor m a b s) :=
  .of_blocks (by simp) (by simp)

/-- The load ends in STARTING, where the ring is empty; it stays so in LISTENING and in UNCONFIGURED. -/
theorem finishLoad_ordered (bytes : List Byte) {s : State} (hm : s.interval.membership = .starting) (hs : s.ringOrdered) :
    (finishLoad bytes s).ringOrdered := by
  obtain ⟨-, -, -, -, hempty, -⟩ := hs
  obtain ⟨hrec, hheld⟩ := hempty (by simp [State.hasRing, hm])
  have hsame : ∀ t, SameRing s t → ∀ f : IntervalUnit → IntervalUnit, (f t.interval).held = t.interval.held →
      ¬ (t.onInterval f).hasRing → (t.onInterval f).ringOrdered := by
    intro t h f hf hn
    refine ordered_of_empty hn ?_ ?_
    · simpa [State.keys, hrec] using h.keys
    · simpa [hf, h.held] using hheld
  unfold finishLoad
  split
  · unfold startValid enterListening
    refine (setMonitor_sameRing _ _ _ _).ordered (hsame _ ?_ _ (by simp only) (by simp [State.hasRing]))
    refine SameRing.trans ?_ (restore_sameRing _)
    refine SameRing.trans ?_ (raiseNotice_sameRing _ _ _)
    exact .of_blocks (by simp [setLoad]) (by simp [setLoad])
  · unfold startInvalid setHoldsAccounts setMembership
    refine (SameRing.onTable _ _).ordered (hsame _ ?_ _ (by simp only) (by simp [State.hasRing]))
    exact (SameRing.onControl _ s).trans (raiseFault_sameRing _ _ _)

theorem handles_ordered {h : State → Answer} (hh : Handles h) {s : State} (hs : s.ringOrdered) : (h s).state.ringOrdered := by
  cases hh with
  | copies _ keeps => rwa [keeps]
  | cut sel status =>
    unfold handleCut
    split
    · exact hs
    · split
      · exact hs
      · exact (SameRing.ite (SameRing.onTable _ s) (.refl s)).ordered hs
  | release sel =>
    unfold handleRelease
    split
    · exact hs
    · split
      · exact hs
      · split
        · exact SameRing.ordered (.of_blocks (by simp [Answer.plain]) (by simp [Answer.plain])) hs
        · exact hs
  | ack seq =>
    unfold handleAck
    split
    · exact SameRing.ordered (.of_blocks (by simp [Answer.plain]) (by simp [Answer.plain])) hs
    · split
      · exact hs
      · split
        · exact SameRing.ordered (.of_blocks (by simp [Answer.plain]) (by simp [Answer.plain])) hs
        · exact hs
  | rejoin =>
    unfold handleRejoin
    split
    · refine beginDrain_ordered (SameRing.ordered ?_ hs)
      exact (SameRing.onCond _ s).trans (.onInterval _ _ rfl rfl rfl)
    · exact hs
  | clearCheck => exact SameRing.ordered (.of_blocks (by simp [handleClearCheck, Answer.plain])
      (by simp [handleClearCheck, Answer.plain])) hs

theorem answerRequest_ordered (e : RxEntry) (p : List Byte) {h : State → Answer} (hh : Handles h) {s : State}
    (hs : s.ringOrdered) : (answerRequest e p h s).ringOrdered := by
  have hb : (beginRequest s).ringOrdered := SameRing.ordered (.of_blocks (by simp) (by simp)) hs
  unfold answerRequest serve
  dsimp only
  split
  · exact SameRing.ordered (.of_blocks (by simp) (by simp)) (handles_ordered hh hb)
  · exact SameRing.ordered (.of_blocks (by simp [Answer.plain]) (by simp [Answer.plain])) hb

theorem sameRing_of_quiet {s t : State} (hr : t.ring = s.ring) (hi : t.interval = s.interval) (hs : s.ringOrdered) :
    t.ringOrdered :=
  (SameRing.of_blocks (congrArg Ring.records hr) hi).ordered hs

theorem acts_ordered {s t : State} (h : Acts s t) (hs : s.ringOrdered) : t.ringOrdered := by
  have hhead (c : RxClass) : (takeHead c s).ringOrdered := (takeHead_sameRing c s).ordered hs
  have hlisten : s.interval.membership = .listening → ¬ s.hasRing := by
    intro hl
    simp [State.hasRing, hl]
  cases h with
  | reset => exact resetNode_ordered _ _
  | assertReset => exact assertReset_ordered hs
  | latchedReset => exact resetNode_ordered _ _
  | supplyLost => exact afterReset_ordered _ _ _ _ _ _
  | load bytes hm => exact finishLoad_ordered bytes hm hs
  | countWarning =>
    refine (SameRing.onControl _ _).ordered ?_
    unfold countWarning
    dsimp only
    refine sameRing_of_quiet ?_ ?_ hs <;> (repeat' split) <;> simp
  | clearWarn =>
    unfold resumeSettle
    refine sameRing_of_quiet ?_ ?_ hs <;> (repeat' split) <;> simp [setWarn]
  | lineStuck => exact (enterStuck_sameRing s).ordered hs
  | collide f => exact (collide_sameRing f s).ordered hs
  | endFrame f => exact (endFrame_sameRing f s).ordered hs
  | admitOffer o => exact ((SameRing.onLine _ s).trans (admitOffer_sameRing o _)).ordered hs
  | handOn f =>
    refine (handOn_sameRing f _).ordered (SameRing.ordered (.of_blocks (by simp) (by simp)) hs)
  | ownExpiry hf => exact ownExpiry_ordered hs (hasRing_of_following hf)
  | founding hl =>
    have hcount := onIntervalCounters_sameRing (fun c => { c with foundings := bump c.foundings }) s
    exact enterMember_ordered _ _ (hcount.ordered hs) (mt hcount.hasRing.mp (hlisten hl))
  | sendTimeExpiry rs => exact (SameRing.foldl sendRunsOut_sameRing rs s).ordered hs
  | gatherExpiry k r hr hg =>
    have hrecalls := SameRing.foldl (recallPool_sameRing k) s.image.nodePools s
    obtain ⟨hmem, hnum⟩ := findRecord_mem hr
    have hkey : (r.number, RecordState.gathering) ∈ State.keys (s.image.nodePools.foldl (recallPool k) s) := by
      rw [hrecalls.keys]
      exact List.mem_map.mpr ⟨r, hmem, by simp [Record.key, hg]⟩
    obtain ⟨x, hx, hxk⟩ := List.mem_map.mp hkey
    obtain ⟨hxn, hxs⟩ := Prod.mk.inj hxk
    have hord := hrecalls.ordered hs
    have hfind := findRecord_of_mem ((ringOrdered_iff _).mp hord).2.1 hx
    rw [hxn, hnum] at hfind
    exact (setPoolMode_sameRing _).ordered (finishGather_ordered hord hfind hxs)
  | adoptClose j band hl => exact adopt_ordered _ _ (hhead _) (mt (takeHead_sameRing _ s).hasRing.mp (hlisten hl))
  | foreignClose j band source hf =>
    exact foreignClose_ordered _ _ _ (hhead _) ((takeHead_sameRing _ s).hasRing.mpr (hasRing_of_following hf))
  | adoptSummary c j hl => exact adopt_ordered _ _ (hhead _) (mt (takeHead_sameRing _ s).hasRing.mp (hlisten hl))
  | placeSummary c source b hf =>
    exact placeSummary_ordered _ _ (hhead _) ((takeHead_sameRing _ s).hasRing.mpr (hasRing_of_following hf))
  | answerRecall k p => exact (answerRecall_sameRing k p _).ordered (hhead _)
  | request e p f hf => exact answerRequest_ordered e p hf hs
  | completeCompute j => exact (completeCompute_sameRing j s).ordered hs
  | startSettle r rest => exact (startSettle_sameRing r rest s).ordered hs
  | completeWrite q =>
    unfold afterWrite
    split
    · exact resetNode_ordered _ _
    · have hcommit : (commitWrite q s).ringOrdered := sameRing_of_quiet (by simp) (by simp) hs
      split
      · exact (settleWriteDone_sameRing _).ordered hcommit
      · exact hcommit
  | completeSettle j r hr hset => exact completeSettle_ordered j hs (findRecord_mem hr).1 hset
  | takeHeld q hf room hq =>
    obtain ⟨-, -, -, -, -, hheld⟩ := id hs
    have hring := hasRing_of_following hf
    have hroom : s.ring.records.length < 4 := by
      simp only [State.hasEmptySlot, Bool.and_eq_true, decide_eq_true_eq] at room
      exact room.1
    have hnone : (s.onInterval (fun u => { u with held := none })).ringOrdered := by
      obtain ⟨hlen, hord, hcount, hopen, -, -⟩ := hs
      have hring' : (s.onInterval (fun u => { u with held := none })).hasRing := by simpa [State.hasRing] using hring
      refine ⟨by simpa using hlen, by simpa using hord, by simpa using hcount, fun _ => ?_, fun h => absurd hring' h, by simp⟩
      simpa [State.openIsNewest] using hopen hring
    exact takeRequest_ordered hnone (by simpa [State.hasRing] using hring) (by simpa using hroom) (by simp)
      (by simpa using hheld q hq)
  | settleNext => exact settleNext_ordered hs
  | endDrain => exact endDrain_ordered s
  | _ => exact sameRing_of_quiet (by simp [setWarn, releaseReset, setResetIn]) (by simp [setWarn, releaseReset, setResetIn]) hs

/-- Settles O5: each operation keeps the order. A close is taken only with an empty slot, it closes the OPEN record under a number no
lower than its own, and a record goes to SETTLING only while no other is. -/
theorem ringStaysOrdered : Obligations.RingStaysOrdered :=
  fun _ _ hs h => step_keeps (fun _ _ => sameRing_of_quiet (by simp) (by simp)) (fun s => (tick_sameRing s).ordered)
    (fun _ _ => acts_ordered) hs h

end Sys2Proof.RingOrder

namespace Sys2Proof.Control

open Sys2Proof Sys2Proof.Machine Sys2Proof.Effects

/-! ## Steps -/

/-- Settles O1: a step is the front command on the rest of the queue, by the definition of step. -/
theorem stepRunsTheFrontCommand : Obligations.StepRunsTheFrontCommand := by
  refine ⟨fun c s => ?_, fun c rest s hp => ?_⟩
  · rfl
  · simp only [step, hp, State.withPending]

theorem powered_iff {s : State} : s.powered = true ↔ s.control.power = .running := by
  simp [State.powered]

/-- Settles O2: an empty queue ticks, and only a running node's times count down. -/
theorem idleStepCountsTimesDown : Obligations.IdleStepCountsTimesDown := by
  intro s hp
  have htick : step s = .next (tick s) := by simp only [step, hp]
  refine ⟨fun hrun => ?_, fun hstill => ?_⟩
  · rw [htick, tick, if_pos (powered_iff.mpr hrun)]
    cases ht : s.interval.timer with
    | running ms => simp only [State.onInterval, State.onRing, ht, Timer.tick] <;> rfl
    | stopped => simp only [State.onInterval, State.onRing, ht, Timer.tick] <;> rfl
    | waitingLine => simp only [State.onInterval, State.onRing, ht, Timer.tick] <;> rfl
  · rw [htick, tick, if_neg (mt powered_iff.mp hstill)]

/-! ## Reset -/

/-- The empty ring of the reset state is in order. -/
theorem reset_ringOrdered : State.reset.ringOrdered := RingOrder.afterReset_ordered _ _ _ _ _ _

/-- Settles O9: every field is read off the reset state; an empty block is within every bound. -/
theorem resetStateHoldsItsValues : Obligations.ResetStateHoldsItsValues := by
  refine ⟨⟨reset_ringOrdered, fun _ => Nat.zero_le _, Nat.zero_le _, Nat.zero_le _, ⟨Nat.zero_le _, .nil⟩, Nat.zero_le _⟩, ?_⟩
  refine ⟨⟨rfl, rfl, rfl, rfl⟩, ⟨rfl, rfl⟩, ⟨rfl, rfl, rfl, rfl, rfl, rfl⟩, ⟨rfl, rfl, rfl⟩, ⟨rfl, rfl, rfl, rfl⟩,
    ⟨rfl, rfl, rfl, rfl, rfl⟩, ⟨rfl, rfl, rfl, rfl, rfl⟩, ⟨rfl, rfl, rfl, rfl⟩, ⟨rfl, rfl, rfl⟩,
    ⟨rfl, rfl, rfl, rfl, rfl, rfl, rfl, rfl, rfl⟩, ⟨rfl, rfl, rfl, rfl, rfl⟩, fun i => ?_, fun ch => ?_⟩
  · simp [State.reset, State.afterReset, Account.unread]
  · simp [State.reset, State.afterReset, Channel.fresh, Lifetime.zero]

/-- What a reset leaves, as the reset state with the records, the queue and the input levels of before. -/
theorem resetNode_eq (cause : ResetCause) (s : State) :
    resetNode cause s = { State.reset with
      pending := s.pending
      control := ⟨if s.control.resetIn then .heldInReset else .running, s.control.resetIn, false, cause,
        s.control.supplyWarn, .reading⟩
      store := ⟨s.store.contents, none, []⟩ } := rfl

theorem finishWrite_contents (s : State) :
    (finishWrite s).store.contents =
      (match s.store.writing with | some q => s.store.contents.commit q.write | none => s.store.contents) := by
  unfold finishWrite
  cases hq : s.store.writing with
  | some q => simp [commitWrite]
  | none => rfl

theorem finishWrite_control (s : State) : (finishWrite s).control = s.control := by
  unfold finishWrite
  split <;> simp

/-- Settles O10: a reset leaves the records, the queue of commands and the input levels, and all else as in the reset state. -/
theorem supplyAndResetInputReset : Obligations.SupplyAndResetInputReset := by
  refine ⟨fun s => ⟨rfl, rfl⟩, fun s => ⟨fun hon hidle => ?_, fun q hon hq => ?_, fun hoff => ?_, fun hl => ?_, ?_⟩⟩
  · show Host.Outcome.next (assertReset s) = _
    rw [assertReset, if_neg (by simpa using hon), if_neg (by simp [hidle]), resetNode_eq]
    simp [setResetIn]
  · show Host.Outcome.next (assertReset s) = _
    rw [assertReset, if_neg (by simpa using hon), if_pos (by simp [hq])]
    simp [setResetIn, State.onControl]
  · show Host.Outcome.next (assertReset s) = _
    rw [assertReset, if_pos (by simpa using hoff)]
    rfl
  · show execResetTakesEffect s = _
    rw [execResetTakesEffect, if_pos hl, resetNode_eq, finishWrite_contents, finishWrite_control, finishWrite_pending] <;> rfl
  · show Host.Outcome.next (releaseReset s) = _
    simp [releaseReset, setResetIn, State.onControl]

/-! ## The supply warning -/

/-- The counts at an assertion: the line's where frames wait, one for each waiting write, the job's where its write waits. -/
theorem countWarning_eq (s : State) :
    setWarn true (countWarning s) = { s with
      control := { s.control with supplyWarn := true }
      line :=
        if s.live && !s.line.queue.isEmpty then
          { s.line with warnCounted := true, counters := { s.line.counters with warnHolds := bump s.line.counters.warnHolds } }
        else s.line
      table := { s.table with
        counters := { s.table.counters with storeHeld := bumpBy s.store.queue.length s.table.counters.storeHeld } }
      engine :=
        if s.store.queue.any (fun q => q.awaited) then
          { s.engine with counters := { s.engine.counters with settleWaits := bump s.engine.counters.settleWaits } }
        else s.engine } := by
  have hwaits : (onAccountCounters (fun c => { c with storeHeld := bumpBy s.store.queue.length c.storeHeld }) s).settleWriteWaits =
      s.store.queue.any (fun q => q.awaited) := by simp [State.settleWriteWaits]
  by_cases hline : (s.live && !s.line.queue.isEmpty) = true <;> by_cases hstore : s.store.queue.any (fun q => q.awaited) = true <;>
    simp [countWarning, hline, hstore, setWarn, State.settleWriteWaits, State.onLine, State.onControl, onAccountCounters, State.onTable,
      onEngineCounters, State.onEngine]

/-- With no warning, a request takes the place of an older one for its record and counts nothing. -/
theorem requestWrite_of_no_warn {s : State} (h : s.control.supplyWarn = false) (w : StoreWrite) (a : Bool) :
    requestWrite w a s = s.onStore (fun t => { t with
      queue := t.queue.filter (fun q => q.write.recordNumber != w.recordNumber)
        ++ [⟨w, a || t.queue.any (fun q => q.write.recordNumber == w.recordNumber && q.awaited)⟩] }) := by
  simp [requestWrite, h, State.onStore]
  rfl

/-- The state with the warning clear, before the SETTLE job goes on. -/
def warningCleared (s : State) : State := (setWarn false s).onLine (fun l => { l with warnCounted := false })

theorem resumeSettle_of_held {s : State} {j : SettleJob} {w : SettleWrite} (hj : s.engine.flight = some (.settle j))
    (hheld : j.heldByWarning = true) (hw : j.waiting = some w) :
    resumeSettle s =
      requestWrite (s.settleContents j.interval w) true (setFlight (some (.settle { j with heldByWarning := false })) s) := by
  simp only [resumeSettle, hj, hheld, hw]

theorem resumeSettle_of_not_held {s : State} (h : ∀ j, s.engine.flight = some (.settle j) → j.heldByWarning = false) :
    resumeSettle s = s := by
  unfold resumeSettle
  split
  · next j hj => simp only [h j hj]
  · rfl

/-- Settles O13: the counts are made at the assertion, and what waited goes on when the warning clears. -/
theorem supplyWarnHoldsAndReleases : Obligations.SupplyWarnHoldsAndReleases := by
  refine ⟨fun s => ⟨fun hoff hrun => ?_, fun hoff hstill => ?_, fun hon => ?_⟩, fun s => ⟨fun j w hj hheld hw => ?_, fun hnone => ?_⟩⟩
  · show execSupplyWarnAsserted s = _
    rw [execSupplyWarnAsserted, if_neg (by simp [hoff]), if_pos (powered_iff.mpr hrun), countWarning_eq]
  · show execSupplyWarnAsserted s = _
    rw [execSupplyWarnAsserted, if_neg (by simp [hoff]), if_neg (mt powered_iff.mp hstill)]
    rfl
  · show execSupplyWarnAsserted s = _
    rw [execSupplyWarnAsserted, if_pos hon]
  · show Host.Outcome.next (resumeSettle (warningCleared s)) = _
    rw [resumeSettle_of_held (s := warningCleared s) hj hheld hw, requestWrite_of_no_warn rfl]
    rfl
  · show Host.Outcome.next (resumeSettle (warningCleared s)) = _
    rw [resumeSettle_of_not_held (s := warningCleared s) hnone]
    rfl

end Sys2Proof.Control

namespace Sys2Proof.Notices

open Sys2Proof Sys2Proof.Machine

/-! ## States block by block -/

/-- Two states with the same blocks are the same state. -/
theorem state_eq_iff {s t : State} : s = t ↔
    s.pending = t.pending ∧ s.control = t.control ∧ s.image = t.image ∧ s.interval = t.interval ∧ s.ring = t.ring ∧
      s.engine = t.engine ∧ s.table = t.table ∧ s.store = t.store ∧ s.channels = t.channels ∧ s.roster = t.roster ∧
      s.line = t.line ∧ s.rx = t.rx ∧ s.check = t.check ∧ s.cond = t.cond ∧ s.resp = t.resp := by
  cases s
  cases t
  simp only [State.mk.injEq]

theorem onChannel_eq (ch : ChannelId) (f : Channel → Channel) (s : State) :
    s.onChannel ch f = { s with channels := s.channels.set ch (f (s.channels.get ch)) } := rfl

theorem table_set_set {n : Nat} {α : Type} (t : Table n α) (i : Fin n) (a b : α) : (t.set i a).set i b = t.set i b := by
  simp [Table.set]

/-- Two updates of one channel are one update. -/
@[simp] theorem onChannel_onChannel (ch : ChannelId) (f g : Channel → Channel) (s : State) :
    (s.onChannel ch f).onChannel ch g = s.onChannel ch (fun c => g (f c)) := by
  simp [State.onChannel, Table.modify, table_set_set]

/-- A live node is not UNCONFIGURED, so its condition unit takes notices and faults. -/
theorem live_configured {s : State} (h : s.live = true) : s.interval.membership ≠ .unconfigured := by
  intro hu
  simp [State.live, hu] at h

theorem live_powered {s : State} (h : s.live = true) : s.powered = true := (Bool.and_eq_true_iff.mp h).1

/-! ## What raising a notice does (R187) -/

theorem displaceNotice_of_room {s : State} (h : s.cond.notices.length < 8) : displaceNotice s = s := by
  unfold displaceNotice
  split
  · rw [if_neg (by omega)]
  · rfl

/-- With room in the list the notice joins its tail under the next free number. -/
theorem raiseNoticeAt_of_room {s : State} (hm : s.interval.membership ≠ .unconfigured) (h : s.cond.notices.length < 8)
    (c : Cause) (p k : Nat) : raiseNoticeAt c p k s = joinNotice c p k s := by
  simp [raiseNoticeAt, hm, displaceNotice_of_room h]

theorem raiseNotice_of_room {s : State} (hm : s.interval.membership ≠ .unconfigured) (h : s.cond.notices.length < 8)
    (c : Cause) (p : Nat) : raiseNotice c p s = { s with
      cond := { s.cond with
        seq := s.nextSeq
        notices := s.cond.notices ++ [⟨s.nextSeq, c, p, s.interval.openNumber, .unsent⟩] } } :=
  raiseNoticeAt_of_room hm h c p s.interval.openNumber

theorem displaceNotice_of_full {s : State} {old : Condition} {rest : List Condition} (hn : s.cond.notices = old :: rest)
    (h : 8 ≤ s.cond.notices.length) : displaceNotice s =
      releaseLatch old (s.onCond (fun c =>
        { c with
          notices := rest
          counters := { c.counters with
            noticesDisplaced := bump c.counters.noticesDisplaced
            displacedUnsent := if old.sending == .unsent then bump c.counters.displacedUnsent else c.counters.displacedUnsent } })) := by
  unfold displaceNotice
  split
  · next a l hl =>
    obtain ⟨rfl, rfl⟩ := List.cons.inj (hl.symm.trans hn)
    rw [if_pos h]
  · next hl => simp [hl] at hn

theorem releaseLatch_of_other_cause {c : Condition} (h : c.cause ≠ .tamper) (s : State) : releaseLatch c s = s := by
  simp [releaseLatch, h]

/-- The notices that a raise leaves before the new one. -/
def keptNotices (s : State) : List Condition := if 8 ≤ s.cond.notices.length then s.cond.notices.tail else s.cond.notices

theorem displaceNotice_notices (s : State) : (displaceNotice s).cond.notices = keptNotices s := by
  unfold displaceNotice keptNotices
  split
  · next old rest hn =>
    split
    · simp [hn]
    · rfl
  · next hn => simp [hn]

/-- A raised notice is the last of the list; before it stands what the list kept. -/
theorem raiseNoticeAt_notices {s : State} (hm : s.interval.membership ≠ .unconfigured) (c : Cause) (p k : Nat) :
    ∃ n, (raiseNoticeAt c p k s).cond.notices = keptNotices s ++ [⟨n, c, p, k, .unsent⟩] := by
  simp only [raiseNoticeAt, beq_iff_eq, hm, if_false, joinNotice, State.onCond, displaceNotice_notices]
  exact ⟨_, rfl⟩

theorem raiseNotice_notices {s : State} (hm : s.interval.membership ≠ .unconfigured) (c : Cause) (p : Nat) :
    ∃ n, (raiseNotice c p s).cond.notices = keptNotices s ++ [⟨n, c, p, s.interval.openNumber, .unsent⟩] :=
  raiseNoticeAt_notices hm c p _

theorem keptNotices_subset {s : State} {x : Condition} (h : x ∈ keptNotices s) : x ∈ s.cond.notices := by
  unfold keptNotices at h
  split at h
  · exact List.mem_of_mem_tail h
  · exact h

/-- No notice of another cause comes in by a raise. -/
theorem mem_of_mem_raiseNotice {s : State} {c : Cause} {p : Nat} {x : Condition} (hx : x ∈ (raiseNotice c p s).cond.notices)
    (hc : x.cause ≠ c) : x ∈ s.cond.notices := by
  by_cases hm : s.interval.membership = .unconfigured
  · simpa [raiseNotice, raiseNoticeAt, hm] using hx
  · obtain ⟨n, hn⟩ := raiseNotice_notices hm c p
    rw [hn, List.mem_append, List.mem_singleton] at hx
    obtain hx | rfl := hx
    · exact keptNotices_subset hx
    · exact absurd rfl hc

/-- The notice stands in the list with at most k notices behind it. -/
def Recent (k : Nat) (x : Condition) (s : State) : Prop :=
  ∃ before behind, s.cond.notices = before ++ x :: behind ∧ behind.length ≤ k

theorem Recent.mem {k : Nat} {x : Condition} {s : State} (h : Recent k x s) : x ∈ s.cond.notices := by
  obtain ⟨before, behind, hn, -⟩ := h
  simp [hn]

theorem Recent.mono {k m : Nat} {x : Condition} {s : State} (h : Recent k x s) (hk : k ≤ m) : Recent m x s := by
  obtain ⟨before, behind, hn, hl⟩ := h
  exact ⟨before, behind, hn, hl.trans hk⟩

theorem Recent.of_cond {k : Nat} {x : Condition} {s t : State} (h : Recent k x s) (hc : t.cond = s.cond) : Recent k x t := by
  unfold Recent at h ⊢
  rwa [hc]

/-- A raise displaces the oldest of eight, so a notice with fewer than seven behind it stays. -/
theorem Recent.raiseNotice {k : Nat} {x : Condition} {s : State} (h : Recent k x s) (hk : k < 7) (c : Cause) (p : Nat) :
    Recent (k + 1) x (raiseNotice c p s) := by
  by_cases hm : s.interval.membership = .unconfigured
  · exact (h.mono (Nat.le_succ k)).of_cond (by simp [Machine.raiseNotice, raiseNoticeAt, hm])
  · obtain ⟨before, behind, hn, hl⟩ := h
    obtain ⟨n, hraised⟩ := raiseNotice_notices hm c p
    have hkept : ∃ front, keptNotices s = front ++ x :: behind := by
      unfold keptNotices
      split
      · next hfull =>
        cases before with
        | nil =>
          simp only [hn, List.nil_append, List.length_cons] at hfull
          omega
        | cons b front => exact ⟨front, by simp [hn]⟩
      · exact ⟨before, hn⟩
    obtain ⟨front, hfront⟩ := hkept
    refine ⟨front, behind ++ [⟨n, c, p, s.interval.openNumber, .unsent⟩], ?_, ?_⟩
    · simp [hraised, hfront]
    · simp only [List.length_append, List.length_cons, List.length_nil]
      omega

theorem raiseNotice_recent {s : State} (hm : s.interval.membership ≠ .unconfigured) (c : Cause) (p : Nat) :
    ∃ n, Recent 0 ⟨n, c, p, s.interval.openNumber, .unsent⟩ (raiseNotice c p s) := by
  obtain ⟨n, hn⟩ := raiseNotice_notices hm c p
  exact ⟨n, keptNotices s, [], hn, Nat.le_refl 0⟩

/-! ## The channels after a raise: only a tamper latch may open (R92, R187) -/

/-- The channel d is the channel c but for the latch of its tamper input. -/
def SameButLatch (c d : Channel) : Prop := d = { c with latch := d.latch }

theorem SameButLatch.refl (c : Channel) : SameButLatch c c := rfl

theorem SameButLatch.of_eq {c d : Channel} {l : Bool} (h : d = { c with latch := l }) : SameButLatch c d := by
  subst h
  rfl

theorem SameButLatch.trans {c d e : Channel} (h : SameButLatch c d) (k : SameButLatch d e) : SameButLatch c e := by
  unfold SameButLatch at h k ⊢
  rw [k, h]

theorem releaseLatch_channels (x : Condition) (s : State) (ch : ChannelId) :
    SameButLatch (s.channels.get ch) ((releaseLatch x s).channels.get ch) := by
  unfold releaseLatch
  split
  · split
    · simp only [State.onChannel_blocks, Table.get_modify]
      split <;> rfl
    · exact .refl _
  · exact .refl _

theorem displaceNotice_channels (s : State) (ch : ChannelId) :
    SameButLatch (s.channels.get ch) ((displaceNotice s).channels.get ch) := by
  unfold displaceNotice
  split
  · split
    · exact releaseLatch_channels _ _ ch
    · exact .refl _
  · exact .refl _

theorem raiseNotice_channels (c : Cause) (p : Nat) (s : State) (ch : ChannelId) :
    SameButLatch (s.channels.get ch) ((raiseNotice c p s).channels.get ch) := by
  unfold raiseNotice raiseNoticeAt
  split
  · exact .refl _
  · simpa only [joinNotice_keeps] using displaceNotice_channels s ch

end Sys2Proof.Notices

namespace Sys2Proof.Sampling

open Sys2Proof Sys2Proof.Machine Sys2Proof.Notices

/-! ## A sample as a function of the channel

Each stage of a sample takes its own channel to a function of that channel and raises at most one notice; a raise may open the latch
of a channel's tamper input and no more. The functions below are the stages; `Stage` ties each to the operation of the model. -/

/-- The overrun part of a sample of n pulses (R90). -/
def overrun (n : Nat) (c : Channel) : Channel :=
  if n ≤ 40 then c
  else { c with overrun := true, counters := { c.counters with overrunSamples := bump c.counters.overrunSamples } }

/-- The temperature read of a sample (R82, R89). -/
def read (kind : PoolKind) (supply ret : Int) (c : Channel) : Channel :=
  if badSensors supply ret = 0 then c.goodRead (deltaT kind supply ret) else c.badRead.1

/-- The integration of a volume (R83, R84, R88). -/
def absorb (cls : SampleClass) (v : Nat) (pool : PoolDef) (c : Channel) : Channel :=
  if v = 0 then c else ((c.integrate cls v pool.nominal pool.coeff).direct cls).1

/-- The channel between the flow condition and the read: every sample in FAULT is ESTIMATED (R85). -/
def flowed (n v : Nat) (c : Channel) : Channel :=
  if c.sensorFault then { (c.flowSample n v).channel with estimated := true } else (c.flowSample n v).channel

/-- The channel behind the read, where one is made. -/
def sensed (kind : PoolKind) (n v : Nat) (supply ret : Int) (c : Channel) : Channel :=
  if (c.flowSample n v).reads then read kind supply ret (flowed n v c) else flowed n v c

/-- The class of a sample of n pulses and volume v. -/
def sampleClass (d : ChannelDef) (kind : PoolKind) (n v : Nat) (supply ret : Int) (c : Channel) : SampleClass :=
  classify c.sensorFault ((c.flowSample n v).reads && badSensors supply ret != 0) d.deadBand
    (sensed kind n v supply ret c).lastDelta

/-- The temperature and energy part of a sample of n pulses (R82 to R89). -/
def energy (d : ChannelDef) (pool : PoolDef) (n : Nat) (supply ret : Int) (c : Channel) : Channel :=
  absorb (sampleClass d pool.kind n (n * d.weight) supply ret c) (c.flowSample n (n * d.weight)).offered pool
    (sensed pool.kind n (n * d.weight) supply ret c)

/-- The LEVEL tamper input at a sample (R91). -/
def level (d : ChannelDef) (contact : Contact) (c : Channel) : Channel :=
  if d.tamper == .level then
    if contact == d.asserted then
      { c with
        tampered := true
        levelSeen := true
        counters := if c.levelSeen then c.counters else { c.counters with tamperEvents := bump c.counters.tamperEvents } }
    else { c with levelSeen := false }
  else c

/-- The channel behind the count of the pulses and the overrun part. -/
def counted (d : ChannelDef) (c : Channel) : Channel := overrun c.sincePulses (c.countSample d)

/-- The channel behind a whole sample, but for its latch. -/
def sampled (d : ChannelDef) (pool : PoolDef) (supply ret : Int) (contact : Contact) (c : Channel) : Channel :=
  level d contact (if d.kind == .supply then counted d c else energy d pool c.sincePulses supply ret (counted d c))

/-- The operation takes channel ch by f, leaves every other channel, and opens latches at most. -/
structure Stage (ch : ChannelId) (f : Channel → Channel) (s t : State) : Prop where
  here : SameButLatch (f (s.channels.get ch)) (t.channels.get ch)
  others : ∀ other, other ≠ ch → SameButLatch (s.channels.get other) (t.channels.get other)

/-- A stage's function does not read the latch. -/
def LatchFree (f : Channel → Channel) : Prop := ∀ c l, f { c with latch := l } = { f c with latch := l }

theorem Stage.onChannel (ch : ChannelId) (f : Channel → Channel) (s : State) : Stage ch f s (s.onChannel ch f) where
  here := .of_eq (l := (f (s.channels.get ch)).latch) (by simp)
  others other h := .of_eq (l := (s.channels.get other).latch) (by simp [Table.get_modify, Ne.symm h])

theorem Stage.raise {ch : ChannelId} {f : Channel → Channel} {s t : State} (h : Stage ch f s t) (c : Cause) (p : Nat) :
    Stage ch f s (raiseNotice c p t) where
  here := h.here.trans (raiseNotice_channels c p t ch)
  others other ho := (h.others other ho).trans (raiseNotice_channels c p t other)

theorem Stage.then {ch : ChannelId} {f g : Channel → Channel} {s t u : State} (h : Stage ch f s t) (k : Stage ch g t u)
    (hg : LatchFree g) : Stage ch (fun c => g (f c)) s u where
  here := by
    have hk := k.here
    rw [h.here, hg] at hk
    exact hk
  others other ho := (h.others other ho).trans (k.others other ho)

theorem Stage.congr {ch : ChannelId} {f g : Channel → Channel} {s t : State} (h : Stage ch f s t)
    (hf : f (s.channels.get ch) = g (s.channels.get ch)) : Stage ch g s t := ⟨hf ▸ h.here, h.others⟩

theorem Stage.refl (ch : ChannelId) (s : State) : Stage ch (fun c => c) s s := ⟨.refl _, fun _ _ => .refl _⟩

/-! ### The stages do not read the latch -/

theorem overrun_latchFree (n : Nat) : LatchFree (overrun n) := by
  intro c l
  unfold overrun
  split <;> rfl

theorem read_latchFree (kind : PoolKind) (supply ret : Int) : LatchFree (read kind supply ret) := by
  intro c l
  unfold read Channel.goodRead Channel.badRead
  (repeat' split) <;> simp_all

theorem level_latchFree (d : ChannelDef) (contact : Contact) : LatchFree (level d contact) := by
  intro c l
  unfold level
  (repeat' split) <;> rfl

theorem integrate_latchFree (cls : SampleClass) (v nominal coeff : Nat) : LatchFree (Channel.integrate cls v nominal coeff) := by
  intro c l
  cases cls <;> simp only [Channel.integrate, Channel.addForward, Channel.addReverse]
  case forward => split <;> rfl

theorem direct_latchFree (cls : SampleClass) : LatchFree (fun c => (c.direct cls).1) := by
  intro c l
  cases cls <;> simp only [Channel.direct]
  case forward => (repeat' split) <;> rfl
  case backward => (repeat' split) <;> rfl
  case deadBand => split <;> rfl

theorem absorb_latchFree (cls : SampleClass) (v : Nat) (pool : PoolDef) : LatchFree (absorb cls v pool) := by
  intro c l
  unfold absorb
  split
  · rfl
  · rw [integrate_latchFree cls v pool.nominal pool.coeff c l]
    exact direct_latchFree cls _ l

theorem flowSample_latch (n v : Nat) (c : Channel) (l : Bool) :
    Channel.flowSample n v { c with latch := l } =
      { c.flowSample n v with channel := { (c.flowSample n v).channel with latch := l } } := by
  unfold Channel.flowSample
  (repeat' split) <;> simp_all

theorem flowed_latchFree (n v : Nat) : LatchFree (flowed n v) := by
  intro c l
  unfold flowed
  rw [flowSample_latch]
  split <;> rfl

theorem sensed_latchFree (kind : PoolKind) (n v : Nat) (supply ret : Int) : LatchFree (sensed kind n v supply ret) := by
  intro c l
  unfold sensed
  rw [flowSample_latch, flowed_latchFree]
  split
  · exact read_latchFree kind supply ret _ l
  · rfl

theorem sampleClass_latch (d : ChannelDef) (kind : PoolKind) (n v : Nat) (supply ret : Int) (c : Channel) (l : Bool) :
    sampleClass d kind n v supply ret { c with latch := l } = sampleClass d kind n v supply ret c := by
  unfold sampleClass
  rw [flowSample_latch, sensed_latchFree]

theorem energy_latchFree (d : ChannelDef) (pool : PoolDef) (n : Nat) (supply ret : Int) : LatchFree (energy d pool n supply ret) := by
  intro c l
  unfold energy
  rw [flowSample_latch, sensed_latchFree, sampleClass_latch]
  exact absorb_latchFree _ _ _ _ l

/-! ### Each operation of a sample is its stage -/

theorem overrunSample_stage (ch : ChannelId) (n : Nat) (s : State) : Stage ch (overrun n) s (overrunSample ch n s) := by
  unfold overrunSample
  split
  · next hn => exact (Stage.refl ch s).congr (by simp [overrun, hn])
  · next hn =>
    dsimp only
    split
    · next ho =>
      refine (Stage.onChannel ch _ s).congr ?_
      simp only [onChannelCounters, State.onChannel_blocks, Table.get_modify_self] at ho
      simp [overrun, hn, ho]
    · refine Stage.raise ?_ _ _
      rw [onChannelCounters, onChannel_onChannel]
      exact (Stage.onChannel ch _ s).congr (by simp [overrun, hn])

theorem readSample_stage (ch : ChannelId) (supply ret : Int) (s : State) :
    Stage ch (read (s.image.pools.get (s.channelDef ch).pool).kind supply ret) s (readSample ch supply ret s) := by
  unfold readSample
  dsimp only
  split
  · next hb => exact (Stage.onChannel ch _ s).congr (by simp [read, hb])
  · next hb =>
    have hset : Stage ch (read (s.image.pools.get (s.channelDef ch).pool).kind supply ret) s
        (s.onChannel ch (fun _ => (s.channels.get ch).badRead.1)) :=
      (Stage.onChannel ch _ s).congr (by simp [read, hb])
    split
    · exact hset.raise _ _
    · exact hset

theorem integrateSample_stage (ch : ChannelId) (cls : SampleClass) (v : Nat) (s : State) :
    Stage ch (absorb cls v (s.image.pools.get (s.channelDef ch).pool)) s (integrateSample ch cls v s) := by
  unfold integrateSample
  split
  · next hv => exact (Stage.refl ch s).congr (by simp [absorb, hv])
  · next hv =>
    have hset := (Stage.onChannel ch _ s).congr (g := absorb cls v (s.image.pools.get (s.channelDef ch).pool))
      (f := fun c => ((c.integrate cls v (s.image.pools.get (s.channelDef ch).pool).nominal
        (s.image.pools.get (s.channelDef ch).pool).coeff).direct cls).1) (by simp [absorb, hv])
    simp only [onChannel_onChannel, State.onChannel_blocks, Table.get_modify_self]
    split
    · exact Stage.raise hset _ _
    · exact hset

/-- The state behind the flow condition and the read of a sample of n pulses and volume v. -/
def readAfterFlow (ch : ChannelId) (n v : Nat) (supply ret : Int) (s : State) : State :=
  let s1 := s.onChannel ch (flowed n v)
  if ((s.channels.get ch).flowSample n v).reads then readSample ch supply ret s1 else s1

@[simp] theorem readAfterFlow_image (ch : ChannelId) (n v : Nat) (supply ret : Int) (s : State) :
    (readAfterFlow ch n v supply ret s).image = s.image := by
  unfold readAfterFlow
  dsimp only
  split <;> simp

theorem readAfterFlow_stage (ch : ChannelId) (n v : Nat) (supply ret : Int) (s : State) :
    Stage ch (sensed (s.image.pools.get (s.channelDef ch).pool).kind n v supply ret) s (readAfterFlow ch n v supply ret s) := by
  unfold readAfterFlow
  dsimp only
  split
  · next hr =>
    exact ((Stage.onChannel ch _ s).then (readSample_stage ch supply ret _) (read_latchFree _ _ _)).congr
      (by simp [sensed, hr, State.channelDef])
  · next hr => exact (Stage.onChannel ch _ s).congr (by simp [sensed, hr])

theorem energySample_eq (ch : ChannelId) (n : Nat) (supply ret : Int) (s : State) :
    energySample ch n supply ret s =
      integrateSample ch
        (classify (s.channels.get ch).sensorFault
          (((s.channels.get ch).flowSample n (n * (s.channelDef ch).weight)).reads && badSensors supply ret != 0)
          (s.channelDef ch).deadBand
          ((readAfterFlow ch n (n * (s.channelDef ch).weight) supply ret s).channels.get ch).lastDelta)
        ((s.channels.get ch).flowSample n (n * (s.channelDef ch).weight)).offered
        (readAfterFlow ch n (n * (s.channelDef ch).weight) supply ret s) := rfl

theorem energySample_stage (ch : ChannelId) (n : Nat) (supply ret : Int) (s : State) :
    Stage ch (energy (s.channelDef ch) (s.image.pools.get (s.channelDef ch).pool) n supply ret) s
      (energySample ch n supply ret s) := by
  have hread := readAfterFlow_stage ch n (n * (s.channelDef ch).weight) supply ret s
  have hdelta : ((readAfterFlow ch n (n * (s.channelDef ch).weight) supply ret s).channels.get ch).lastDelta = _ :=
    congrArg Channel.lastDelta hread.here
  have habsorb := hread.then (integrateSample_stage ch (sampleClass (s.channelDef ch)
    (s.image.pools.get (s.channelDef ch).pool).kind n (n * (s.channelDef ch).weight) supply ret (s.channels.get ch))
    ((s.channels.get ch).flowSample n (n * (s.channelDef ch).weight)).offered _) (absorb_latchFree _ _ _)
  rw [energySample_eq, hdelta]
  exact habsorb.congr (by simp [energy, State.channelDef])

theorem levelTamper_stage (ch : ChannelId) (contact : Contact) (s : State) :
    Stage ch (level (s.channelDef ch) contact) s (levelTamper ch contact s) := by
  unfold levelTamper
  dsimp only
  split
  · next hlevel =>
    split
    · next hseen =>
      split
      · next hl => exact (Stage.onChannel ch _ s).congr (by simp [level, hlevel, hseen, hl])
      · next hl =>
        refine Stage.raise ?_ _ _
        rw [onChannelCounters, onChannel_onChannel]
        exact (Stage.onChannel ch _ s).congr (by simp [level, hlevel, hseen, hl])
    · next hseen => exact (Stage.onChannel ch _ s).congr (by simp [level, hlevel, hseen])
  · next hlevel => exact (Stage.refl ch s).congr (by simp [level, hlevel])

/-- The state behind the count and the overrun part of a sample. -/
def afterCount (ch : ChannelId) (s : State) : State :=
  overrunSample ch (s.channels.get ch).sincePulses (s.onChannel ch (Channel.countSample (s.channelDef ch)))

@[simp] theorem afterCount_image (ch : ChannelId) (s : State) : (afterCount ch s).image = s.image := by
  simp [afterCount]

theorem afterCount_stage (ch : ChannelId) (s : State) : Stage ch (counted (s.channelDef ch)) s (afterCount ch s) :=
  ((Stage.onChannel ch _ s).then (overrunSample_stage ch _ _) (overrun_latchFree _)).congr rfl

theorem sampleChannel_eq (ch : ChannelId) (supply ret : Int) (contact : Contact) (s : State) :
    sampleChannel ch supply ret contact s =
      levelTamper ch contact
        (if (s.channelDef ch).kind == .supply then afterCount ch s
        else energySample ch (s.channels.get ch).sincePulses supply ret (afterCount ch s)) := rfl

/-- A sample's channel, but for its latch, is the function of the channel before; other channels keep all but their latches. -/
theorem sampleChannel_stage (ch : ChannelId) (supply ret : Int) (contact : Contact) (s : State) :
    Stage ch (sampled (s.channelDef ch) (s.image.pools.get (s.channelDef ch).pool) supply ret contact) s
      (sampleChannel ch supply ret contact s) := by
  rw [sampleChannel_eq]
  split
  · next hk =>
    rw [beq_iff_eq, State.channelDef] at hk
    exact ((afterCount_stage ch s).then (levelTamper_stage ch contact _) (level_latchFree _ _)).congr
      (by simp [sampled, hk, State.channelDef])
  · next hk =>
    rw [beq_iff_eq, State.channelDef] at hk
    exact (((afterCount_stage ch s).then (energySample_stage ch _ supply ret _) (energy_latchFree _ _ _ _ _)).then
      (levelTamper_stage ch contact _) (level_latchFree _ _)).congr (by simp [sampled, hk, State.channelDef])

/-! ### What each stage leaves of its channel -/

theorem countSample_keeps (d : ChannelDef) (c : Channel) :
    (c.countSample d).still = c.still ∧ (c.countSample d).idle = c.idle ∧ (c.countSample d).toRead = c.toRead ∧
      (c.countSample d).held = c.held ∧ (c.countSample d).sensorFault = c.sensorFault := ⟨rfl, rfl, rfl, rfl, rfl⟩

/-- The overrun part changes the overrun mark and its counter alone. -/
theorem overrun_keeps (n : Nat) (c : Channel) :
    overrun n c = { c with
      overrun := (overrun n c).overrun
      counters := { c.counters with overrunSamples := (overrun n c).counters.overrunSamples } } := by
  unfold overrun
  split <;> rfl

/-- A read changes the sensor condition, the last ΔT and a counter alone. -/
theorem read_keeps (kind : PoolKind) (supply ret : Int) (c : Channel) :
    read kind supply ret c = { c with
      lastDelta := (read kind supply ret c).lastDelta
      sensorFault := (read kind supply ret c).sensorFault
      badRun := (read kind supply ret c).badRun
      goodRun := (read kind supply ret c).goodRun
      counters := { c.counters with faultEntries := (read kind supply ret c).counters.faultEntries } } := by
  unfold read Channel.goodRead Channel.badRead
  (repeat' split) <;> rfl

/-- The figures and the direction condition of a channel, which an integration changes. -/
def sameFigures (c x : Channel) : Channel :=
  { c with
    energy := x.energy
    reverse := x.reverse
    forwardRem := x.forwardRem
    reverseRem := x.reverseRem
    estimated := x.estimated
    reversed := x.reversed
    reverseRun := x.reverseRun
    forwardRun := x.forwardRun
    counters := { c.counters with
      energyClipped := x.counters.energyClipped
      deadBandSamples := x.counters.deadBandSamples
      reverseEntries := x.counters.reverseEntries } }

theorem integrate_keeps (cls : SampleClass) (v nominal coeff : Nat) (c : Channel) :
    c.integrate cls v nominal coeff = sameFigures c (c.integrate cls v nominal coeff) := by
  cases cls <;> simp only [Channel.integrate, Channel.addForward, Channel.addReverse] <;> (repeat' split) <;> rfl

theorem direct_keeps (cls : SampleClass) (c : Channel) : (c.direct cls).1 = sameFigures c (c.direct cls).1 := by
  cases cls <;> simp only [Channel.direct] <;> (repeat' split) <;> rfl

theorem absorb_keeps (cls : SampleClass) (v : Nat) (pool : PoolDef) (c : Channel) :
    absorb cls v pool c = sameFigures c (absorb cls v pool c) := by
  unfold absorb
  split
  · rfl
  · rw [direct_keeps, integrate_keeps]
    rfl

/-- The flow condition changes its own four fields alone (R87). -/
theorem flowSample_keeps (n v : Nat) (c : Channel) :
    (c.flowSample n v).channel = { c with
      still := (c.flowSample n v).channel.still
      idle := (c.flowSample n v).channel.idle
      toRead := (c.flowSample n v).channel.toRead
      held := (c.flowSample n v).channel.held } := by
  unfold Channel.flowSample
  (repeat' split) <;> rfl

end Sys2Proof.Sampling

namespace Sys2Proof.Sampling

open Sys2Proof Sys2Proof.Machine Sys2Proof.Notices

/-! ## The fields of the channel behind a sample -/

theorem sensed_keeps (kind : PoolKind) (n v : Nat) (supply ret : Int) (c : Channel) :
    sensed kind n v supply ret c = { c with
      still := (c.flowSample n v).channel.still
      idle := (c.flowSample n v).channel.idle
      toRead := (c.flowSample n v).channel.toRead
      held := (c.flowSample n v).channel.held
      estimated := (sensed kind n v supply ret c).estimated
      lastDelta := (sensed kind n v supply ret c).lastDelta
      sensorFault := (sensed kind n v supply ret c).sensorFault
      badRun := (sensed kind n v supply ret c).badRun
      goodRun := (sensed kind n v supply ret c).goodRun
      counters := { c.counters with faultEntries := (sensed kind n v supply ret c).counters.faultEntries } } := by
  have hflow : flowed n v c = { (c.flowSample n v).channel with estimated := (flowed n v c).estimated } := by
    unfold flowed
    split <;> rfl
  unfold sensed
  split
  · rw [read_keeps, hflow, flowSample_keeps]
  · rw [hflow, flowSample_keeps]

/-- The energy part of a sample leaves the pulses, the marks of the close and of the tamper input, and the lifetime figures. -/
theorem energy_outside (d : ChannelDef) (pool : PoolDef) (n : Nat) (supply ret : Int) (c : Channel) :
    (energy d pool n supply ret c).sincePulses = c.sincePulses ∧ (energy d pool n supply ret c).pulses = c.pulses ∧
      (energy d pool n supply ret c).volume = c.volume ∧ (energy d pool n supply ret c).life = c.life ∧
      (energy d pool n supply ret c).overrun = c.overrun ∧ (energy d pool n supply ret c).levelSeen = c.levelSeen ∧
      (energy d pool n supply ret c).tampered = c.tampered ∧
      (energy d pool n supply ret c).counters.overrunSamples = c.counters.overrunSamples ∧
      (energy d pool n supply ret c).counters.tamperEvents = c.counters.tamperEvents := by
  unfold energy
  rw [absorb_keeps, sensed_keeps]
  exact ⟨rfl, rfl, rfl, rfl, rfl, rfl, rfl, rfl, rfl⟩

/-- The flow condition's fields behind a sample are those that the flow condition gave. -/
theorem energy_flow (d : ChannelDef) (pool : PoolDef) (n : Nat) (supply ret : Int) (c : Channel) :
    (energy d pool n supply ret c).still = (c.flowSample n (n * d.weight)).channel.still ∧
      (energy d pool n supply ret c).idle = (c.flowSample n (n * d.weight)).channel.idle ∧
      (energy d pool n supply ret c).toRead = (c.flowSample n (n * d.weight)).channel.toRead ∧
      (energy d pool n supply ret c).held = (c.flowSample n (n * d.weight)).channel.held := by
  unfold energy
  rw [absorb_keeps, sensed_keeps]
  exact ⟨rfl, rfl, rfl, rfl⟩

/-- The sensor condition behind a sample is that behind its read. -/
theorem energy_sensor (d : ChannelDef) (pool : PoolDef) (n : Nat) (supply ret : Int) (c : Channel) :
    (energy d pool n supply ret c).lastDelta = (sensed pool.kind n (n * d.weight) supply ret c).lastDelta ∧
      (energy d pool n supply ret c).sensorFault = (sensed pool.kind n (n * d.weight) supply ret c).sensorFault ∧
      (energy d pool n supply ret c).badRun = (sensed pool.kind n (n * d.weight) supply ret c).badRun ∧
      (energy d pool n supply ret c).goodRun = (sensed pool.kind n (n * d.weight) supply ret c).goodRun := by
  unfold energy
  rw [absorb_keeps]
  exact ⟨rfl, rfl, rfl, rfl⟩

/-- Without a read the sensor condition stays. -/
theorem sensed_of_no_read {kind : PoolKind} {n v : Nat} {supply ret : Int} {c : Channel} (h : (c.flowSample n v).reads = false) :
    (sensed kind n v supply ret c).lastDelta = c.lastDelta ∧ (sensed kind n v supply ret c).sensorFault = c.sensorFault ∧
      (sensed kind n v supply ret c).badRun = c.badRun ∧ (sensed kind n v supply ret c).goodRun = c.goodRun := by
  unfold sensed flowed
  rw [if_neg (by simp [h]), flowSample_keeps]
  split <;> exact ⟨rfl, rfl, rfl, rfl⟩

/-- A good read sets the last ΔT. -/
theorem sensed_lastDelta {kind : PoolKind} {n v : Nat} {supply ret : Int} {c : Channel} (h : (c.flowSample n v).reads = true)
    (hgood : badSensors supply ret = 0) : (sensed kind n v supply ret c).lastDelta = some (deltaT kind supply ret) := by
  simp only [sensed, h, if_true, read, hgood, Channel.goodRead]
  (repeat' split) <;> rfl

/-- Where no volume is offered, no figure changes. -/
theorem energy_of_no_offer {d : ChannelDef} {pool : PoolDef} {n : Nat} {supply ret : Int} {c : Channel}
    (h : (c.flowSample n (n * d.weight)).offered = 0) :
    (energy d pool n supply ret c).energy = c.energy ∧ (energy d pool n supply ret c).reverse = c.reverse ∧
      (energy d pool n supply ret c).forwardRem = c.forwardRem ∧ (energy d pool n supply ret c).reverseRem = c.reverseRem := by
  simp only [energy, h, absorb, if_true]
  rw [sensed_keeps]
  exact ⟨rfl, rfl, rfl, rfl⟩

/-- The LEVEL tamper input changes the tamper marks and their counter alone. -/
theorem level_keeps (d : ChannelDef) (contact : Contact) (c : Channel) :
    level d contact c = { c with
      tampered := (level d contact c).tampered
      levelSeen := (level d contact c).levelSeen
      counters := { c.counters with tamperEvents := (level d contact c).counters.tamperEvents } } := by
  unfold level
  (repeat' split) <;> simp_all

/-- The channel before its tamper input is taken. -/
def untampered (d : ChannelDef) (pool : PoolDef) (supply ret : Int) (c : Channel) : Channel :=
  if d.kind == .supply then counted d c else energy d pool c.sincePulses supply ret (counted d c)

theorem sampled_eq (d : ChannelDef) (pool : PoolDef) (supply ret : Int) (contact : Contact) (c : Channel) :
    sampled d pool supply ret contact c = level d contact (untampered d pool supply ret c) := rfl

theorem untampered_outside (d : ChannelDef) (pool : PoolDef) (supply ret : Int) (c : Channel) :
    (untampered d pool supply ret c).sincePulses = (counted d c).sincePulses ∧
      (untampered d pool supply ret c).pulses = (counted d c).pulses ∧
      (untampered d pool supply ret c).volume = (counted d c).volume ∧
      (untampered d pool supply ret c).life = (counted d c).life ∧
      (untampered d pool supply ret c).overrun = (counted d c).overrun ∧
      (untampered d pool supply ret c).levelSeen = (counted d c).levelSeen ∧
      (untampered d pool supply ret c).tampered = (counted d c).tampered ∧
      (untampered d pool supply ret c).counters.overrunSamples = (counted d c).counters.overrunSamples ∧
      (untampered d pool supply ret c).counters.tamperEvents = (counted d c).counters.tamperEvents := by
  unfold untampered
  split
  · exact ⟨rfl, rfl, rfl, rfl, rfl, rfl, rfl, rfl, rfl⟩
  · exact energy_outside _ _ _ _ _ _

/-- The count of the pulses leaves the tamper marks. -/
theorem untampered_tamper (d : ChannelDef) (pool : PoolDef) (supply ret : Int) (c : Channel) :
    (untampered d pool supply ret c).levelSeen = c.levelSeen ∧ (untampered d pool supply ret c).tampered = c.tampered ∧
      (untampered d pool supply ret c).counters.tamperEvents = c.counters.tamperEvents := by
  obtain ⟨-, -, -, -, -, hseen, htampered, -, hevents⟩ := untampered_outside d pool supply ret c
  rw [hseen, htampered, hevents, counted, overrun_keeps]
  exact ⟨rfl, rfl, rfl⟩

/-! ## PULSE_INPUT and TAMPER_EDGE -/

theorem metering_iff {ch : ChannelId} {s : State} :
    s.metering ch = true ↔ s.live = true ∧ (s.image.channels.get ch).kind ≠ .off := by
  simp [State.metering, State.channelDef]

/-- The state before the LEVEL tamper input is taken. -/
def beforeTamper (ch : ChannelId) (supply ret : Int) (s : State) : State :=
  if (s.channelDef ch).kind == .supply then afterCount ch s
  else energySample ch (s.channels.get ch).sincePulses supply ret (afterCount ch s)

theorem beforeTamper_keeps (ch : ChannelId) (supply ret : Int) (s : State) :
    (beforeTamper ch supply ret s).image = s.image ∧ (beforeTamper ch supply ret s).interval = s.interval := by
  unfold beforeTamper afterCount
  split <;> simp

theorem beforeTamper_stage (ch : ChannelId) (supply ret : Int) (s : State) :
    Stage ch (untampered (s.channelDef ch) (s.image.pools.get (s.channelDef ch).pool) supply ret) s
      (beforeTamper ch supply ret s) := by
  unfold beforeTamper
  split
  · next hk =>
    rw [beq_iff_eq, State.channelDef] at hk
    exact (afterCount_stage ch s).congr (by simp [untampered, hk, State.channelDef])
  · next hk =>
    rw [beq_iff_eq, State.channelDef] at hk
    exact ((afterCount_stage ch s).then (energySample_stage ch _ supply ret _) (energy_latchFree _ _ _ _ _)).congr
      (by simp [untampered, hk, State.channelDef])

/-- An asserted LEVEL input that the sample before found deasserted raises TAMPER last of all. -/
theorem sampleChannel_tamper_notice {ch : ChannelId} {supply ret : Int} {contact : Contact} {s : State} (hl : s.live = true)
    (hmode : (s.image.channels.get ch).tamper = .level) (hc : contact = (s.image.channels.get ch).asserted)
    (hseen : (s.channels.get ch).levelSeen = false) :
    ∃ n, (sampleChannel ch supply ret contact s).cond.notices.getLast? =
      some ⟨n, .tamper, ch.val * 256, s.interval.openNumber, .unsent⟩ := by
  obtain ⟨himage, hinterval⟩ := beforeTamper_keeps ch supply ret s
  have hbefore : ((beforeTamper ch supply ret s).channels.get ch).levelSeen = false := by
    rw [(beforeTamper_stage ch supply ret s).here]
    exact (untampered_tamper _ _ _ _ _).1.trans hseen
  have heq : sampleChannel ch supply ret contact s = levelTamper ch contact (beforeTamper ch supply ret s) := rfl
  rw [heq]
  simp only [levelTamper, State.channelDef, himage, hmode, hc, beq_self_eq_true, if_true, hbefore, Bool.false_eq_true, if_false]
  obtain ⟨n, hn⟩ := raiseNotice_notices (c := .tamper) (p := ch.val * 256)
    (s := onChannelCounters ch (fun k => { k with tamperEvents := bump k.tamperEvents })
      ((beforeTamper ch supply ret s).onChannel ch (fun c => { c with tampered := true, levelSeen := true })))
    (by simpa [hinterval] using live_configured hl)
  refine ⟨n, ?_⟩
  rw [hn]
  simp [hinterval]

theorem pulseTamper_of_latched {ch : ChannelId} {s : State} (h : (s.channels.get ch).latch = true) :
    pulseTamper ch s = onChannelCounters ch (fun k => { k with tamperEvents := bump k.tamperEvents }) s := by
  simp [pulseTamper, onChannelCounters, h]

/-- The channel behind an edge that finds its latch clear. -/
def latched (c : Channel) : Channel :=
  { c with latch := true, tampered := true, counters := { c.counters with tamperEvents := bump c.counters.tamperEvents } }

theorem pulseTamper_of_clear {ch : ChannelId} {s : State} (h : (s.channels.get ch).latch = false) :
    pulseTamper ch s = raiseNotice .tamper (ch.val * 256 + 1) (s.onChannel ch latched) := by
  simp [pulseTamper, onChannelCounters, h]
  rfl

/-- A full list whose oldest notice holds no latch loses it to the new one. -/
theorem raiseNotice_of_full {s : State} {old : Condition} {rest : List Condition} (hm : s.interval.membership ≠ .unconfigured)
    (hn : s.cond.notices = old :: rest) (hfull : 8 ≤ s.cond.notices.length) (hold : old.cause ≠ .tamper) (c : Cause) (p : Nat) :
    ∃ n, raiseNotice c p s = { s with
      cond := { s.cond with
        seq := n
        notices := rest ++ [⟨n, c, p, s.interval.openNumber, .unsent⟩]
        counters := { s.cond.counters with
          noticesDisplaced := bump s.cond.counters.noticesDisplaced
          displacedUnsent :=
            if old.sending = .unsent then bump s.cond.counters.displacedUnsent else s.cond.counters.displacedUnsent } } } := by
  refine ⟨(displaceNotice s).nextSeq, ?_⟩
  rw [raiseNotice, raiseNoticeAt, if_neg (by simpa using hm), displaceNotice_of_full hn hfull, releaseLatch_of_other_cause hold]
  simp [joinNotice, State.onCond]

/-- Settles O14: each input's operation on its channel, and the LEVEL input by the stages of a sample. -/
theorem pulseAndTamperInputsAreCounted : Obligations.PulseAndTamperInputsAreCounted := by
  refine ⟨fun ch s => ⟨fun hl hk => ?_, fun hoff => ?_⟩, fun ch s hl hk hmode => ?_, fun ch supply ret contact s hl hk hmode => ?_⟩
  · show execPulseInput ch s = _
    rw [execPulseInput, if_pos (metering_iff.mpr ⟨hl, hk⟩)]
    rfl
  · show execPulseInput ch s = _
    rw [execPulseInput, if_neg fun h => (metering_iff.mp h).2 hoff]
  · have hexec : exec (.tamperEdge ch) s = .next (pulseTamper ch s) := by
      show execTamperEdge ch s = _
      rw [execTamperEdge, if_pos (by simp [metering_iff.mpr ⟨hl, hk⟩, State.channelDef, hmode])]
    refine ⟨fun hlatch => ?_, fun hlatch hroom => ?_, fun old rest hlatch hn hfull hold => ?_⟩
    · rw [hexec, pulseTamper_of_latched hlatch]
      rfl
    · rw [hexec, pulseTamper_of_clear hlatch, raiseNotice_of_room (s := s.onChannel ch latched) (live_configured hl) hroom]
      rfl
    · obtain ⟨n, hraised⟩ := raiseNotice_of_full (s := s.onChannel ch latched) (live_configured hl) hn hfull hold .tamper
        (ch.val * 256 + 1)
      refine ⟨n, ?_⟩
      rw [hexec, pulseTamper_of_clear hlatch, hraised]
      rfl
  · have hexec : exec (.sample ch supply ret contact) s = .next (sampleChannel ch supply ret contact s) :=
      if_pos (metering_iff.mpr ⟨hl, hk⟩)
    obtain ⟨hseen, htampered, hevents⟩ := untampered_tamper (s.image.channels.get ch)
      (s.image.pools.get (s.image.channels.get ch).pool) supply ret (s.channels.get ch)
    have hx := (sampleChannel_stage ch supply ret contact s).here
    rw [State.channelDef, sampled_eq] at hx
    refine ⟨_, hexec, fun hne => ?_, fun heq => ?_⟩
    · rw [hx]
      simp [level, hmode, hne, htampered, hevents]
    · rw [hx]
      refine ⟨by simp [level, hmode, heq], by simp [level, hmode, heq], fun h => ?_, fun h => ?_⟩
      · simp [level, hmode, heq, hseen, h, hevents]
      · refine ⟨?_, sampleChannel_tamper_notice hl hmode heq h⟩
        simp [level, hmode, heq, hseen, h, hevents]

/-! ## SAMPLE: the notices -/

theorem levelTamper_recent {k : Nat} {x : Condition} {s : State} (h : Recent k x s) (hk : k < 7) (ch : ChannelId)
    (contact : Contact) : Recent (k + 1) x (levelTamper ch contact s) := by
  unfold levelTamper
  dsimp only
  split
  · split
    · split
      · exact (h.mono (Nat.le_succ k)).of_cond (by simp)
      · exact Recent.raiseNotice (h.of_cond (by simp)) hk _ _
    · exact (h.mono (Nat.le_succ k)).of_cond (by simp)
  · exact h.mono (Nat.le_succ k)

theorem readSample_recent {k : Nat} {x : Condition} {s : State} (h : Recent k x s) (hk : k < 7) (ch : ChannelId)
    (supply ret : Int) : Recent (k + 1) x (readSample ch supply ret s) := by
  unfold readSample
  dsimp only
  split
  · exact (h.mono (Nat.le_succ k)).of_cond (by simp)
  · split
    · exact Recent.raiseNotice (h.of_cond (by simp)) hk _ _
    · exact (h.mono (Nat.le_succ k)).of_cond (by simp)

theorem integrateSample_recent {k : Nat} {x : Condition} {s : State} (h : Recent k x s) (hk : k < 7) (ch : ChannelId)
    (cls : SampleClass) (v : Nat) : Recent (k + 1) x (integrateSample ch cls v s) := by
  unfold integrateSample
  dsimp only
  split
  · exact h.mono (Nat.le_succ k)
  · split
    · exact Recent.raiseNotice (h.of_cond (by simp)) hk _ _
    · exact (h.mono (Nat.le_succ k)).of_cond (by simp)

/-- The stages behind the count raise three notices at most. -/
theorem sampleChannel_recent {x : Condition} {ch : ChannelId} {s : State} (h : Recent 0 x (afterCount ch s)) (supply ret : Int)
    (contact : Contact) : Recent 3 x (sampleChannel ch supply ret contact s) := by
  rw [sampleChannel_eq]
  refine levelTamper_recent (k := 2) ?_ (by omega) ch contact
  split
  · exact h.mono (by omega)
  · rw [energySample_eq]
    refine integrateSample_recent (k := 1) ?_ (by omega) ch _ _
    unfold readAfterFlow
    dsimp only
    split
    · exact readSample_recent (k := 0) (h.of_cond (by simp)) (by omega) ch supply ret
    · exact (h.mono (Nat.zero_le 1)).of_cond (by simp)

/-- The first overrun of an interval raises PULSE_OVERRUN. -/
theorem afterCount_overrun {ch : ChannelId} {s : State} (hl : s.live = true) (hn : 40 < (s.channels.get ch).sincePulses)
    (ho : (s.channels.get ch).overrun = false) :
    ∃ n, Recent 0 ⟨n, .pulseOverrun, ch.val * 256 + min (s.channels.get ch).sincePulses 255, s.interval.openNumber, .unsent⟩
      (afterCount ch s) := by
  unfold afterCount overrunSample
  rw [if_neg (by omega)]
  simp only [onChannelCounters, onChannel_onChannel, State.onChannel_blocks, Table.get_modify_self]
  rw [if_neg (by simp [Channel.countSample, ho])]
  exact raiseNotice_recent (s := State.onChannel ch _ s) (live_configured hl) _ _

theorem afterCount_quiet {ch : ChannelId} {s : State}
    (h : (s.channels.get ch).overrun = true ∨ (s.channels.get ch).sincePulses ≤ 40) : (afterCount ch s).cond = s.cond := by
  unfold afterCount overrunSample
  split
  · simp
  · next hn =>
    have ho := h.resolve_right hn
    simp only [onChannelCounters, onChannel_onChannel, State.onChannel_blocks, Table.get_modify_self]
    rw [if_pos (by simp [Channel.countSample, ho])]
    simp

/-- No stage behind the count raises PULSE_OVERRUN. -/
theorem overrun_mem_of_mem_sampleChannel {x : Condition} {ch : ChannelId} {supply ret : Int} {contact : Contact} {s : State}
    (hx : x ∈ (sampleChannel ch supply ret contact s).cond.notices) (hc : x.cause = .pulseOverrun) :
    x ∈ (afterCount ch s).cond.notices := by
  have hlevel : ∀ t, x ∈ (levelTamper ch contact t).cond.notices → x ∈ t.cond.notices := by
    intro t ht
    unfold levelTamper at ht
    dsimp only at ht
    split at ht
    · split at ht
      · split at ht
        · simpa using ht
        · simpa using mem_of_mem_raiseNotice ht (by simp [hc])
      · simpa using ht
    · exact ht
  have hread : ∀ t, x ∈ (readSample ch supply ret t).cond.notices → x ∈ t.cond.notices := by
    intro t ht
    unfold readSample at ht
    dsimp only at ht
    split at ht
    · simpa using ht
    · split at ht
      · simpa using mem_of_mem_raiseNotice ht (by simp [hc])
      · simpa using ht
  have hintegrate : ∀ cls v t, x ∈ (integrateSample ch cls v t).cond.notices → x ∈ t.cond.notices := by
    intro cls v t ht
    unfold integrateSample at ht
    dsimp only at ht
    split at ht
    · exact ht
    · split at ht
      · simpa using mem_of_mem_raiseNotice ht (by simp [hc])
      · simpa using ht
  rw [sampleChannel_eq] at hx
  have hbefore := hlevel _ hx
  split at hbefore
  · exact hbefore
  · rw [energySample_eq] at hbefore
    have hflow := hintegrate _ _ _ hbefore
    unfold readAfterFlow at hflow
    dsimp only at hflow
    split at hflow
    · simpa using hread _ hflow
    · simpa using hflow

/-! ## SAMPLE: the fields -/

/-- The count changes the three pulse fields, the overrun mark and its counter alone. -/
theorem counted_keeps (d : ChannelDef) (c : Channel) :
    counted d c = { c with
      sincePulses := 0
      pulses := min (c.pulses + c.sincePulses) 4294967295
      volume := min (c.volume + c.sincePulses * d.weight) 4294967295
      overrun := (counted d c).overrun
      counters := { c.counters with overrunSamples := (counted d c).counters.overrunSamples } } := by
  unfold counted
  rw [overrun_keeps]
  rfl

theorem counted_overrun {d : ChannelDef} {c : Channel} (h : 40 < c.sincePulses) :
    (counted d c).overrun = true ∧ (counted d c).counters.overrunSamples = bump c.counters.overrunSamples := by
  rw [counted, overrun, if_neg (by omega)]
  exact ⟨rfl, rfl⟩

theorem counted_no_overrun {d : ChannelDef} {c : Channel} (h : c.sincePulses ≤ 40) :
    (counted d c).overrun = c.overrun ∧ (counted d c).counters.overrunSamples = c.counters.overrunSamples := by
  rw [counted, overrun, if_pos h]
  exact ⟨rfl, rfl⟩

/-- The flow condition reads its own four fields, which the count leaves. -/
theorem counted_flow (d : ChannelDef) (c : Channel) :
    (counted d c).still = c.still ∧ (counted d c).idle = c.idle ∧ (counted d c).toRead = c.toRead ∧ (counted d c).held = c.held := by
  rw [counted_keeps]
  exact ⟨rfl, rfl, rfl, rfl⟩

theorem counted_sensor (d : ChannelDef) (c : Channel) :
    (counted d c).lastDelta = c.lastDelta ∧ (counted d c).sensorFault = c.sensorFault ∧ (counted d c).badRun = c.badRun ∧
      (counted d c).goodRun = c.goodRun := by
  rw [counted_keeps]
  exact ⟨rfl, rfl, rfl, rfl⟩

theorem counted_figures (d : ChannelDef) (c : Channel) :
    (counted d c).energy = c.energy ∧ (counted d c).reverse = c.reverse ∧ (counted d c).forwardRem = c.forwardRem ∧
      (counted d c).reverseRem = c.reverseRem := by
  rw [counted_keeps]
  exact ⟨rfl, rfl, rfl, rfl⟩

theorem badSensors_eq_zero {supply ret : Int} (h1 : -2000 ≤ supply) (h2 : supply ≤ 15000) (h3 : -2000 ≤ ret) (h4 : ret ≤ 15000) :
    badSensors supply ret = 0 := by
  simp [badSensors, inRange, h1, h2, h3, h4]

/-! ## The rows of the flow condition (R87) -/

theorem flowSample_flowing {n v : Nat} {c : Channel} (hs : c.still = false) (hn : 0 < n) :
    c.flowSample n v = ⟨{ c with idle := 0, held := 0 }, true, v + c.held⟩ := by
  simp [Channel.flowSample, hs, Nat.ne_of_gt hn]

theorem flowSample_pausing {n v : Nat} {c : Channel} (hs : c.still = false) (hn : n = 0) (hi : c.idle < 29) :
    c.flowSample n v = ⟨{ c with idle := c.idle + 1, held := 0 }, true, c.held⟩ := by
  have : ¬ 30 ≤ c.idle + 1 := by omega
  simp only [Channel.flowSample, hs, hn, if_neg this, Bool.false_eq_true, if_false, if_true]

theorem flowSample_stopping {n v : Nat} {c : Channel} (hs : c.still = false) (hn : n = 0) (hi : 29 ≤ c.idle) :
    c.flowSample n v = ⟨{ c with still := true, idle := 30, toRead := some 30, held := 0 }, true, c.held⟩ := by
  have : 30 ≤ c.idle + 1 := by omega
  simp only [Channel.flowSample, hs, hn, if_pos this, Bool.false_eq_true, if_false, if_true]

theorem flowSample_standing {k n v : Nat} {c : Channel} (hs : c.still = true) (hn : n = 0) (hr : c.toRead = some k) (hk : 1 < k) :
    c.flowSample n v = ⟨{ c with toRead := some (k - 1), held := 0 }, false, c.held⟩ := by
  simp [Channel.flowSample, hs, hn, hr, Nat.not_le.mpr hk]

theorem flowSample_reading {k n v : Nat} {c : Channel} (hs : c.still = true) (hn : n = 0) (hr : c.toRead = some k) (hk : k ≤ 1) :
    c.flowSample n v = ⟨{ c with toRead := some 30, held := 0 }, true, c.held⟩ := by
  simp [Channel.flowSample, hs, hn, hr, hk]

theorem flowSample_starting {n v : Nat} {c : Channel} (hs : c.still = true) (hn : 0 < n) :
    c.flowSample n v = ⟨{ c with still := false, idle := 0, toRead := none, held := min (c.held + v) 4294967295 }, false, 0⟩ := by
  simp [Channel.flowSample, hs, Nat.ne_of_gt hn]
  rfl

/-- What the flow condition, the read and the integration make of a CONSUMER's or PLANT's channel, said of the sampled channel. -/
theorem sampled_meter {d : ChannelDef} (hk : d.kind = .consumer ∨ d.kind = .plant) (pool : PoolDef) (supply ret : Int)
    (contact : Contact) (c : Channel) :
    let x := sampled d pool supply ret contact c
    let e := energy d pool c.sincePulses supply ret (counted d c)
    x.still = e.still ∧ x.idle = e.idle ∧ x.toRead = e.toRead ∧ x.held = e.held ∧ x.lastDelta = e.lastDelta ∧
      x.sensorFault = e.sensorFault ∧ x.badRun = e.badRun ∧ x.goodRun = e.goodRun ∧ x.energy = e.energy ∧
      x.reverse = e.reverse ∧ x.forwardRem = e.forwardRem ∧ x.reverseRem = e.reverseRem := by
  have hx : sampled d pool supply ret contact c = level d contact (energy d pool c.sincePulses supply ret (counted d c)) := by
    rw [sampled, if_neg]
    rcases hk with hk | hk <;> simp [hk]
  dsimp only
  rw [hx, level_keeps]
  exact ⟨rfl, rfl, rfl, rfl, rfl, rfl, rfl, rfl, rfl, rfl, rfl, rfl⟩

/-- The fields of the flow condition behind a sample. -/
structure FlowFields (x : Channel) (still : Bool) (idle : Nat) (toRead : Option Nat) (held : Nat) : Prop where
  still : x.still = still
  idle : x.idle = idle
  toRead : x.toRead = toRead
  held : x.held = held

theorem sampled_flow {d : ChannelDef} (hk : d.kind = .consumer ∨ d.kind = .plant) (pool : PoolDef) (supply ret : Int)
    (contact : Contact) (c : Channel) {r : FlowResult}
    (hr : (counted d c).flowSample c.sincePulses (c.sincePulses * d.weight) = r) :
    FlowFields (sampled d pool supply ret contact c) r.channel.still r.channel.idle r.channel.toRead r.channel.held := by
  obtain ⟨hstill, hidle, htoRead, hheld, -⟩ := sampled_meter hk pool supply ret contact c
  obtain ⟨estill, eidle, etoRead, eheld⟩ := energy_flow d pool c.sincePulses supply ret (counted d c)
  subst hr
  exact ⟨hstill.trans estill, hidle.trans eidle, htoRead.trans etoRead, hheld.trans eheld⟩

theorem sampled_no_read {d : ChannelDef} (hk : d.kind = .consumer ∨ d.kind = .plant) (pool : PoolDef) (supply ret : Int)
    (contact : Contact) (c : Channel) (hr : ((counted d c).flowSample c.sincePulses (c.sincePulses * d.weight)).reads = false) :
    (sampled d pool supply ret contact c).lastDelta = c.lastDelta ∧
      (sampled d pool supply ret contact c).sensorFault = c.sensorFault ∧
      (sampled d pool supply ret contact c).badRun = c.badRun ∧ (sampled d pool supply ret contact c).goodRun = c.goodRun := by
  obtain ⟨-, -, -, -, hdelta, hfault, hbad, hgood, -⟩ := sampled_meter hk pool supply ret contact c
  obtain ⟨edelta, efault, ebad, egood⟩ := energy_sensor d pool c.sincePulses supply ret (counted d c)
  obtain ⟨sdelta, sfault, sbad, sgood⟩ := sensed_of_no_read (kind := pool.kind) (supply := supply) (ret := ret) hr
  obtain ⟨cdelta, cfault, cbad, cgood⟩ := counted_sensor d c
  exact ⟨hdelta.trans (edelta.trans (sdelta.trans cdelta)), hfault.trans (efault.trans (sfault.trans cfault)),
    hbad.trans (ebad.trans (sbad.trans cbad)), hgood.trans (egood.trans (sgood.trans cgood))⟩

theorem sampled_no_offer {d : ChannelDef} (hk : d.kind = .consumer ∨ d.kind = .plant) (pool : PoolDef) (supply ret : Int)
    (contact : Contact) (c : Channel) (hr : ((counted d c).flowSample c.sincePulses (c.sincePulses * d.weight)).offered = 0) :
    (sampled d pool supply ret contact c).energy = c.energy ∧ (sampled d pool supply ret contact c).reverse = c.reverse ∧
      (sampled d pool supply ret contact c).forwardRem = c.forwardRem ∧
      (sampled d pool supply ret contact c).reverseRem = c.reverseRem := by
  obtain ⟨-, -, -, -, -, -, -, -, henergy, hreverse, hfrem, hrrem⟩ := sampled_meter hk pool supply ret contact c
  obtain ⟨eenergy, ereverse, efrem, errem⟩ := energy_of_no_offer (pool := pool) (supply := supply) (ret := ret) hr
  obtain ⟨cenergy, creverse, cfrem, crrem⟩ := counted_figures d c
  exact ⟨henergy.trans (eenergy.trans cenergy), hreverse.trans (ereverse.trans creverse), hfrem.trans (efrem.trans cfrem),
    hrrem.trans (errem.trans crrem)⟩

theorem sampled_lastDelta {d : ChannelDef} (hk : d.kind = .consumer ∨ d.kind = .plant) (pool : PoolDef) {supply ret : Int}
    (contact : Contact) (c : Channel) (hr : ((counted d c).flowSample c.sincePulses (c.sincePulses * d.weight)).reads = true)
    (hgood : badSensors supply ret = 0) :
    (sampled d pool supply ret contact c).lastDelta = some (deltaT pool.kind supply ret) := by
  obtain ⟨-, -, -, -, hdelta, -⟩ := sampled_meter hk pool supply ret contact c
  exact hdelta.trans ((energy_sensor d pool c.sincePulses supply ret (counted d c)).1.trans (sensed_lastDelta hr hgood))

/-- The pulse fields behind a sample of any kind. -/
theorem sampled_pulses (d : ChannelDef) (pool : PoolDef) (supply ret : Int) (contact : Contact) (c : Channel) :
    let x := sampled d pool supply ret contact c
    x.sincePulses = 0 ∧ x.pulses = min (c.pulses + c.sincePulses) 4294967295 ∧
      x.volume = min (c.volume + c.sincePulses * d.weight) 4294967295 ∧ x.life = c.life ∧ x.overrun = (counted d c).overrun ∧
      x.counters.overrunSamples = (counted d c).counters.overrunSamples := by
  obtain ⟨hsince, hpulses, hvolume, hlife, hoverrun, -, -, hsamples, -⟩ := untampered_outside d pool supply ret c
  dsimp only
  rw [sampled_eq, level_keeps]
  dsimp only
  rw [hsince, hpulses, hvolume, hlife, hoverrun, hsamples, counted_keeps]
  exact ⟨rfl, rfl, rfl, rfl, rfl, rfl⟩

/-- Settles O15: the stages of a sample, one field after the other; the flow condition by the rows of R87. -/
theorem sampleCountsPulsesAndVolume : Obligations.SampleCountsPulsesAndVolume := by
  intro ch supply ret contact s hl hk c
  have hstage := sampleChannel_stage ch supply ret contact s
  have hx := hstage.here
  rw [State.channelDef] at hx
  obtain ⟨psince, ppulses, pvolume, plife, poverrun, psamples⟩ := sampled_pulses (s.image.channels.get ch)
    (s.image.pools.get (s.image.channels.get ch).pool) supply ret contact c
  refine ⟨_, if_pos (metering_iff.mpr ⟨hl, hk⟩), ?_, ?_, ?_, ?_, ?_, fun hn => ⟨?_, ?_, fun ho => ?_⟩, fun h x hmem hcause => ?_,
    fun hn => ?_, hstage.others, fun hmeter => ?_⟩
  · rw [state_eq_iff]
    simp
  · rw [hx]; exact psince
  · rw [hx]; exact ppulses
  · rw [hx]; exact pvolume
  · rw [hx]; exact plife
  · rw [hx]; exact poverrun.trans (counted_overrun hn).1
  · rw [hx]; exact psamples.trans (counted_overrun hn).2
  · obtain ⟨n, hrecent⟩ := afterCount_overrun hl hn ho
    exact ⟨n, (sampleChannel_recent hrecent supply ret contact).mem⟩
  · rw [← afterCount_quiet h]
    exact overrun_mem_of_mem_sampleChannel hmem hcause
  · rw [hx]
    exact ⟨poverrun.trans (counted_no_overrun hn).1, psamples.trans (counted_no_overrun hn).2⟩
  · obtain ⟨hstill, hidle, htoRead, hheld⟩ := counted_flow (s.image.channels.get ch) c
    dsimp only
    rw [hx]
    dsimp only
    refine ⟨fun hs hn => ?_, fun hs hn hi => ?_, fun hs hn hi => ?_, fun n hs hn hr hlt => ?_,
      fun n hs hn hr hle => ?_, fun hs hn => ?_⟩
    · obtain ⟨fstill, fidle, fread, fheld⟩ :=
        sampled_flow hmeter _ supply ret contact c (flowSample_flowing (hstill.trans hs) hn)
      exact ⟨fstill.trans (hstill.trans hs), fidle, fread.trans htoRead, fheld⟩
    · obtain ⟨fstill, fidle, fread, fheld⟩ := sampled_flow hmeter (s.image.pools.get (s.image.channels.get ch).pool) supply ret
        contact c (flowSample_pausing (hstill.trans hs) hn (by rwa [hidle]))
      exact ⟨fstill.trans (hstill.trans hs), fidle.trans (congrArg (· + 1) hidle), fread.trans htoRead, fheld⟩
    · obtain ⟨fstill, fidle, fread, fheld⟩ := sampled_flow hmeter (s.image.pools.get (s.image.channels.get ch).pool) supply ret
        contact c (flowSample_stopping (hstill.trans hs) hn (by rwa [hidle]))
      exact ⟨fstill, fidle, fread, fheld⟩
    · have hrow := flowSample_standing (v := c.sincePulses * (s.image.channels.get ch).weight) (hstill.trans hs) hn
        (htoRead.trans hr) hlt
      obtain ⟨fstill, fidle, fread, fheld⟩ := sampled_flow hmeter (s.image.pools.get (s.image.channels.get ch).pool) supply ret
        contact c hrow
      exact ⟨fstill.trans (hstill.trans hs), fidle.trans hidle, fread, fheld,
        sampled_no_read hmeter _ supply ret contact c (by rw [hrow])⟩
    · have hrow := flowSample_reading (v := c.sincePulses * (s.image.channels.get ch).weight) (hstill.trans hs) hn
        (htoRead.trans hr) hle
      obtain ⟨fstill, fidle, fread, fheld⟩ := sampled_flow hmeter (s.image.pools.get (s.image.channels.get ch).pool) supply ret
        contact c hrow
      exact ⟨fstill.trans (hstill.trans hs), fidle.trans hidle, fread, fheld, fun h1 h2 h3 h4 =>
        sampled_lastDelta hmeter _ contact c (by rw [hrow]) (badSensors_eq_zero h1 h2 h3 h4)⟩
    · have hrow := flowSample_starting (v := c.sincePulses * (s.image.channels.get ch).weight) (hstill.trans hs) hn
      obtain ⟨fstill, fidle, fread, fheld⟩ := sampled_flow hmeter (s.image.pools.get (s.image.channels.get ch).pool) supply ret
        contact c hrow
      exact ⟨fstill, fidle, fread, fheld.trans (by rw [hheld]),
        sampled_no_read hmeter _ supply ret contact c (by rw [hrow]),
        sampled_no_offer hmeter _ supply ret contact c (by rw [hrow])⟩

end Sys2Proof.Sampling

namespace Sys2Proof.Sampling

open Sys2Proof Sys2Proof.Machine Sys2Proof.Notices

/-! ## Energy over a run of samples -/

/-- Adding energy changes the two forward fields alone while the figure is not clipped. -/
theorem addForward_of_fits {p : Nat} {c : Channel} (h : c.energy + (c.forwardRem + p) / 1000000 ≤ 4294967295) :
    c.addForward p =
      { c with energy := c.energy + (c.forwardRem + p) / 1000000, forwardRem := (c.forwardRem + p) % 1000000 } := by
  simp only [Channel.addForward, Config.energyMax, Nat.min_eq_left h, gt_iff_lt, if_neg (Nat.not_lt.mpr h)]

theorem addReverse_of_fits {p : Nat} {c : Channel} (h : c.reverse + (c.reverseRem + p) / 1000000 ≤ 4294967295) :
    c.addReverse p =
      { c with reverse := c.reverse + (c.reverseRem + p) / 1000000, reverseRem := (c.reverseRem + p) % 1000000 } := by
  simp only [Channel.addReverse, Config.energyMax, Nat.min_eq_left h, gt_iff_lt, if_neg (Nat.not_lt.mpr h)]

/-- Adding one product after another adds the sum: the figure and the remainder together are the exact sum of millionths. -/
theorem addForward_foldl (ps : List Nat) (c : Channel) (hrem : c.forwardRem < 1000000)
    (hfits : c.energy + (c.forwardRem + ps.sum) / 1000000 ≤ 4294967295) :
    ps.foldl (fun x p => x.addForward p) c =
      { c with energy := c.energy + (c.forwardRem + ps.sum) / 1000000, forwardRem := (c.forwardRem + ps.sum) % 1000000 } := by
  induction ps generalizing c with
  | nil =>
    have hq : c.forwardRem / 1000000 = 0 := Nat.div_eq_of_lt hrem
    have hr : c.forwardRem % 1000000 = c.forwardRem := Nat.mod_eq_of_lt hrem
    simp [hq, hr]
  | cons p ps ih =>
    rw [List.sum_cons] at hfits
    have hfirst := addForward_of_fits (p := p) (c := c) (by omega)
    rw [List.foldl_cons, hfirst, ih _ (Nat.mod_lt _ (by omega)) (by dsimp only; omega), List.sum_cons]
    dsimp only
    congr 1 <;> omega

theorem addReverse_foldl (ps : List Nat) (c : Channel) (hrem : c.reverseRem < 1000000)
    (hfits : c.reverse + (c.reverseRem + ps.sum) / 1000000 ≤ 4294967295) :
    ps.foldl (fun x p => x.addReverse p) c =
      { c with reverse := c.reverse + (c.reverseRem + ps.sum) / 1000000, reverseRem := (c.reverseRem + ps.sum) % 1000000 } := by
  induction ps generalizing c with
  | nil =>
    have hq : c.reverseRem / 1000000 = 0 := Nat.div_eq_of_lt hrem
    have hr : c.reverseRem % 1000000 = c.reverseRem := Nat.mod_eq_of_lt hrem
    simp [hq, hr]
  | cons p ps ih =>
    rw [List.sum_cons] at hfits
    have hfirst := addReverse_of_fits (p := p) (c := c) (by omega)
    rw [List.foldl_cons, hfirst, ih _ (Nat.mod_lt _ (by omega)) (by dsimp only; omega), List.sum_cons]
    dsimp only
    congr 1 <;> omega

/-- Settles O18: by induction on the run of products; a clipped figure by the definition of the addition. -/
theorem energyIntegrationLosesNothing : Obligations.EnergyIntegrationLosesNothing := by
  refine ⟨fun ps c hrem hfits => ?_, fun ps c hrem hfits => ?_, fun p c hclip => ?_, fun p c hclip => ?_⟩
  · dsimp only
    rw [addForward_foldl ps c hrem hfits]
    refine ⟨?_, Nat.mod_lt _ (by omega), rfl⟩
    dsimp only
    omega
  · dsimp only
    rw [addReverse_foldl ps c hrem hfits]
    refine ⟨?_, Nat.mod_lt _ (by omega), rfl⟩
    dsimp only
    omega
  · simp only [Channel.addForward, Config.energyMax, Nat.min_eq_right hclip.le, gt_iff_lt, if_pos hclip]
  · simp only [Channel.addReverse, Config.energyMax, Nat.min_eq_right hclip.le, gt_iff_lt, if_pos hclip]

/-! ## Samples that raise nothing before their integration -/

theorem readSample_of_quiet {ch : ChannelId} {supply ret : Int} {s : State}
    (h : badSensors supply ret = 0 ∨ (s.channels.get ch).badRead.2 = false) :
    readSample ch supply ret s = s.onChannel ch (read (s.image.pools.get (s.channelDef ch).pool).kind supply ret) := by
  unfold readSample
  dsimp only
  split
  · next hb => simp [onChannel_eq, read, hb]
  · next hb => simp [onChannel_eq, read, hb, h.resolve_left hb]

/-- An integration that enters no REVERSED: the channel y becomes x and nothing is raised. -/
theorem integrateSample_straight {ch : ChannelId} {cls : SampleClass} {v : Nat} {y x : Channel} {s : State} {pool : PoolDef}
    (hpool : s.image.pools.get (s.image.channels.get ch).pool = pool) (hv : v ≠ 0)
    (h : (y.integrate cls v pool.nominal pool.coeff).direct cls = (x, false)) :
    integrateSample ch cls v (s.onChannel ch (fun _ => y)) = { s with channels := s.channels.set ch x } := by
  subst hpool
  simp [integrateSample, hv, State.channelDef, h, onChannel_eq, table_set_set]

/-- An integration that enters REVERSED raises the notice. -/
theorem integrateSample_turn {ch : ChannelId} {cls : SampleClass} {v : Nat} {y x : Channel} {s : State} {pool : PoolDef}
    (hpool : s.image.pools.get (s.image.channels.get ch).pool = pool) (hv : v ≠ 0)
    (h : (y.integrate cls v pool.nominal pool.coeff).direct cls = (x, true)) :
    integrateSample ch cls v (s.onChannel ch (fun _ => y)) = raiseNotice .reversed ch.val (s.onChannel ch (fun _ => x)) := by
  subst hpool
  simp [integrateSample, hv, State.channelDef, h, onChannel_eq, table_set_set]

/-- A sample without an overrun on a channel whose tamper input is in PULSE mode is its count and its energy part. -/
theorem sampleChannel_of_pulse {ch : ChannelId} {s : State} (hmode : (s.image.channels.get ch).tamper = .pulse)
    (hk : (s.image.channels.get ch).kind = .consumer ∨ (s.image.channels.get ch).kind = .plant)
    (hn : (s.channels.get ch).sincePulses ≤ 40) (supply ret : Int) (contact : Contact) :
    sampleChannel ch supply ret contact s =
      energySample ch (s.channels.get ch).sincePulses supply ret (s.onChannel ch (Channel.countSample (s.channelDef ch))) := by
  have hcount : afterCount ch s = s.onChannel ch (Channel.countSample (s.channelDef ch)) := by
    rw [afterCount, overrunSample, if_pos hn]
  rw [sampleChannel_eq, hcount, if_neg]
  · simp [levelTamper, State.channelDef, hmode]
  · rcases hk with hk | hk <;> simp [State.channelDef, hk]

/-- The channel behind the count of a sample, and what the flow condition gives it. -/
structure CountedAs (d : ChannelDef) (c : Channel) (r : FlowResult) : Prop where
  flow : (c.countSample d).flowSample c.sincePulses (c.sincePulses * d.weight) = r
  reads : r.reads = true

/-- Such a sample is the integration on the state behind its read. -/
theorem exec_sample_of_counted {ch : ChannelId} {supply ret : Int} {contact : Contact} {s : State} {r : FlowResult}
    (hl : s.live = true) (hmode : (s.image.channels.get ch).tamper = .pulse)
    (hk : (s.image.channels.get ch).kind = .consumer ∨ (s.image.channels.get ch).kind = .plant)
    (hn : (s.channels.get ch).sincePulses ≤ 40) (hc : CountedAs (s.image.channels.get ch) (s.channels.get ch) r)
    {f : Channel}
    (hf : f = if (s.channels.get ch).sensorFault then { r.channel with estimated := true } else r.channel) :
    exec (.sample ch supply ret contact) s = .next
      (integrateSample ch
        (classify (s.channels.get ch).sensorFault (badSensors supply ret != 0) (s.image.channels.get ch).deadBand
          ((readSample ch supply ret (s.onChannel ch (fun _ => f))).channels.get ch).lastDelta)
        r.offered (readSample ch supply ret (s.onChannel ch (fun _ => f)))) := by
  have hoff : (s.image.channels.get ch).kind ≠ .off := by rcases hk with hk | hk <;> simp [hk]
  have hexec : exec (.sample ch supply ret contact) s = .next (sampleChannel ch supply ret contact s) :=
    if_pos (metering_iff.mpr ⟨hl, hoff⟩)
  have hflowed : flowed (s.channels.get ch).sincePulses
      ((s.channels.get ch).sincePulses * (s.image.channels.get ch).weight)
      ((s.channels.get ch).countSample (s.image.channels.get ch)) = f := by
    rw [flowed, hc.flow, hf]
    rfl
  have hread : readAfterFlow ch (s.channels.get ch).sincePulses
      ((s.channels.get ch).sincePulses * (s.image.channels.get ch).weight) supply ret
      (s.onChannel ch (Channel.countSample (s.image.channels.get ch))) =
        readSample ch supply ret (s.onChannel ch (fun _ => f)) := by
    simp [readAfterFlow, hc.flow, hc.reads, onChannel_eq, table_set_set, hflowed]
  have hsensor : ((s.channels.get ch).countSample (s.image.channels.get ch)).sensorFault = (s.channels.get ch).sensorFault := rfl
  rw [hexec, sampleChannel_of_pulse hmode hk hn, energySample_eq]
  simp only [State.channelDef, State.onChannel_blocks, Table.get_modify_self, hread, hc.flow, hc.reads, Bool.true_and, hsensor]

/-- Where the read enters no FAULT, the integration works on the channel that the read leaves. -/
theorem exec_sample_of_quiet {ch : ChannelId} {supply ret : Int} {contact : Contact} {s : State} {r : FlowResult}
    (hl : s.live = true) (hmode : (s.image.channels.get ch).tamper = .pulse)
    (hk : (s.image.channels.get ch).kind = .consumer ∨ (s.image.channels.get ch).kind = .plant)
    (hn : (s.channels.get ch).sincePulses ≤ 40) (hc : CountedAs (s.image.channels.get ch) (s.channels.get ch) r)
    {f : Channel}
    (hf : f = if (s.channels.get ch).sensorFault then { r.channel with estimated := true } else r.channel)
    (h : badSensors supply ret = 0 ∨ f.badRead.2 = false) :
    exec (.sample ch supply ret contact) s = .next
      (integrateSample ch
        (classify (s.channels.get ch).sensorFault (badSensors supply ret != 0) (s.image.channels.get ch).deadBand
          (read (s.image.pools.get (s.image.channels.get ch).pool).kind supply ret f).lastDelta)
        r.offered
        (s.onChannel ch (fun _ => read (s.image.pools.get (s.image.channels.get ch).pool).kind supply ret f))) := by
  rw [exec_sample_of_counted hl hmode hk hn hc hf, readSample_of_quiet (by simpa using h)]
  simp [State.channelDef]

/-- In flow, or with held volume to release before the thirtieth sample without pulses, the sample offers all its volume. -/
theorem countedAs_moving {d : ChannelDef} {c : Channel} (hs : c.still = false)
    (hmove : 0 < c.sincePulses ∨ (0 < c.held ∧ c.idle < 29)) :
    CountedAs d c ⟨{ c.countSample d with idle := if 0 < c.sincePulses then 0 else c.idle + 1, held := 0 }, true,
      c.sincePulses * d.weight + c.held⟩ := by
  refine ⟨?_, rfl⟩
  by_cases hn : 0 < c.sincePulses
  · rw [if_pos hn]
    exact flowSample_flowing (c := c.countSample d) hs hn
  · have hzero : c.sincePulses = 0 := by omega
    obtain ⟨-, hi⟩ := hmove.resolve_left hn
    rw [if_neg hn, flowSample_pausing (c := c.countSample d) hs hzero hi, hzero, Nat.zero_mul, Nat.zero_add]
    rfl

theorem classify_forward {deadBand : Nat} {delta : Int} (h : (deadBand : Int) < delta) :
    classify false false deadBand (some delta) = .forward delta.toNat := by
  simp [classify, h]

theorem classify_backward {deadBand : Nat} {delta : Int} (h : delta < -(deadBand : Int)) :
    classify false false deadBand (some delta) = .backward (-delta).toNat := by
  have : ¬ (deadBand : Int) < delta := by omega
  simp [classify, h, this]

theorem classify_deadBand {deadBand : Nat} {delta : Int} (hlow : -(deadBand : Int) ≤ delta) (hhigh : delta ≤ (deadBand : Int)) :
    classify false false deadBand (some delta) = .deadBand := by
  simp [classify, Int.not_lt.mpr hlow, Int.not_lt.mpr hhigh]

/-! ### The rows of the direction condition (R88) behind an integration -/

section
variable {y : Channel} {t v nominal coeff : Nat}

theorem direct_forward_in_forward (hr : y.reversed = false) :
    (y.integrate (.forward t) v nominal coeff).direct (.forward t) =
      ({ y.addForward (v * t * coeff) with reverseRun := 0 }, false) := by
  simp [Channel.integrate, Channel.direct, Channel.addForward, hr]

theorem direct_forward_in_reversed (hr : y.reversed = true) (hrun : y.forwardRun < 29) :
    (y.integrate (.forward t) v nominal coeff).direct (.forward t) =
      ({ y.addReverse (v * t * coeff) with forwardRun := y.forwardRun + 1 }, false) := by
  have : ¬ 30 ≤ y.forwardRun + 1 := by omega
  simp only [Channel.integrate, Channel.direct, Channel.addReverse, hr, if_true, if_neg this]

theorem direct_forward_leaving_reversed (hr : y.reversed = true) (hrun : 29 ≤ y.forwardRun) :
    (y.integrate (.forward t) v nominal coeff).direct (.forward t) =
      ({ y.addReverse (v * t * coeff) with reversed := false, forwardRun := 0, reverseRun := 0 }, false) := by
  have : 30 ≤ y.forwardRun + 1 := by omega
  simp only [Channel.integrate, Channel.direct, Channel.addReverse, hr, if_true, if_pos this]

theorem direct_backward_in_reversed (hr : y.reversed = true) :
    (y.integrate (.backward t) v nominal coeff).direct (.backward t) =
      ({ y.addReverse (v * t * coeff) with forwardRun := 0 }, false) := by
  simp only [Channel.integrate, Channel.direct, Channel.addReverse, hr, if_true]

theorem direct_backward_in_forward (hr : y.reversed = false) (hrun : y.reverseRun < 29) :
    (y.integrate (.backward t) v nominal coeff).direct (.backward t) =
      ({ y.addReverse (v * t * coeff) with reverseRun := y.reverseRun + 1 }, false) := by
  have : ¬ 30 ≤ y.reverseRun + 1 := by omega
  simp only [Channel.integrate, Channel.direct, Channel.addReverse, hr, Bool.false_eq_true, if_false, if_neg this]

theorem direct_backward_entering_reversed (hr : y.reversed = false) (hrun : 29 ≤ y.reverseRun) :
    (y.integrate (.backward t) v nominal coeff).direct (.backward t) =
      ({ y.addReverse (v * t * coeff) with
          reversed := true
          forwardRun := 0
          reverseRun := 0
          counters := { (y.addReverse (v * t * coeff)).counters with
            reverseEntries := bump (y.addReverse (v * t * coeff)).counters.reverseEntries } }, true) := by
  have : 30 ≤ y.reverseRun + 1 := by omega
  simp only [Channel.integrate, Channel.direct, Channel.addReverse, hr, Bool.false_eq_true, if_false, if_pos this]

theorem direct_deadBand : (y.integrate .deadBand v nominal coeff).direct .deadBand =
    ({ y with
        forwardRun := if y.reversed then 0 else y.forwardRun
        reverseRun := if y.reversed then y.reverseRun else 0
        counters := { y.counters with deadBandSamples := bump y.counters.deadBandSamples } }, false) := by
  cases hr : y.reversed <;> simp [Channel.integrate, Channel.direct, hr]

end

/-- Settles O16: the read is good, so the channel behind it is known; then the rows of R83 and R88. -/
theorem forwardSampleAddsExactEnergy : Obligations.ForwardSampleAddsExactEnergy := by
  intro ch supply ret contact s d pool c delta volume sampled clipped total forward against reverse gives hl hk hmode hw hflow hn
    hstill hfault h1 h2 h3 h4
  have hgood : badSensors supply ret = 0 := badSensors_eq_zero h1 h2 h3 h4
  have hdelta : deltaT pool.kind supply ret = delta := rfl
  have hvolume : volume ≠ 0 := by
    rcases hflow with hpos | ⟨hpos, -⟩
    · exact Nat.ne_of_gt (Nat.add_pos_left (Nat.mul_pos hpos hw) _)
    · exact Nat.ne_of_gt (Nat.add_pos_right _ hpos)
  have hsampled : read pool.kind supply ret
      { c.countSample d with idle := if 0 < c.sincePulses then 0 else c.idle + 1, held := 0 } = sampled := by
    rw [read, if_pos hgood, Channel.goodRead, if_neg (by exact (Bool.not_eq_true _).mpr hfault), hdelta]
    rfl
  have hexec : exec (.sample ch supply ret contact) s = .next
      (integrateSample ch (classify false false d.deadBand (some delta)) volume (s.onChannel ch (fun _ => sampled))) := by
    have h := exec_sample_of_quiet (contact := contact) hl hmode hk hn (countedAs_moving hstill hflow)
      (by rw [if_neg (by simpa using hfault)]) (.inl hgood)
    rw [h, hgood, hfault, hsampled]
    rfl
  have hstraight : ∀ {cls x}, classify false false d.deadBand (some delta) = cls →
      (sampled.integrate cls volume pool.nominal pool.coeff).direct cls = (x, false) → gives x := by
    intro cls x hcls hx
    rw [hcls, integrateSample_straight rfl hvolume hx] at hexec
    exact hexec
  refine ⟨fun hr hd => ?_, fun hr hd hrun => ?_, fun hr hd hrun => ?_, fun hr hd => ?_, fun hr hd hrun => ?_,
    fun hr hd hrun hroom => ?_, fun hlow hhigh => ?_⟩
  · exact hstraight (classify_forward hd) (direct_forward_in_forward hr)
  · exact hstraight (classify_forward hd) (direct_forward_in_reversed hr hrun)
  · exact hstraight (classify_forward hd) (direct_forward_leaving_reversed hr hrun)
  · exact hstraight (classify_backward hd) (direct_backward_in_reversed hr)
  · exact hstraight (classify_backward hd) (direct_backward_in_forward hr hrun)
  · rw [hexec, classify_backward hd, integrateSample_turn rfl hvolume (direct_backward_entering_reversed (y := sampled) hr hrun),
      raiseNotice_of_room (s := s.onChannel ch _) (live_configured hl) hroom]
    rfl
  · exact hstraight (classify_deadBand hlow hhigh) direct_deadBand

end Sys2Proof.Sampling

namespace Sys2Proof.Sampling

open Sys2Proof Sys2Proof.Machine Sys2Proof.Notices

theorem badSensors_eq (supply ret : Int) : badSensors supply ret =
    (if -2000 ≤ supply ∧ supply ≤ 15000 then 0 else 1) + (if -2000 ≤ ret ∧ ret ≤ 15000 then 0 else 2) := by
  simp [badSensors, inRange]

/-! ## SUBSTITUTED samples -/

theorem classify_substituted {faulted bad : Bool} (h : faulted = true ∨ bad = true) (deadBand : Nat) (delta : Option Int) :
    classify faulted bad deadBand delta = .substituted := by
  rcases h with rfl | rfl <;> simp [classify]

/-- A SUBSTITUTED integration adds to the forward figure and leaves the direction condition. -/
theorem direct_substituted {y : Channel} {v nominal coeff : Nat}
    (hfits : y.energy + (y.forwardRem + v * nominal * coeff) / 1000000 ≤ 4294967295) :
    (y.integrate .substituted v nominal coeff).direct .substituted =
      ({ y with
          energy := y.energy + (y.forwardRem + v * nominal * coeff) / 1000000
          forwardRem := (y.forwardRem + v * nominal * coeff) % 1000000
          estimated := true }, false) := by
  simp only [Channel.integrate, Channel.direct, addForward_of_fits hfits]

/-- The fields that no SUBSTITUTED sample changes. -/
structure SameDirection (c x : Channel) : Prop where
  reversed : x.reversed = c.reversed
  reverseRun : x.reverseRun = c.reverseRun
  forwardRun : x.forwardRun = c.forwardRun
  reverse : x.reverse = c.reverse
  reverseRem : x.reverseRem = c.reverseRem
  faultEntries : x.counters.faultEntries = c.counters.faultEntries

theorem SameDirection.trans {c x y : Channel} (h : SameDirection c x) (k : SameDirection x y) : SameDirection c y :=
  ⟨k.1.trans h.1, k.2.trans h.2, k.3.trans h.3, k.4.trans h.4, k.5.trans h.5, k.6.trans h.6⟩

theorem counted_sameDirection (d : ChannelDef) (c : Channel) : SameDirection c (counted d c) := by
  rw [counted_keeps]
  exact ⟨rfl, rfl, rfl, rfl, rfl, rfl⟩

theorem level_sameDirection (d : ChannelDef) (contact : Contact) (c : Channel) : SameDirection c (level d contact c) := by
  rw [level_keeps]
  exact ⟨rfl, rfl, rfl, rfl, rfl, rfl⟩

theorem flowed_in_fault {n v : Nat} {c : Channel} (h : c.sensorFault = true) :
    SameDirection c (flowed n v c) ∧ (flowed n v c).estimated = true ∧ (flowed n v c).sensorFault = true := by
  rw [flowed, if_pos h, flowSample_keeps]
  exact ⟨⟨rfl, rfl, rfl, rfl, rfl, rfl⟩, rfl, h⟩

theorem read_in_fault {kind : PoolKind} {supply ret : Int} {c : Channel} (h : c.sensorFault = true) :
    SameDirection c (read kind supply ret c) ∧ (read kind supply ret c).estimated = c.estimated := by
  simp only [read, Channel.goodRead, Channel.badRead, h, if_true]
  (repeat' split) <;> exact ⟨⟨rfl, rfl, rfl, rfl, rfl, rfl⟩, rfl⟩

theorem absorb_substituted (v : Nat) (pool : PoolDef) (c : Channel) :
    SameDirection c (absorb .substituted v pool c) ∧
      (c.estimated = true → (absorb .substituted v pool c).estimated = true) := by
  unfold absorb
  split
  · exact ⟨⟨rfl, rfl, rfl, rfl, rfl, rfl⟩, id⟩
  · simp only [Channel.integrate, Channel.direct, Channel.addForward]
    split <;> exact ⟨⟨rfl, rfl, rfl, rfl, rfl, rfl⟩, fun _ => trivial⟩

/-- In FAULT a sample changes neither the direction condition nor the reverse figure, and is ESTIMATED. -/
theorem energy_in_fault {d : ChannelDef} {pool : PoolDef} {n : Nat} {supply ret : Int} {c : Channel} (h : c.sensorFault = true) :
    SameDirection c (energy d pool n supply ret c) ∧ (energy d pool n supply ret c).estimated = true := by
  obtain ⟨hflow, hflowEst, hflowFault⟩ := flowed_in_fault (n := n) (v := n * d.weight) h
  have hsensed : SameDirection c (sensed pool.kind n (n * d.weight) supply ret c) ∧
      (sensed pool.kind n (n * d.weight) supply ret c).estimated = true := by
    unfold sensed
    split
    · obtain ⟨hread, hreadEst⟩ := read_in_fault (kind := pool.kind) (supply := supply) (ret := ret) hflowFault
      exact ⟨hflow.trans hread, hreadEst.trans hflowEst⟩
    · exact ⟨hflow, hflowEst⟩
  rw [energy, sampleClass, classify_substituted (.inl h)]
  obtain ⟨habsorb, habsorbEst⟩ := absorb_substituted (c.flowSample n (n * d.weight)).offered pool
    (sensed pool.kind n (n * d.weight) supply ret c)
  exact ⟨hsensed.1.trans habsorb, habsorbEst hsensed.2⟩

/-! ### The rows of the sensor condition (R89) -/

theorem badRead_below {c : Channel} (h : c.sensorFault = false) (hrun : c.badRun < 2) :
    c.badRead = ({ c with badRun := c.badRun + 1 }, false) := by
  simp [Channel.badRead, h, Nat.not_le.mpr (show c.badRun + 1 < 3 by omega)]

theorem badRead_entering {c : Channel} (h : c.sensorFault = false) (hrun : 2 ≤ c.badRun) :
    c.badRead = ({ c with
      badRun := 3
      sensorFault := true
      goodRun := 0
      counters := { c.counters with faultEntries := bump c.counters.faultEntries } }, true) := by
  simp [Channel.badRead, h, show 3 ≤ c.badRun + 1 by omega]

theorem badRead_in_fault {c : Channel} (h : c.sensorFault = true) : c.badRead = ({ c with goodRun := 0 }, false) := by
  simp [Channel.badRead, h]

theorem goodRead_in_fault {c : Channel} (h : c.sensorFault = true) (hrun : c.goodRun < 9) (delta : Int) :
    c.goodRead delta = { c with lastDelta := some delta, goodRun := c.goodRun + 1 } := by
  simp [Channel.goodRead, h, Nat.not_le.mpr (show c.goodRun + 1 < 10 by omega)]

theorem goodRead_leaving {c : Channel} (h : c.sensorFault = true) (hrun : 9 ≤ c.goodRun) (delta : Int) :
    c.goodRead delta = { c with lastDelta := some delta, sensorFault := false, goodRun := c.goodRun + 1, badRun := 0 } := by
  simp [Channel.goodRead, h, show 10 ≤ c.goodRun + 1 by omega]

/-- The third bad read in a row raises SENSOR_FAULT and leaves the channel in FAULT. -/
theorem readSample_entering {ch : ChannelId} {supply ret : Int} {s : State} {f : Channel} (hb : badSensors supply ret ≠ 0)
    (hf : f.sensorFault = false) (hrun : 2 ≤ f.badRun) :
    readSample ch supply ret (s.onChannel ch (fun _ => f)) =
      raiseNotice .sensorFault (ch.val * 16 + badSensors supply ret) (s.onChannel ch (fun _ => f.badRead.1)) := by
  simp [readSample, hb, badRead_entering hf hrun]

/-- The channel behind the count and the flow condition of a sample in flow. -/
def inFlow (d : ChannelDef) (c : Channel) : Channel := { c.countSample d with idle := 0, held := 0 }

theorem countedAs_inFlow {d : ChannelDef} {c : Channel} (hs : c.still = false) (hn : 0 < c.sincePulses) :
    CountedAs d c ⟨inFlow d c, true, c.sincePulses * d.weight + c.held⟩ := by
  simpa only [if_pos hn, inFlow] using countedAs_moving hs (.inl hn)

/-- Settles O17: every case is SUBSTITUTED; the read's row of R89 says what the sensor condition becomes. -/
theorem badReadSubstitutesTheNominalDelta : Obligations.BadReadSubstitutesTheNominalDelta := by
  intro ch supply ret contact s d pool c bad delta total sampled gives hl hk
  refine ⟨fun hmode hw hn h40 hstill hfits => ?_, fun hfault => ?_⟩
  · have hbad : badSensors supply ret = bad := badSensors_eq supply ret
    have hvolume : c.sincePulses * d.weight + c.held ≠ 0 := Nat.ne_of_gt (Nat.add_pos_left (Nat.mul_pos hn hw) _)
    have hsubstituted : (c.sensorFault = true ∨ bad ≠ 0) → ∀ delta,
        classify c.sensorFault (badSensors supply ret != 0) d.deadBand delta = .substituted := fun h =>
      classify_substituted (by simpa [hbad] using h) d.deadBand
    have hquiet : ∀ f y : Channel,
        (f = if c.sensorFault then { inFlow d c with estimated := true } else inFlow d c) →
        (bad = 0 ∨ f.badRead.2 = false) → (c.sensorFault = true ∨ bad ≠ 0) →
        read pool.kind supply ret f = y → y.energy = c.energy → y.forwardRem = c.forwardRem →
        gives { y with energy := sampled.energy, forwardRem := sampled.forwardRem, estimated := true } := by
      intro f y hf hread hsub hy henergy hrem
      have h := exec_sample_of_quiet (contact := contact) hl hmode hk h40 (countedAs_inFlow hstill hn) hf (by rwa [hbad])
      rw [hsubstituted hsub, hy, integrateSample_straight rfl hvolume
        (direct_substituted (y := y) (by rw [henergy, hrem]; exact hfits)), henergy, hrem] at h
      exact h
    refine ⟨fun hgood hb hrun => ?_, fun hgood hb hrun hroom => ?_, fun hfault hb => ?_, fun hfault hb hrun => ?_,
      fun hfault hb hrun => ?_⟩
    · have hrow := badRead_below (c := inFlow d c) hgood hrun
      exact hquiet (inFlow d c) { inFlow d c with badRun := c.badRun + 1 } (by rw [hgood]; rfl) (.inr (by rw [hrow])) (.inr hb)
        (by rw [read, if_neg (by rwa [hbad]), hrow]; rfl) rfl rfl
    · have hrow := badRead_entering (c := inFlow d c) hgood hrun
      have h := exec_sample_of_counted (supply := supply) (ret := ret) (contact := contact) hl hmode hk h40
        (countedAs_inFlow hstill hn) (f := inFlow d c) (by rw [hgood]; rfl)
      rw [hsubstituted (.inr hb), readSample_entering (f := inFlow d c) (by rwa [hbad]) hgood hrun,
        raiseNotice_of_room (s := s.onChannel ch _) (live_configured hl) hroom, hbad] at h
      have hwork := integrateSample_straight (s := { s with cond := { s.cond with
          seq := s.nextSeq
          notices := s.cond.notices ++ [⟨s.nextSeq, .sensorFault, ch.val * 16 + bad, s.interval.openNumber, .unsent⟩] } })
        (ch := ch) rfl hvolume (direct_substituted (y := (inFlow d c).badRead.1) (nominal := pool.nominal) (coeff := pool.coeff)
          (by rw [hrow]; exact hfits))
      rw [hrow] at hwork h
      exact h.trans (congrArg _ hwork)
    · have hrow := badRead_in_fault (c := { inFlow d c with estimated := true }) hfault
      exact hquiet { inFlow d c with estimated := true } { inFlow d c with estimated := true, goodRun := 0 } (by rw [if_pos hfault]) (.inr (by rw [hrow])) (.inl hfault)
        (by rw [read, if_neg (by rwa [hbad]), hrow]) rfl rfl
    · exact hquiet { inFlow d c with estimated := true }
        { inFlow d c with estimated := true, lastDelta := some delta, goodRun := c.goodRun + 1 } (by rw [if_pos hfault])
        (.inl hb) (.inl hfault) ((if_pos (hbad.trans hb)).trans (goodRead_in_fault (c := { inFlow d c with estimated := true }) hfault hrun delta)) rfl rfl
    · exact hquiet { inFlow d c with estimated := true }
        { inFlow d c with
          estimated := true, lastDelta := some delta, goodRun := c.goodRun + 1, sensorFault := false, badRun := 0 }
        (by rw [if_pos hfault]) (.inl hb) (.inl hfault) ((if_pos (hbad.trans hb)).trans (goodRead_leaving (c := { inFlow d c with estimated := true }) hfault hrun delta)) rfl rfl
  · have hoff : d.kind ≠ .off := by rcases hk with hk | hk <;> simp [hk]
    have hsupply : ¬ (d.kind == .supply) = true := by rcases hk with hk | hk <;> simp [hk]
    have hx := (sampleChannel_stage ch supply ret contact s).here
    rw [State.channelDef, sampled_eq] at hx
    have hcounted : (counted d c).sensorFault = true := (counted_sensor d c).2.1.trans hfault
    obtain ⟨henergy, hest⟩ := energy_in_fault (d := d) (pool := pool) (n := c.sincePulses) (supply := supply) (ret := ret) hcounted
    have huntampered : untampered d pool supply ret c = energy d pool c.sincePulses supply ret (counted d c) := if_neg hsupply
    rw [huntampered] at hx
    obtain ⟨h1, h2, h3, h4, h5, h6⟩ := ((counted_sameDirection d c).trans henergy).trans (level_sameDirection d contact _)
    refine ⟨_, if_pos (metering_iff.mpr ⟨hl, hoff⟩), ?_⟩
    dsimp only
    rw [hx]
    refine ⟨?_, h1, h2, h3, h4, h5, h6⟩
    rw [level_keeps]
    exact hest

end Sys2Proof.Sampling

namespace Sys2Proof.ShareLine

open Sys2Proof Sys2Proof.Machine Sys2Proof.Notices

/-! ## The line under the queue's operations -/

/-- A held-back start is counted once an assertion, and nothing else changes. -/
theorem noteHeldStart_eq (s : State) : noteHeldStart s = { s with line := s.lineWith s.line.queue } := by
  have hdef : noteHeldStart s = if s.holdsStart s.line.queue then
      { s with line := { s.line with
          warnCounted := true
          counters := { s.line.counters with warnHolds := bump s.line.counters.warnHolds } } } else s := rfl
  by_cases h : s.holdsStart s.line.queue = true <;> simp [hdef, State.lineWith, h]

theorem enqueue_eq (b : FrameBody) (s : State) : enqueue b s = { s with line := s.lineWith (queued b s.line.queue) } := by
  rw [enqueue, noteHeldStart_eq]
  rfl

/-- Without the supply warning no start is held back. -/
theorem lineWith_of_no_warn {s : State} (h : s.control.supplyWarn = false) (q : List TxFrame) :
    s.lineWith q = { s.line with queue := q } := by
  simp [State.lineWith, State.holdsStart, h]

/-! ## The frame on the line -/

theorem sendingFrame_eq_none {s : State} (h : ∀ f ∈ s.line.queue, f.sending = false) : s.sendingFrame = none := by
  simp only [State.sendingFrame, List.find?_eq_none]
  intro f hf
  simp [h f hf]

/-- The queue holds one frame that is on the line, between these others. -/
structure OnLine (s : State) (before : List TxFrame) (f : TxFrame) (after : List TxFrame) : Prop where
  queue : s.line.queue = before ++ f :: after
  others : ∀ g ∈ before ++ after, g.sending = false
  sending : f.sending = true

section
variable {s : State} {before after : List TxFrame} {f : TxFrame}

theorem OnLine.sendingFrame (h : OnLine s before f after) : s.sendingFrame = some f := by
  have hbefore : before.find? (·.sending) = none := by
    simp only [List.find?_eq_none]
    intro g hg
    simp [h.others g (List.mem_append_left _ hg)]
  rw [State.sendingFrame, h.queue, List.find?_append, hbefore]
  simp [h.sending]

theorem OnLine.drop (h : OnLine s before f after) : s.line.queue.filter (fun g => !g.sending) = before ++ after := by
  have hkeep : ∀ l : List TxFrame, (∀ g ∈ l, g ∈ before ++ after) → l.filter (fun g => !g.sending) = l := by
    intro l hl
    rw [List.filter_eq_self]
    intro g hg
    simp [h.others g (hl g hg)]
  rw [h.queue, List.filter_append, List.filter_cons_of_neg (by simp [h.sending]), hkeep before (fun g hg => by simp [hg]),
    hkeep after (fun g hg => by simp [hg])]

theorem OnLine.release (h : OnLine s before f after) (more : Nat) :
    releaseSending more s.line.queue = before ++ { f with sending := false, attempts := f.attempts + more } :: after := by
  have hkeep : ∀ l : List TxFrame, (∀ g ∈ l, g ∈ before ++ after) → releaseSending more l = l := by
    intro l hl
    rw [releaseSending]
    refine (List.map_congr_left fun g hg => ?_).trans (List.map_id l)
    simp [h.others g (hl g hg)]
  have hf : releaseSending more (before ++ f :: after) =
      releaseSending more before ++ { f with sending := false, attempts := f.attempts + more } :: releaseSending more after := by
    simp [releaseSending, h.sending]
  rw [h.queue, hf, hkeep before (fun g hg => by simp [hg]), hkeep after (fun g hg => by simp [hg])]

theorem exec_collisionError (hl : s.live = true) (h : OnLine s before f after) : exec .collisionError s = .next (collide f s) := by
  show execCollisionError s = _
  simp only [execCollisionError, hl, h.sendingFrame]

theorem exec_frameEnded (hl : s.live = true) (h : OnLine s before f after) : exec .frameEnded s = .next (endFrame f s) := by
  show execFrameEnded s = _
  simp only [execFrameEnded, hl, h.sendingFrame]

end

/-! ## The monitor -/

theorem exec_lineStuck {s : State} (hl : s.live = true) (hm : s.line.monitor ≠ .stuck) (hq : ∀ f ∈ s.line.queue, f.sending = false) :
    exec .lineStuck s = .next (enterStuck s) := by
  show execLineStuck s = _
  rw [execLineStuck, if_pos (by simp [hl, hm, sendingFrame_eq_none hq])]

/-- The line that has gone dominant for 65 bit times. -/
def stuckLine (s : State) : Line :=
  { s.line with
    monitor := .stuck, recessive := 0, dominant := 65
    counters := { s.line.counters with stuckEpisodes := bump s.line.counters.stuckEpisodes } }

theorem enterStuck_marked {s : State} (h : s.line.stuckMark = true) : enterStuck s = { s with line := stuckLine s } := by
  rw [enterStuck, if_pos (by exact h)]
  rfl

theorem enterStuck_unmarked {s : State} (h : s.line.stuckMark = false) :
    enterStuck s = raiseFault .lineStuck (bump s.line.counters.stuckEpisodes)
      { s with line := { stuckLine s with stuckMark := true } } := by
  rw [enterStuck, if_neg (by exact (Bool.not_eq_true _).mpr h)]
  rfl

/-- Outside UNCONFIGURED a fault is counted and placed. -/
theorem raiseFault_of_configured {s : State} (h : s.interval.membership ≠ .unconfigured) (c : Cause) (p : Nat) :
    raiseFault c p s = placeFault c p (onCondCounters (fun k => { k with faultsRaised := bump k.faultsRaised }) s) := by
  rw [raiseFault, if_neg (by simp [h])]

/-- The first fault opens the fault record. -/
theorem placeFault_first {s : State} (h : s.cond.record = none) (c : Cause) (p : Nat) :
    placeFault c p s = { s with
      cond := { s.cond with seq := s.nextSeq, record := some ⟨⟨s.nextSeq, c, p, s.interval.openNumber, .unsent⟩, none, none⟩ } } := by
  simp only [placeFault, h]
  rfl

/-- Settles O20: the monitor's operations, and the first fault of a stuck line. -/
theorem lineMonitorFollowsTheLine : Obligations.LineMonitorFollowsTheLine := by
  refine ⟨fun s hl => ⟨fun hm hw => ?_, fun hm hw hc hq => ?_, fun hm => ?_⟩, fun s hl hm hq => ⟨fun hmark => ?_, fun hmark hr => ?_⟩⟩
  · show execLineIdle s = _
    rw [execLineIdle, if_pos (by simpa [hl] using hm), noteHeldStart_eq,
      lineWith_of_no_warn (s := setMonitor .idle 11 0 s) hw]
    rfl
  · show execLineIdle s = _
    have hheld : (setMonitor .idle 11 0 s).holdsStart s.line.queue = true := by
      simp [State.holdsStart, setMonitor, State.onLine, hw, hc, hq]
      exact hl
    rw [execLineIdle, if_pos (by simpa [hl] using hm), noteHeldStart_eq, State.lineWith]
    simp [setMonitor, State.onLine] at hheld ⊢
    simp [hheld]
  · show execStartBit s = _
    rw [execStartBit, if_pos (by simp [hl, hm])]
    rfl
  · rw [exec_lineStuck hl hm hq, enterStuck_marked hmark]
    rfl
  · have hstuck : enterStuck s = { s with
        line := { stuckLine s with stuckMark := true }
        cond := { s.cond with
          seq := s.nextSeq
          record := some ⟨⟨s.nextSeq, .lineStuck, bump s.line.counters.stuckEpisodes, s.interval.openNumber, .unsent⟩, none, none⟩
          counters := { s.cond.counters with faultsRaised := bump s.cond.counters.faultsRaised } } } := by
      rw [enterStuck_unmarked hmark, raiseFault_of_configured (by exact live_configured hl), placeFault_first (by exact hr)]
      rfl
    refine ⟨_, exec_lineStuck hl hm hq, hstuck, ?_⟩
    rw [hstuck]
    simpa [State.faultOutput, State.powered] using live_powered hl

end Sys2Proof.ShareLine

namespace Sys2Proof.ShareLine

open Sys2Proof Sys2Proof.Machine Sys2Proof.Notices

/-! ## Entry to OBSERVER (R189) -/

theorem isClose_eq_kind (b : FrameBody) : b.isClose = (b.kind == 1) := by
  cases b <;> rfl

/-- What is neither of the PEER class nor a CLOSE is a CONDITION or a REPLY. -/
theorem not_peer_not_close (b : FrameBody) : (!b.isPeer && !b.isClose) = (b.kind == 2 || b.kind == 7) := by
  cases b <;> rfl

theorem not_peer_of_no_close {b : FrameBody} (h : b.isClose = false) : (!b.isPeer) = (b.kind == 2 || b.kind == 7) := by
  simpa [h] using not_peer_not_close b

/-- A withdrawal that finds no frame on the line cuts none off. -/
theorem withdraw_monitor {s : State} (hq : ∀ f ∈ s.line.queue, f.sending = false) (p : FrameBody → Bool) :
    (withdraw p s).line.monitor = s.line.monitor := by
  have hcut : (s.line.queue.filter (fun f => p f.body)).filter (·.sending) = [] := by
    rw [List.filter_eq_nil_iff]
    intro f hf
    simp [hq f (List.mem_of_mem_filter hf)]
  simp [withdraw, hcut]

theorem withdrawOwnClose_line (s : State) :
    (withdrawOwnClose s).line.queue = s.line.queue.filter (fun f => !f.body.isClose) ∧
      ((∀ f ∈ s.line.queue, f.sending = false) → (withdrawOwnClose s).line.monitor = s.line.monitor) := by
  unfold withdrawOwnClose
  split
  · exact ⟨by simp [loadTimer], fun hq => by simpa [loadTimer] using withdraw_monitor hq FrameBody.isClose⟩
  · next hnone =>
    refine ⟨?_, fun _ => rfl⟩
    rw [eq_comm, List.filter_eq_self]
    intro f hf
    rw [State.ownCloseQueued, List.any_eq_true] at hnone
    simpa using fun h => hnone ⟨f, hf, h⟩

theorem withdrawOwnClose_interval (s : State) :
    (withdrawOwnClose s).interval.membership = s.interval.membership ∧
      (withdrawOwnClose s).interval.openNumber = s.interval.openNumber ∧
      (withdrawOwnClose s).interval.held = s.interval.held ∧
      (withdrawOwnClose s).interval.timer =
        (if s.line.queue.any (fun f => f.body.kind == 1) then .running s.image.lengthMs else s.interval.timer) := by
  have hq : s.ownCloseQueued = s.line.queue.any (fun f => f.body.kind == 1) := by
    simp [State.ownCloseQueued, isClose_eq_kind]
  unfold withdrawOwnClose
  rw [← hq]
  split
  · simp [loadTimer]
  · simp

/-- A sending state that a frame or an offer still stands for becomes WITHDRAWN. -/
theorem withdrawn_eq (p : PoolPart) : p.withdrawn = { p with
    sending := if p.sending = some .waiting ∨ p.sending = some .offered ∨ p.sending = some .queued then some .withdrawn else p.sending
    resendQueued := false } := by
  unfold PoolPart.withdrawn
  cases hs : p.sending with
  | none => simp
  | some x => cases x <;> simp

/-- The blocks behind an entry to OBSERVER that finds no frame on the line. -/
theorem enterObserver_line {s : State} (hq : ∀ f ∈ s.line.queue, f.sending = false) :
    (enterObserver s).line.queue = s.line.queue.filter (fun f => f.body.kind == 2 || f.body.kind == 7) ∧
      (enterObserver s).line.offers = [] ∧ (enterObserver s).line.monitor = s.line.monitor := by
  obtain ⟨hqueue, hmonitor⟩ := withdrawOwnClose_line (onCondCounters (fun c => { c with observerEntries := bump c.observerEntries })
    (s.onInterval (fun u => { u with membership := .observer })))
  have hkept : ∀ f ∈ (withdrawOwnClose (onCondCounters (fun c => { c with observerEntries := bump c.observerEntries })
      (s.onInterval (fun u => { u with membership := .observer })))).line.queue, f.sending = false := by
    intro f hf
    rw [hqueue] at hf
    exact hq f (by simpa using List.mem_of_mem_filter hf)
  refine ⟨?_, by simp [enterObserver], ?_⟩
  · simp only [enterObserver, State.onRoster_blocks, State.onRing_blocks, State.onLine_blocks, Effects.withdraw_queue, hqueue,
      onCondCounters_keeps, State.onInterval_blocks, List.filter_filter, not_peer_not_close]
  · have h := (withdraw_monitor hkept FrameBody.isPeer).trans (hmonitor (by simpa using hq))
    simpa [enterObserver] using h

theorem enterObserver_interval (s : State) :
    (enterObserver s).interval.membership = .observer ∧ (enterObserver s).interval.openNumber = s.interval.openNumber ∧
      (enterObserver s).interval.held = s.interval.held ∧
      (enterObserver s).interval.timer =
        (if s.line.queue.any (fun f => f.body.kind == 1) then .running s.image.lengthMs else s.interval.timer) := by
  have h := withdrawOwnClose_interval (onCondCounters (fun c => { c with observerEntries := bump c.observerEntries })
    (s.onInterval (fun u => { u with membership := .observer })))
  simpa [enterObserver] using h

theorem enterObserver_cond (s : State) :
    (enterObserver s).cond =
      { s.cond with counters := { s.cond.counters with observerEntries := bump s.cond.counters.observerEntries } } := by
  simp [enterObserver, onCondCounters]

theorem enterObserver_ring (s : State) :
    (enterObserver s).ring =
      { s.ring with records := s.ring.records.map (fun x => { x with pools := x.pools.map PoolPart.withdrawn }) } := by
  simp [enterObserver]

theorem enterObserver_roster (s : State) : (enterObserver s).roster = { s.roster with announce := .none } := by
  simp [enterObserver]

/-- Settles O21: the stuck line raises a second fault, which takes the node of MEMBER to OBSERVER. -/
theorem secondFaultInMemberEntersObserver : Obligations.SecondFaultInMemberEntersObserver := by
  intro r s hl hmember hm hq hmark hr hcompound
  let fault : Condition := ⟨s.nextSeq, .lineStuck, bump s.line.counters.stuckEpisodes, s.interval.openNumber, .unsent⟩
  let u : State := { s with
    line := { stuckLine s with stuckMark := true }
    cond := { s.cond with
      seq := s.nextSeq
      record := some { r with compound := some fault }
      counters := { s.cond.counters with faultsRaised := bump s.cond.counters.faultsRaised } } }
  have hstuck : enterStuck s = enterObserver u := by
    rw [enterStuck_unmarked hmark, raiseFault_of_configured (by exact live_configured hl), placeFault]
    simp only [onCondCounters, State.onCond_blocks, hr, hcompound, hmember, Option.isNone_none, beq_self_eq_true, Bool.and_self,
      if_true]
    rfl
  obtain ⟨hqueue, hoffers, hmonitor⟩ := enterObserver_line (s := u) hq
  obtain ⟨hmembership, hopen, hheld, htimer⟩ := enterObserver_interval u
  have hcond := enterObserver_cond u
  refine ⟨enterObserver u, (exec_lineStuck hl hm hq).trans (congrArg _ hstuck), ?_, congrArg CondUnit.record hcond,
    (congrArg CondUnit.notices hcond :), (congrArg CondUnit.counters hcond :), hmembership, hopen, hheld, htimer, hqueue, hoffers, hmonitor,
    enterObserver_roster u, ?_⟩
  · rw [state_eq_iff]
    simp [u]
  · rw [enterObserver_ring, show PoolPart.withdrawn = _ from funext withdrawn_eq]

end Sys2Proof.ShareLine

namespace Sys2Proof.ShareLine

open Sys2Proof Sys2Proof.Machine Sys2Proof.Notices

/-! ## The transmitter -/

/-- Settles O22: the start's conditions are R142's. -/
theorem frameStartSendsTheHead : Obligations.FrameStartSendsTheHead := by
  intro f rest s hl hq
  refine ⟨fun hw hm hnone => ?_, fun hw => ?_⟩
  · show execFrameStart s = _
    rw [execFrameStart, if_pos (by simp [State.mayStart, hl, hm, hq, hw, sendingFrame_eq_none hnone])]
    simp [startFrame, setMonitor, State.onLine, hq]
  · show execFrameStart s = _
    rw [execFrameStart, if_neg (by simp [State.mayStart, hw])]

/-- Settles O23: the one frame on the line is QUEUED again. -/
theorem contentionAndCollisionKeepTheFrame : Obligations.ContentionAndCollisionKeepTheFrame := by
  intro f before after s hl hq hothers hf
  have h : OnLine s before f after := ⟨hq, hothers, hf⟩
  refine ⟨?_, fun hattempts => ?_⟩
  · show execContentionLost s = _
    rw [execContentionLost, if_pos (by simp [hl, h.sendingFrame])]
    simp [loseContention, onLinkCounters, State.onLine, h.release]
  · rw [exec_collisionError hl h, collide, if_neg (by omega)]
    simp [onLinkCounters, setMonitor, State.onLine, h.release]

/-! ## What the producers are told -/

theorem updateRecord_eq (k : Nat) (f : Record → Record) (s : State) :
    updateRecord k f s =
      { s with ring := { s.ring with records := s.ring.records.map (fun x => if x.number = k then f x else x) } } := by
  simp [updateRecord, State.onRing]

/-- The condition with this number gets a sending state, wherever it is held. -/
def marked (q : Nat) (x : CondSending) (c : Condition) : Condition := if c.seq = q then { c with sending := x } else c

theorem setCondSending_eq (q : Nat) (x : CondSending) (s : State) :
    setCondSending q x s = { s with
      cond := { s.cond with
        notices := s.cond.notices.map (marked q x)
        record := s.cond.record.map (fun r => { r with fault := marked q x r.fault, compound := r.compound.map (marked q x) }) } } := by
  have hmark : (fun c : Condition => if c.seq == q then { c with sending := x } else c) = marked q x := by
    funext c
    simp [marked]
  unfold setCondSending
  rw [hmark]
  rfl

/-- A SUMMARY that has left the queue: a re-send clears its mark, a first sending gets its state. -/
theorem tellSummary_eq (b : SummaryBody) (x : Sending) (s : State) :
    (if b.resend then clearResend b s else setSending b.interval b.pool x s) = { s with
      ring := { s.ring with records := s.ring.records.map (fun y =>
        if y.number = b.interval then
          { y with
            pools := y.pools.set b.pool
              (if b.resend then { y.pools.get b.pool with resendQueued := false }
              else { y.pools.get b.pool with sending := some x }) }
        else y) } } := by
  cases hb : b.resend <;> simp [clearResend, setSending, updateRecord_eq, Record.onPool, Four.modify]

/-- The request in flight when one of its frames has left the queue. -/
theorem afterFrame_eq (v : Serving) : Serving.afterFrame { v with inQueue := v.inQueue - 1 } =
    if v.inQueue ≤ 1 ∧ (v.cutShort = true ∨ v.frames.length ≤ v.next) then none
    else some { v with inQueue := v.inQueue - 1, waitsForRoom := false } := by
  have hzero : v.inQueue - 1 = 0 ↔ v.inQueue ≤ 1 := by omega
  simp [Serving.afterFrame, hzero]

theorem afterFrame_cut (v : Serving) : Serving.afterFrame { v with inQueue := v.inQueue - 1, cutShort := true } =
    if v.inQueue ≤ 1 then none else some { v with inQueue := v.inQueue - 1, cutShort := true, waitsForRoom := false } := by
  have hzero : v.inQueue - 1 = 0 ↔ v.inQueue ≤ 1 := by omega
  simp [Serving.afterFrame, hzero]

/-- The end of the frame on the line tells its producer on the line without it. -/
theorem endFrame_eq {s : State} {before after : List TxFrame} {f : TxFrame} (h : OnLine s before f after) :
    endFrame f s = tellEnded f.body { s with
      line := { s.line with
        queue := before ++ after
        monitor := .gap
        recessive := 0
        dominant := 0
        counters := { s.line.counters with
          txFrames := bump s.line.counters.txFrames, rxFrames := bump s.line.counters.rxFrames } } } := by
  simp only [endFrame, onLinkCounters, dropSending, setMonitor, State.onLine, h.drop]

/-- Settles O25: the frame leaves the line, and its producer is told by its kind. -/
theorem frameEndTellsTheProducer : Obligations.FrameEndTellsTheProducer := by
  intro f before after s hl hq hothers hf
  have h : OnLine s before f after := ⟨hq, hothers, hf⟩
  have hexec := (exec_frameEnded hl h).trans (congrArg _ (endFrame_eq h))
  refine ⟨fun k band hb => ?_, fun p hb => ?_, fun b hb => ?_, fun role m mask d k u hb => ?_, fun k p missing hb => ?_,
    fun p v hb hv => ?_⟩
  · rw [hexec, hb]
    rfl
  · rw [hexec, hb, tellEnded, setCondSending_eq]
    rfl
  · rw [hexec, hb, tellEnded, tellSummary_eq]
  · rw [hexec, hb]
    rfl
  · rw [hexec, hb]
    rfl
  · rw [hexec, hb, tellEnded, replyEnded]
    simp only [State.onResp, hv, Option.bind_some, afterFrame_eq]

end Sys2Proof.ShareLine

namespace Sys2Proof.ShareLine

open Sys2Proof Sys2Proof.Machine Sys2Proof.Notices

/-! ## The abandoned frame (R144, R145) -/

theorem raiseNotice_channels_of_room {s : State} (h : s.cond.notices.length < 8) (c : Cause) (p : Nat) :
    (raiseNotice c p s).channels = s.channels := by
  unfold raiseNotice raiseNoticeAt
  split
  · rfl
  · simp [displaceNotice_of_room h]

/-- What a producer is told leaves the open interval and the membership state, and, but for a CONDITION, the condition unit. -/
theorem tellAbandoned_outside (b : FrameBody) (s : State) :
    (tellAbandoned b s).interval.membership = s.interval.membership ∧
      (tellAbandoned b s).interval.openNumber = s.interval.openNumber ∧
      (b.isCondition = false → (tellAbandoned b s).cond = s.cond) := by
  unfold tellAbandoned
  split
  case h_2 => exact ⟨by simp, by simp, fun h => by simp [FrameBody.isCondition] at h⟩
  case h_3 => split <;> simp
  all_goals simp [loadTimer]

/-- The state with the frame cut off and gone, before its producer is told. -/
def abandonedFrom (before after : List TxFrame) (s : State) : State :=
  { s with
    line := { s.line with
      queue := before ++ after
      monitor := .gap
      recessive := 0
      dominant := 0
      counters := { s.line.counters with
        txCollisions := bump s.line.counters.txCollisions
        txAbandoned := bump s.line.counters.txAbandoned
        rxBadForm := bump s.line.counters.rxBadForm } } }

section
variable {s : State} {before after : List TxFrame} {f : TxFrame}

theorem collide_eq (h : OnLine s before f after) (hattempts : 3 ≤ f.attempts) :
    collide f s =
      if f.body.isCondition then tellAbandoned f.body (abandonedFrom before after s)
      else raiseNotice .txAbandon f.body.abandonParam (tellAbandoned f.body (abandonedFrom before after s)) := by
  have hdrop : dropSending (onLinkCounters (fun c => { c with txCollisions := bump c.txCollisions, rxBadForm := bump c.rxBadForm })
      (setMonitor .gap 0 0 s)) = { s with line := { s.line with
        queue := before ++ after
        monitor := .gap
        recessive := 0
        dominant := 0
        counters := { s.line.counters with
          txCollisions := bump s.line.counters.txCollisions, rxBadForm := bump s.line.counters.rxBadForm } } } := by
    simp only [onLinkCounters, dropSending, setMonitor, State.onLine, h.drop]
  rw [collide, if_pos (by omega), abandonFrame, hdrop]
  rfl

/-- The blocks behind an abandoned frame but for the condition unit: those that the producer's unit left. -/
theorem collide_told (h : OnLine s before f after) (hattempts : 3 ≤ f.attempts) :
    (collide f s).line = (abandonedFrom before after s).line ∧
      (collide f s).interval = (tellAbandoned f.body (abandonedFrom before after s)).interval ∧
      (collide f s).ring = (tellAbandoned f.body (abandonedFrom before after s)).ring ∧
      (collide f s).roster = (tellAbandoned f.body (abandonedFrom before after s)).roster ∧
      (collide f s).resp = (tellAbandoned f.body (abandonedFrom before after s)).resp := by
  rw [collide_eq h hattempts]
  split <;> simp

/-- TX_ABANDON joins the notices of a frame that is no CONDITION. -/
theorem collide_notices (hl : s.live = true) (h : OnLine s before f after) (hattempts : 3 ≤ f.attempts)
    (hb : f.body.isCondition = false) :
    ∃ n, (collide f s).cond.notices =
      keptNotices s ++ [⟨n, .txAbandon, f.body.abandonParam, s.interval.openNumber, .unsent⟩] := by
  obtain ⟨hmembership, hopen, hcond⟩ := tellAbandoned_outside f.body (abandonedFrom before after s)
  obtain ⟨n, hn⟩ := raiseNotice_notices (s := tellAbandoned f.body (abandonedFrom before after s))
    (by rw [hmembership]; exact live_configured hl) .txAbandon f.body.abandonParam
  refine ⟨n, ?_⟩
  rw [collide_eq h hattempts, hb, if_neg Bool.false_ne_true, hn, keptNotices, hcond hb, hopen]
  rfl

theorem collide_channels (h : OnLine s before f after) (hattempts : 3 ≤ f.attempts) :
    (s.cond.notices.length < 8 → (collide f s).channels = s.channels) ∧
      ∀ ch, SameButLatch (s.channels.get ch) ((collide f s).channels.get ch) := by
  obtain ⟨-, -, hcond⟩ := tellAbandoned_outside f.body (abandonedFrom before after s)
  rw [collide_eq h hattempts]
  split
  · exact ⟨fun _ => by simp [abandonedFrom], fun ch => .of_eq (l := (s.channels.get ch).latch) (by simp [abandonedFrom])⟩
  · next hb =>
    have htold : (tellAbandoned f.body (abandonedFrom before after s)).channels = s.channels := by simp [abandonedFrom]
    refine ⟨fun hroom => ?_, fun ch => ?_⟩
    · rw [raiseNotice_channels_of_room (by rw [hcond (by simpa using hb)]; exact hroom), htold]
    · have hraised := raiseNotice_channels .txAbandon f.body.abandonParam (tellAbandoned f.body (abandonedFrom before after s)) ch
      rwa [htold] at hraised

end

/-- The parameter of an abandoned ANNOUNCE, whether or not the frame concerns its interval (log entry 15). -/
theorem abandonParam_announce (role : Role) (m : Option Membership) (mask : PoolMask) (d : Digest) (n : Nat)
    (u : Option UnitFigures) :
    (FrameBody.announce role m mask d n u).abandonParam = 5 * 256 ∨
      (FrameBody.announce role m mask d n u).abandonParam = 5 * 256 + n % 256 := by
  cases hc : Config.statusFrameConcernsInterval with
  | true => exact .inr (by simp only [FrameBody.abandonParam, FrameBody.concerns, FrameBody.kind, hc, if_true])
  | false =>
    exact .inl (by simp only [FrameBody.abandonParam, FrameBody.concerns, FrameBody.kind, hc, Bool.false_eq_true, if_false, Nat.add_zero])

theorem abandonParam_reply (p : List Byte) : (FrameBody.reply p).abandonParam = 7 * 256 := by
  simp only [FrameBody.abandonParam, FrameBody.concerns, FrameBody.kind, Nat.add_zero]

/-- Settles O24: the frame leaves the line, its producer is told by its kind, and TX_ABANDON joins the notices. -/
theorem fourthCollisionAbandonsTheFrame : Obligations.FourthCollisionAbandonsTheFrame := by
  intro f before after s hl hq hothers hf hattempts kept
  have h : OnLine s before f after := ⟨hq, hothers, hf⟩
  obtain ⟨hline, hinterval, hring, hroster, hresp⟩ := collide_told h hattempts
  obtain ⟨hroom, hlatch⟩ := collide_channels h hattempts
  refine ⟨_, exec_collisionError hl h, hline, ?_, hroom, hlatch, fun k band hb => ?_, fun p hb => ?_, fun b hb => ?_,
    fun role m mask d n u hb => ?_, fun k p missing hb => ?_, fun p v hb hv => ?_⟩
  · rw [state_eq_iff]
    simp
  · obtain ⟨n, hn⟩ := collide_notices hl h hattempts (by simp [hb, FrameBody.isCondition])
    rw [hinterval, hring, hroster, hresp]
    rw [hb] at hn ⊢
    exact ⟨rfl, rfl, rfl, rfl, n, hn⟩
  · have hcollide : collide f s = tellAbandoned f.body (abandonedFrom before after s) := by
      rw [collide_eq h hattempts, if_pos (by simp [hb, FrameBody.isCondition])]
    rw [hcollide, hb, tellAbandoned, setCondSending_eq]
    exact ⟨rfl, rfl, rfl, rfl, rfl, rfl⟩
  · obtain ⟨n, hn⟩ := collide_notices hl h hattempts (by simp [hb, FrameBody.isCondition])
    rw [hinterval, hring, hroster, hresp]
    rw [hb] at hn ⊢
    rw [tellAbandoned, tellSummary_eq]
    exact ⟨rfl, rfl, rfl, rfl, n, hn⟩
  · obtain ⟨q, hn⟩ := collide_notices hl h hattempts (by simp [hb, FrameBody.isCondition])
    rw [hinterval, hring, hroster, hresp]
    rw [hb] at hn ⊢
    exact ⟨rfl, rfl, rfl, rfl, q, _, abandonParam_announce role m mask d n u, hn⟩
  · obtain ⟨n, hn⟩ := collide_notices hl h hattempts (by simp [hb, FrameBody.isCondition])
    rw [hinterval, hring, hroster, hresp]
    rw [hb] at hn ⊢
    exact ⟨rfl, rfl, rfl, rfl, n, hn⟩
  · obtain ⟨n, hn⟩ := collide_notices hl h hattempts (by simp [hb, FrameBody.isCondition])
    rw [hinterval, hring, hroster, hresp]
    rw [hb] at hn ⊢
    rw [abandonParam_reply] at hn
    refine ⟨rfl, rfl, rfl, ?_, ?_, n, hn⟩
    · have hserving : (abandonedFrom before after s).resp.serving = some v := hv
      simp only [tellAbandoned, replyAbandoned, State.onResp_blocks, hserving, Option.bind_some, afterFrame_cut]
    · have hserving : (abandonedFrom before after s).resp.serving = some v := hv
      simp only [tellAbandoned, replyAbandoned, State.onResp_blocks, hserving]
      split <;> rfl

end Sys2Proof.ShareLine

namespace Sys2Proof.ShareLine

open Sys2Proof Sys2Proof.Machine Sys2Proof.Notices

/-! ## Offers -/

/-- In a queue ordered by kind a frame stands behind its own kind and before the next. -/
theorem insertFrame_split (f : TxFrame) (q : List TxFrame) (hq : (q.map (fun g => g.body.kind)).Pairwise (· ≤ ·)) :
    ∃ before behind, q = before ++ behind ∧ insertFrame f q = before ++ f :: behind ∧
      (∀ g ∈ before, g.body.kind ≤ f.body.kind) ∧ ∀ g ∈ behind, f.body.kind < g.body.kind := by
  induction q with
  | nil => exact ⟨[], [], rfl, rfl, by simp, by simp⟩
  | cons g q ih =>
    rw [List.map_cons, List.pairwise_cons] at hq
    obtain ⟨hg, hrest⟩ := hq
    by_cases hlt : f.body.kind < g.body.kind
    · refine ⟨[], g :: q, rfl, by simp [insertFrame, hlt], by simp, fun x hx => ?_⟩
      obtain rfl | hx := List.mem_cons.mp hx
      · exact hlt
      · exact hlt.trans_le (hg _ (List.mem_map_of_mem hx))
    · obtain ⟨before, behind, hsplit, hins, hbefore, hbehind⟩ := ih hrest
      refine ⟨g :: before, behind, by rw [hsplit]; rfl, by simp [insertFrame, hlt, hins], fun x hx => ?_, hbehind⟩
      obtain rfl | hx := List.mem_cons.mp hx
      · exact Nat.not_lt.mp hlt
      · exact hbefore x hx

/-- Settles O26: the frame splits the queue between the kinds up to its own and the kinds above. -/
theorem frameEntersByKindThenAge : Obligations.FrameEntersByKindThenAge := by
  intro b q hq
  obtain ⟨before, behind, hsplit, hins, hbefore, hbehind⟩ := insertFrame_split ⟨b, 0, false⟩ q hq
  refine ⟨?_, before, behind, hsplit, hins, hbefore, hbehind⟩
  have hparts := hq
  rw [hsplit, List.map_append, List.pairwise_append] at hparts
  obtain ⟨hleft, hright, -⟩ := hparts
  rw [queued, hins, List.map_append, List.map_cons, List.pairwise_append, List.pairwise_cons]
  refine ⟨hleft, ⟨fun k hk => ?_, hright⟩, fun k hk m hm => ?_⟩
  · obtain ⟨g, hg, rfl⟩ := List.mem_map.mp hk
    exact (hbehind g hg).le
  · obtain ⟨g, hg, rfl⟩ := List.mem_map.mp hk
    obtain rfl | hm := List.mem_cons.mp hm
    · exact hbefore g hg
    · obtain ⟨x, hx, rfl⟩ := List.mem_map.mp hm
      exact (hbefore g hg).trans (hbehind x hx).le

/-- Settles O27: the offer leaves the list, its frame enters the queue, and its producer is told. -/
theorem oldestOfferEntersTheQueue : Obligations.OldestOfferEntersTheQueue := by
  intro o rest s hl hroom ho
  have hexec : exec .offerListEntry s = .next (admitOffer o (s.onLine (fun l => { l with offers := rest }))) := by
    show execOfferListEntry s = _
    simp only [execOfferListEntry, hl, Effects.hasRoom_iff.mpr (show classFill .peer _ < _ from hroom), ho, Bool.and_self]
  refine ⟨fun b hb => ?_, fun hb => ?_⟩
  · rw [hexec, hb, admitOffer, enqueue_eq, setSending, updateRecord_eq]
    rfl
  · rw [hexec, hb, admitOffer, enqueue_eq]
    rfl

/-- The condition that is offered first, with its COMPOUND mark. -/
def OfferedFirst (s : State) (c : Condition) (compound : Bool) : Prop :=
  (∃ r, s.cond.record = some r ∧ r.fault = c ∧ compound = false) ∨
    (∃ r, s.cond.record = some r ∧ r.fault.sending ≠ .unsent ∧ r.compound = some c ∧ compound = true) ∨
    ∃ before after, s.cond.notices = before ++ c :: after ∧ (∀ x ∈ before, x.sending ≠ .unsent) ∧ compound = false ∧
      ∀ r, s.cond.record = some r → r.fault.sending ≠ .unsent ∧ ∀ x, r.compound = some x → x.sending ≠ .unsent

theorem firstUnsent_of_offeredFirst {s : State} {c : Condition} {compound : Bool} (hc : c.sending = .unsent)
    (h : OfferedFirst s c compound) : s.firstUnsent = some (c, compound) := by
  obtain ⟨r, hr, rfl, rfl⟩ | ⟨r, hr, hfault, hcomp, rfl⟩ | ⟨before, after, hn, hbefore, rfl, hrecord⟩ := h
  · simp [State.firstUnsent, hr, hc]
  · simp [State.firstUnsent, hr, hfault, hcomp, hc]
  · have hnotices : (s.cond.notices.map (fun x => (x, false))).find? (fun x => x.1.sending == .unsent) = some (c, false) := by
      have hskip : before.find? (fun x => x.sending == .unsent) = none := by
        simpa using hbefore
      simp [hn, List.find?_map, hskip, hc]
    cases hr : s.cond.record with
    | none => simpa [State.firstUnsent, hr] using hnotices
    | some r =>
      obtain ⟨hfault, hcomp⟩ := hrecord r hr
      cases hx : r.compound with
      | none => simpa [State.firstUnsent, hr, hfault, hx] using hnotices
      | some x => simpa [State.firstUnsent, hr, hfault, hx, hcomp x hx] using hnotices

/-- Settles O28: the first UNSENT condition's frame enters the queue and the condition is QUEUED. -/
theorem firstUnsentConditionIsOffered : Obligations.FirstUnsentConditionIsOffered := by
  intro c compound s hl hroom hc hfirst
  have hexec : exec .conditionOffer s = .next (offerCondition c compound s) := by
    show execConditionOffer s = _
    simp only [execConditionOffer, hl, Effects.hasRoom_iff.mpr (show classFill .condition _ < _ from hroom), firstUnsent_of_offeredFirst hc hfirst, Bool.and_self]
  rw [hexec, offerCondition, enqueue_eq, setCondSending_eq, conditionBytes, flagBit_eq, flagBit_eq]
  rfl

/-- Settles O29: the reply's next frame enters the queue, or the offer is refused and the responder waits. -/
theorem replyFramesAreOfferedInOrder : Obligations.ReplyFramesAreOfferedInOrder := by
  intro v payload s hl hv hnext
  have hexec : exec .replyOffer s = .next (offerReply v s) := by
    show execReplyOffer s = _
    simp only [execReplyOffer, hl, hv]
  refine ⟨fun hcut hwait hroom => ?_, fun hcut hwait hfull => ?_, fun hcut => ?_⟩
  · have hoffer : offerReply v s = queueReply v payload s := by
      simp only [offerReply, hcut, hwait, hnext, Bool.or_self, Effects.hasRoom_iff.mpr (show classFill .reply _ < _ from hroom), if_true]
    rw [hexec, hoffer, queueReply, enqueue_eq]
    rfl
  · have hno : ¬ s.hasRoom .reply = true := fun h => Nat.not_lt.mpr hfull (Effects.hasRoom_iff.mp h)
    have hoffer : offerReply v s = replyWaits v s := by
      simp only [offerReply, hcut, hwait, hnext, Bool.or_self, if_neg hno]
    rw [hexec, hoffer]
    rfl
  · rw [hexec]
    simp only [offerReply, hcut, Bool.true_or]

end Sys2Proof.ShareLine

namespace Sys2Proof.Reception

open Sys2Proof Sys2Proof.Machine Sys2Proof.Notices Sys2Proof.ShareLine

/-! ## The end of a frame that is received -/

theorem receiving_of_frame {s : State} (hl : s.live = true) (hm : s.line.monitor = .frame)
    (hq : ∀ f ∈ s.line.queue, f.sending = false) : s.receiving = true := by
  simp [State.receiving, hl, hm, sendingFrame_eq_none hq]

/-- The line behind the last bit of a frame, with these counters. -/
def gapLine (s : State) (c : LinkCounters) : Line :=
  { s.line with monitor := .gap, recessive := 0, dominant := 0, counters := c }

theorem countRx_eq (e : RxFault) (s : State) :
    onLinkCounters (fun c => c.countRx e) (setMonitor .gap 0 0 s) =
      { s with line := gapLine s (s.line.counters.countRx e) } := rfl

theorem exec_frameReceived_error {s : State} {bits : List Bool} {e : RxFault} (hr : s.receiving = true)
    (hb : receive bits = .error e) :
    exec (.frameReceived bits) s = .next { s with line := gapLine s (s.line.counters.countRx e) } := by
  show execFrameReceived bits s = _
  rw [execFrameReceived, if_pos hr, hb]
  rfl

theorem exec_receptionError {s : State} (e : MidFrameError) (hr : s.receiving = true) :
    exec (.receptionError e) s = .next { s with line := gapLine s (s.line.counters.countRx (midFrameFault e)) } := by
  show execReceptionError e s = _
  rw [execReceptionError, if_pos hr]
  rfl

/-- The line behind a valid frame. -/
def frameLine (s : State) : Line := gapLine s { s.line.counters with rxFrames := bump s.line.counters.rxFrames }

theorem exec_frameReceived_ok {s : State} {bits : List Bool} {f : RxFrame} (hr : s.receiving = true) (hb : receive bits = .ok f) :
    exec (.frameReceived bits) s = .next
      (if f.source = s.image.station then ownSource f { s with line := frameLine s } else acceptFrame f { s with line := frameLine s }) := by
  show execFrameReceived bits s = _
  rw [execFrameReceived, if_pos hr, hb]
  rfl

/-- Settles O30: one counter for each check, and the node's own number raises a fault once a count period. -/
theorem failedAndDuplicateFramesAreCounted : Obligations.FailedAndDuplicateFramesAreCounted := by
  refine ⟨fun s hl hm hq => ?_, fun bits f s hl hm hq hb hf => ?_⟩
  · have hr := receiving_of_frame hl hm hq
    exact ⟨fun bits hb => exec_frameReceived_error hr hb, fun bits hb => exec_frameReceived_error hr hb,
      fun bits hb => exec_frameReceived_error hr hb, fun bits hb => exec_frameReceived_error hr hb,
      fun bits hb => exec_frameReceived_error hr hb, exec_receptionError _ hr, exec_receptionError _ hr⟩
  · have hexec := exec_frameReceived_ok (receiving_of_frame hl hm hq) hb
    rw [if_pos hf] at hexec
    refine ⟨fun hmark => ?_, fun hmark hnone => ?_⟩
    · rw [hexec, ownSource, if_pos (by exact hmark)]
      rfl
    · rw [hexec, ownSource, if_neg (by exact (Bool.not_eq_true _).mpr hmark), raiseFault_of_configured (by exact live_configured hl),
        placeFault_first (by exact hnone)]
      rfl

/-! ## Admission (R163 to R167) -/

theorem classOf_eq (s : State) (b : FrameBody) : s.classOf b = s.arrivalClass b := by
  cases b with
  | summary b =>
    simp only [State.classOf, State.arrivalClass, findRecord]
    cases hr : s.ring.records with
    | nil => simp
    | cons r rest =>
      cases hf : (r :: rest).find? (fun r => r.number == b.interval) <;> simp
  | _ => rfl

theorem fill_eq_holding (x : RxPool) (c : RxClass) : x.fill c = x.holding c := List.countP_eq_length_filter

/-- The three conditions of admission are R166's, by R165's table. -/
theorem admits_iff (x : RxPool) (c : RxClass) : x.admits c = true ↔ x.takesFrame c := by
  simp only [RxPool.admits, Bool.and_eq_true, Bool.or_eq_true, decide_eq_true_eq]
  simp only [RxPool.takesFrame, RxPool.othersUnused, RxPool.unused, RxPool.free, fill_eq_holding]
  cases x.mode <;> cases c <;> simp only [RxClass.limit, RxClass.reserve] <;> omega

theorem dropParam_eq (source : Nat) (c : RxClass) : c.code * 256 + source = dropParam source c := by
  cases c <;> rfl

section
variable {u : State} {x : RxPool} {f : RxFrame} {na : Bool}

/-- A frame that its class takes is admitted. -/
theorem admitOrDrop_takes (hx : u.rx = x.arrived) (h : x.takesFrame (u.arrivalClass f.body)) :
    admitOrDrop f na u = { u with rx := x.admitting f (u.arrivalClass f.body) na } := by
  have hadmits : u.rx.admits (u.arrivalClass f.body) = true := by
    rw [hx]
    exact (admits_iff x _).mpr h
  simp only [admitOrDrop, classOf_eq, hadmits, if_true, admitFrame, State.onRx]
  rw [hx]
  rfl

theorem admitOrDrop_drops (hx : u.rx = x.arrived) (h : ¬ x.takesFrame (u.arrivalClass f.body)) :
    admitOrDrop f na u = dropFrame f (u.arrivalClass f.body) u := by
  have hadmits : ¬ u.rx.admits (u.arrivalClass f.body) = true := by
    rw [hx]
    exact mt (admits_iff x _).mp h
  simp only [admitOrDrop, classOf_eq, if_neg hadmits]

/-- A later drop of its class in the count period is counted alone. -/
theorem dropFrame_again {c : RxClass} (hx : u.rx = x.arrived) (h : x.hasDropped c = true) :
    dropFrame f c u = { u with rx := x.dropping c } := by
  cases c <;> simp only [RxPool.hasDropped] at h <;>
    simp [dropFrame, onRxCounters, State.onRx, hx, RxPool.dropMark, RxPool.arrived, h, RxPool.dropping, RxCounters.countDrop]

/-- The first drop of its class in the count period raises RX_DROP. -/
theorem dropFrame_first {c : RxClass} (hx : u.rx = x.arrived) (h : x.hasDropped c = false) :
    dropFrame f c u = raiseNotice .rxDrop (dropParam f.source c) { u with rx := x.dropping c } := by
  cases c <;> simp only [RxPool.hasDropped] at h <;>
    simp [dropFrame, onRxCounters, State.onRx, hx, RxPool.dropMark, RxPool.arrived, h, RxPool.dropping, RxCounters.countDrop,
      RxPool.setDropMark, dropParam, RxClass.code]

end

end Sys2Proof.Reception

namespace Sys2Proof.Reception

open Sys2Proof Sys2Proof.Machine Sys2Proof.Notices Sys2Proof.ShareLine

/-! ## The head of a class (R169) -/

/-- The head of a class is an entry of that class. -/
theorem rxHead_cls {s : State} {c : RxClass} {e : RxEntry} (h : s.rxHead c = some e) : e.cls = c := by
  simpa using List.find?_some h

theorem removeHead_eq_erase {c : RxClass} {e : RxEntry} {l : List RxEntry} (h : l.find? (fun x => x.cls == c) = some e) :
    removeHead c l = l.erase e := by
  induction l with
  | nil => cases h
  | cons x rest ih =>
    by_cases hx : x.cls = c
    · obtain rfl : x = e := by simpa [hx] using h
      simp [removeHead, hx]
    · have he : e.cls = c := by simpa using List.find?_some h
      have hne : x ≠ e := fun hxe => hx (hxe ▸ he)
      have hrest : rest.find? (fun x => x.cls == c) = some e := by simpa [hx] using h
      rw [removeHead, if_neg (by simpa using hx), ih hrest, List.erase_cons_tail (by simpa using hne)]

theorem takeHead_eq {s : State} {c : RxClass} {e : RxEntry} (h : s.rxHead c = some e) :
    takeHead c s = { s with rx := s.rx.without e } := by
  simp only [takeHead, State.onRx, removeHead_eq_erase h]
  rfl

/-! ## One station of the roster -/

/-- The roster holds this entry, and no other of its station, between these others. -/
structure Holds (s : State) (before : List Peer) (e : Peer) (after : List Peer) (n : Nat) : Prop where
  entries : s.roster.entries = before ++ e :: after
  station : e.station = n
  others : ∀ x ∈ before ++ after, x.station ≠ n

section
variable {s : State} {before after : List Peer} {e : Peer} {n : Nat}

theorem Holds.peer (h : Holds s before e after n) : s.peer n = some e := by
  have hbefore : before.find? (fun x => x.station == n) = none := by
    simpa using fun x hx => h.others x (List.mem_append_left _ hx)
  rw [State.peer, h.entries, List.find?_append, hbefore]
  simp [h.station]

/-- The entry alone is replaced. -/
theorem Holds.update (h : Holds s before e after n) (f : Peer → Peer) :
    updatePeer n f s = { s with roster := { s.roster with entries := before ++ f e :: after } } := by
  have hkeep : ∀ l : List Peer, (∀ x ∈ l, x ∈ before ++ after) → l.map (fun x => if x.station == n then f x else x) = l := by
    intro l hl
    refine (List.map_congr_left fun x hx => ?_).trans (List.map_id l)
    simp [h.others x (hl x hx)]
  simp only [updatePeer, State.onRoster, h.entries, List.map_append, List.map_cons, hkeep before (fun x hx => by simp [hx]),
    hkeep after (fun x hx => by simp [hx]), h.station, beq_self_eq_true, if_true]

end

/-- Settles O33: the plan state by R129, for the one entry of the source. -/
theorem announceIsTakenIntoTheRoster : Obligations.AnnounceIsTakenIntoTheRoster := by
  intro source arrival n role m mask d u x e before after s hl hhead hentries hstation hothers rx told
  have h : Holds { s with rx := rx } before e after source := ⟨hentries, hstation, hothers⟩
  have hexec : exec .takeAnnounce s = .next (takeAnnounce source m mask d n { s with rx := rx }) := by
    show execTakeAnnounce s = _
    simp only [execTakeAnnounce, hl, hhead, takeHead_eq hhead, rx]
  have hjudged : ∀ e1, Peer.judgePlan s.roster.planDigest d told = e1 → (e1.plan == .mismatch && e.plan != .mismatch) = false →
      exec .takeAnnounce s = .next { s with rx := rx, roster := { s.roster with entries := before ++ e1 :: after } } := by
    intro e1 he1 hno
    rw [hexec, takeAnnounce, h.peer]
    simp only [show Peer.judgePlan _ d { e with mask := mask, announcedInterval := some n, announcedMembership := m } = e1 from he1,
      hno, Bool.false_eq_true, if_false, h.update]
  refine ⟨fun hrole => ?_, fun hrole hd => ?_, fun hrole hd hplan => ?_, fun hrole hd hplan hroom => ?_⟩
  · exact hjudged _ (by simp [Peer.judgePlan, told, hrole]) (by simp)
  · exact hjudged _ (by simp [Peer.judgePlan, told, hrole, hd]) (by simp)
  · exact hjudged _ (by simp [Peer.judgePlan, told, hrole, hd]) (by simp [hplan])
  · have he1 : Peer.judgePlan s.roster.planDigest d told = { told with plan := .mismatch } := by
      simp [Peer.judgePlan, told, hrole, hd]
    rw [hexec, takeAnnounce, h.peer]
    simp only [show Peer.judgePlan _ d { e with mask := mask, announcedInterval := some n, announcedMembership := m } = _ from he1,
      h.update]
    rw [if_pos (by simp [hplan]), raiseNotice_of_room (by exact live_configured hl) (by exact hroom)]
    rfl

end Sys2Proof.Reception

namespace Sys2Proof.Reception

open Sys2Proof Sys2Proof.Machine Sys2Proof.Notices Sys2Proof.ShareLine

/-! ## The filter (R158 to R162) -/

theorem addressed_iff {s : State} {p : List Byte} : addressed s.image.station p = true ↔ s.addressedBy p := by
  simp [addressed, State.addressedBy]

/-- The frame passes the filter's steps by kind, pool and address. -/
def Passes (s : State) : FrameBody → Prop
  | .close _ _ => True
  | .summary b => s.image.mask.has b.pool = true
  | .recall _ p _ => s.image.mask.has p = true
  | .announce _ _ _ _ _ _ => True
  | .request p => s.addressedBy p
  | _ => False

section
variable {u : State} {f : RxFrame} {na : Bool}

/-- A frame of a source that is not shut out goes on to its class. -/
theorem filterFrame_passes (hshut : u.shutOut f.source = false) (h : Passes u f.body) :
    filterFrame f na u = admitOrDrop f na u := by
  unfold filterFrame
  match hb : f.body with
  | .close j band => simp [hshut]
  | .summary b =>
    rw [hb] at h
    simp [hshut, show u.image.mask.has b.pool = true from h]
  | .recall k p missing =>
    rw [hb] at h
    simp [show u.image.mask.has p = true from h]
  | .announce .. => rfl
  | .request p =>
    rw [hb] at h
    simp [addressed_iff.mpr h]
  | .condition .. => simp [hb, Passes] at h
  | .reply .. => simp [hb, Passes] at h

/-- A RECALL, an ANNOUNCE and a REQUEST pass whatever the state of their source. -/
theorem filterFrame_passes_of_kind (hb : f.body.kind = 3 ∨ f.body.kind = 5 ∨ f.body.kind = 6) (h : Passes u f.body) :
    filterFrame f na u = admitOrDrop f na u := by
  unfold filterFrame
  match hbody : f.body with
  | .recall k p missing =>
    rw [hbody] at h
    simp [show u.image.mask.has p = true from h]
  | .announce .. => rfl
  | .request p =>
    rw [hbody] at h
    simp [addressed_iff.mpr h]
  | .close .. | .condition .. | .summary .. | .reply .. => simp [hbody, FrameBody.kind] at hb

/-- A frame that does not pass is counted in one of the filter's counters. -/
theorem filterFrame_stops (hshut : u.shutOut f.source = false) (h : ¬ Passes u f.body) :
    ∃ c, filterFrame f na u = { u with rx := { u.rx with counters := c } } := by
  unfold filterFrame
  match hb : f.body with
  | .close j band => simp [hb, Passes] at h
  | .summary b =>
    rw [hb] at h
    simp only [hshut, Bool.false_eq_true, if_false, if_neg (show ¬ u.image.mask.has b.pool = true from h)]
    exact ⟨_, rfl⟩
  | .recall k p missing =>
    rw [hb] at h
    simp only [if_neg (show ¬ u.image.mask.has p = true from h)]
    exact ⟨_, rfl⟩
  | .announce .. => simp [hb, Passes] at h
  | .request p =>
    rw [hb] at h
    simp only [if_neg (mt addressed_iff.mp h)]
    exact ⟨_, rfl⟩
  | .condition .. => exact ⟨_, rfl⟩
  | .reply .. => exact ⟨_, rfl⟩

theorem shutOut_of_peer {n : Nat} {e : Peer} (h : u.peer n = some e) :
    u.shutOut n = (e.state == .quarantined || e.plan == .mismatch) := by
  simp only [State.shutOut, h]

end

/-! ## The roster's verdict -/

section
variable {s u : State} {f : RxFrame}

theorem acceptFrame_of_rateDiscarded (h : rosterArrival f { s with rx := s.rx.arrived } = (.rateDiscarded, u)) :
    acceptFrame f s = u := by
  have h0 : rosterArrival f (s.onRx (fun x => { x with arrivals := x.arrivals + 1 })) = (.rateDiscarded, u) := h
  simp only [acceptFrame, h0]

theorem acceptFrame_of_passed (h : rosterArrival f { s with rx := s.rx.arrived } = (.passed, u)) :
    acceptFrame f s = filterFrame f false u := by
  have h0 : rosterArrival f (s.onRx (fun x => { x with arrivals := x.arrivals + 1 })) = (.passed, u) := h
  simp only [acceptFrame, h0]

theorem acceptFrame_of_notAdmitted (h : rosterArrival f { s with rx := s.rx.arrived } = (.notAdmitted, u)) :
    acceptFrame f s = if f.body.isRequest then filterFrame f true u else u := by
  have h0 : rosterArrival f (s.onRx (fun x => { x with arrivals := x.arrivals + 1 })) = (.notAdmitted, u) := h
  simp only [acceptFrame, h0]

end

/-! ## A frame of a station of the roster (R123 to R133) -/

/-- The source's entry when a frame of it is heard. -/
def heardAt (s : State) (e : Peer) : Peer := { e with frames := min (e.frames + 1) 255, lastHeard := s.interval.openNumber }

section
variable {s : State} {f : RxFrame} {before after : List Peer} {e : Peer}

/-- The state with the next arrival counted and the source's entry replaced. -/
def arrivedAs (s : State) (before : List Peer) (e : Peer) (after : List Peer) : State :=
  { s with rx := s.rx.arrived, roster := { s.roster with entries := before ++ e :: after } }

theorem acceptFrame_limited (h : Holds s before e after f.source) (hlimit : s.image.rateLimit < min (e.frames + 1) 255) :
    acceptFrame f s = { arrivedAs s before (heardAt s e) after with
      roster := { s.roster with
        entries := before ++ heardAt s e :: after
        counters := { s.roster.counters with rateDiscarded := bump s.roster.counters.rateDiscarded } } } := by
  have h0 : Holds { s with rx := s.rx.arrived } before e after f.source := ⟨h.entries, h.station, h.others⟩
  have harrival : rosterArrival f { s with rx := s.rx.arrived } =
      (.rateDiscarded, onRosterCounters (fun c => { c with rateDiscarded := bump c.rateDiscarded })
        (arrivedAs s before (heardAt s e) after)) := by
    rw [rosterArrival, h0.peer]
    simp only [if_pos hlimit, h0.update]
    rfl
  rw [acceptFrame_of_rateDiscarded harrival]
  rfl

theorem acceptFrame_passed (h : Holds s before e after f.source) (hlimit : min (e.frames + 1) 255 ≤ s.image.rateLimit) :
    acceptFrame f s = filterFrame f false (arrivedAs s before ((heardAt s e).passed f.body) after) := by
  have h0 : Holds { s with rx := s.rx.arrived } before e after f.source := ⟨h.entries, h.station, h.others⟩
  have harrival : rosterArrival f { s with rx := s.rx.arrived } =
      (.passed, arrivedAs s before ((heardAt s e).passed f.body) after) := by
    rw [rosterArrival, h0.peer]
    simp only [if_neg (Nat.not_lt.mpr hlimit), h0.update]
    rfl
  exact acceptFrame_of_passed harrival

/-- What the frame does to its source's entry at arrival leaves the station, the plan, and whether the state is QUARANTINED. -/
theorem passed_keeps (b : FrameBody) (e : Peer) :
    (e.passed b).station = e.station ∧ (e.passed b).plan = e.plan ∧
      ((e.passed b).state == .quarantined) = (e.state == .quarantined) := by
  cases b with
  | summary b =>
    rw [show e.passed (.summary b) = e.addSummary b.pool from rfl, Peer.addSummary]
    split
    · next h => simp_all
    · exact ⟨rfl, rfl, rfl⟩
  | announce role m mask d n u =>
    rw [show e.passed (.announce role m mask d n u) = e.setRole role from rfl, Peer.setRole]
    (repeat' split) <;> simp_all
  | _ => exact ⟨rfl, rfl, rfl⟩

theorem shutOut_arrived (h : Holds s before e after f.source) :
    (arrivedAs s before ((heardAt s e).passed f.body) after).shutOut f.source =
      (e.state == .quarantined || e.plan == .mismatch) := by
  obtain ⟨hstation, hplan, hstate⟩ := passed_keeps f.body (heardAt s e)
  have h1 : Holds (arrivedAs s before ((heardAt s e).passed f.body) after) before ((heardAt s e).passed f.body) after f.source :=
    ⟨rfl, hstation.trans h.station, h.others⟩
  rw [shutOut_of_peer h1.peer, hplan, hstate]
  rfl

end

theorem passed_summary (b : SummaryBody) (e : Peer) : e.passed (.summary b) =
    if e.state = .silent then { e with mask := e.mask.add b.pool, state := .active, missed := 0 }
    else { e with mask := e.mask.add b.pool } := by
  rw [show e.passed (.summary b) = e.addSummary b.pool from rfl, Peer.addSummary]
  simp

theorem passed_announce (role : Role) (m : Option Membership) (mask : PoolMask) (d : Digest) (n : Nat) (v : Option UnitFigures)
    (e : Peer) : e.passed (.announce role m mask d n v) =
      if e.role = role then e
      else { e with role := role, missed := 0, state := if e.state = .quarantined then .quarantined else .active } := by
  rw [show e.passed (.announce role m mask d n v) = e.setRole role from rfl, Peer.setRole]
  simp

/-- Settles O32: the roster's verdict, the filter's steps by kind, and the admission to the class. -/
theorem knownStationsFramesAreRateCountedAndFiltered : Obligations.KnownStationsFramesAreRateCountedAndFiltered := by
  intro bits f e before after s hl hm hq hb hsource hentries hstation hothers frames line heard roster rx summed
  have h : Holds { s with line := line } before e after f.source := ⟨hentries, hstation, hothers⟩
  have hexec : exec (.frameReceived bits) s = .next (acceptFrame f { s with line := line }) := by
    rw [exec_frameReceived_ok (receiving_of_frame hl hm hq) hb, if_neg hsource]
    rfl
  have hsummed : ∀ b, (heardAt { s with line := line } e).passed (.summary b) = summed b.pool := fun b => passed_summary b _
  refine ⟨fun hlimit => ?_, fun hlimit hbody => ?_, fun hlimit hbody hshut => ?_, fun b hlimit hbody hshut => ?_,
    fun k p missing hlimit hbody hmask => ?_, fun b hlimit hbody hstate hplan hmask => ?_, fun p hlimit hbody hno hall => ?_, ?_⟩
  · rw [hexec, acceptFrame_limited h hlimit]
    rfl
  · obtain ⟨p, hcond | hreply⟩ := hbody
    · rw [hexec, acceptFrame_passed h hlimit]
      simp only [filterFrame, hcond]
      rfl
    · rw [hexec, acceptFrame_passed h hlimit]
      simp only [filterFrame, hreply]
      rfl
  · obtain ⟨j, band, hclose⟩ := hbody
    have hout := shutOut_arrived h
    rw [hexec, acceptFrame_passed h hlimit]
    simp only [filterFrame, hclose] at hout ⊢
    rw [hout, if_pos (by simpa using hshut)]
    rfl
  · have hout := shutOut_arrived h
    rw [hexec, acceptFrame_passed h hlimit]
    simp only [filterFrame, hbody] at hout ⊢
    rw [hout, if_pos (by simpa using hshut), hsummed]
    rfl
  · rw [hexec, acceptFrame_passed h hlimit]
    simp only [filterFrame, hbody]
    rw [if_neg (by exact (Bool.not_eq_true _).mpr hmask)]
    rfl
  · have hout := shutOut_arrived h
    rw [hexec, acceptFrame_passed h hlimit]
    simp only [filterFrame, hbody] at hout ⊢
    rw [hout, if_neg (by simp [hstate, hplan]), if_neg (by exact (Bool.not_eq_true _).mpr hmask), hsummed]
    rfl
  · have haddr : ¬ addressed s.image.station p = true := by
      rw [addressed_iff, State.addressedBy]
      rintro (h1 | ⟨h1, h2⟩)
      · exact hno h1
      · exact hall.elim (fun h3 => h3 h1) (fun h3 => h3 h2)
    rw [hexec, acceptFrame_passed h hlimit]
    simp only [filterFrame, hbody]
    rw [if_neg (by exact haddr)]
    rfl
  · intro passes now cls hlimit hpasses
    let u : State := arrivedAs { s with line := line } before now after
    have hnow : (heardAt { s with line := line } e).passed f.body = now := by
      simp only [now]
      cases hbody : f.body with
      | announce role m mask d n v => exact passed_announce role m mask d n v _
      | summary b => exact hsummed b
      | _ => rfl
    have hadmit : filterFrame f false u = admitOrDrop f false u := by
      have hout : u.shutOut f.source = (e.state == .quarantined || e.plan == .mismatch) := by
        have hpassed := shutOut_arrived h
        rwa [hnow] at hpassed
      simp only [passes] at hpasses
      match hbody : f.body with
      | .close j band =>
        rw [hbody] at hpasses
        obtain ⟨hstate, hplan⟩ := hpasses
        exact filterFrame_passes (by rw [hout]; simp [hstate, hplan]) (by rw [hbody]; trivial)
      | .summary b =>
        rw [hbody] at hpasses
        obtain ⟨hstate, hplan, hmask⟩ := hpasses
        exact filterFrame_passes (by rw [hout]; simp [hstate, hplan]) (by rw [hbody]; exact hmask)
      | .recall k p missing =>
        rw [hbody] at hpasses
        exact filterFrame_passes_of_kind (.inl (by rw [hbody]; rfl)) (by rw [hbody]; exact hpasses)
      | .announce .. => exact filterFrame_passes_of_kind (.inr (.inl (by rw [hbody]; rfl))) (by rw [hbody]; trivial)
      | .request p =>
        rw [hbody] at hpasses
        exact filterFrame_passes_of_kind (.inr (.inr (by rw [hbody]; rfl))) (by rw [hbody]; exact hpasses)
      | .condition .. => simp [hbody] at hpasses
      | .reply .. => simp [hbody] at hpasses
    have haccept : exec (.frameReceived bits) s = .next (admitOrDrop f false u) := by
      rw [hexec, acceptFrame_passed h hlimit, hnow, hadmit]
    refine ⟨fun htakes => ?_, fun hdrops hmark => ?_, fun hdrops hmark hroom => ?_⟩
    · rw [haccept, admitOrDrop_takes (u := u) (x := s.rx) rfl htakes]
      rfl
    · rw [haccept, admitOrDrop_drops (u := u) (x := s.rx) rfl hdrops, dropFrame_again (c := u.arrivalClass f.body) (x := s.rx) rfl hmark]
      rfl
    · rw [haccept, admitOrDrop_drops (u := u) (x := s.rx) rfl hdrops, dropFrame_first (c := u.arrivalClass f.body) (x := s.rx) rfl hmark,
        raiseNotice_of_room (by exact live_configured hl) (by exact hroom)]
      rfl

end Sys2Proof.Reception

namespace Sys2Proof.Reception

open Sys2Proof Sys2Proof.Machine Sys2Proof.Notices Sys2Proof.ShareLine

/-! ## A station that the roster does not hold (R124, R125) -/

theorem peer_eq_none {s : State} {n : Nat} (h : ∀ e ∈ s.roster.entries, e.station ≠ n) : s.peer n = none := by
  simpa [State.peer] using h

theorem find_insertPeer {e : Peer} {es : List Peer} (h : ∀ x ∈ es, x.station ≠ e.station) :
    (insertPeer e es).find? (fun x => x.station == e.station) = some e := by
  induction es with
  | nil => simp [insertPeer]
  | cons x rest ih =>
    have hx : x.station ≠ e.station := h x (by simp)
    have hrest := ih fun y hy => h y (by simp [hy])
    unfold insertPeer
    split
    · simp
    · simpa [hx] using hrest

theorem mem_insertPeer (e : Peer) (es : List Peer) : e ∈ insertPeer e es := by
  induction es with
  | nil => simp [insertPeer]
  | cons x rest ih =>
    unfold insertPeer
    split
    · simp
    · simp [ih]

/-- Without the new station the roster is as before. -/
theorem filter_insertPeer {e : Peer} {es : List Peer} (h : ∀ x ∈ es, x.station ≠ e.station) :
    (insertPeer e es).filter (fun x => x.station != e.station) = es := by
  induction es with
  | nil => simp [insertPeer]
  | cons x rest ih =>
    have hx : x.station ≠ e.station := h x (by simp)
    have hrest := ih fun y hy => h y (by simp [hy])
    have hself : rest.filter (fun x => x.station != e.station) = rest := by
      rw [List.filter_eq_self]
      intro y hy
      simpa using h y (by simp [hy])
    unfold insertPeer
    split
    · simp [hx, hself]
    · simp [hx, hrest]

/-- A new entry is ACTIVE and its plan unknown. -/
theorem newPeer_open (f : RxFrame) (n : Nat) : (newPeer f n).state = .active ∧ (newPeer f n).plan = .unknown := by
  obtain ⟨source, body⟩ := f
  cases body with
  | announce role m mask d k u => simp [newPeer, passed_announce, FrameBody.announcedRole]
  | summary b => simp [newPeer, passed_summary]
  | _ => exact ⟨rfl, rfl⟩

section
variable {s : State} {f : RxFrame}

theorem learn_eq (f : RxFrame) (s : State) : learn f s = { s with
    roster := { s.roster with
      entries := insertPeer (newPeer f s.interval.openNumber) s.roster.entries
      counters := { s.roster.counters with learned := bump s.roster.counters.learned } } } := rfl

/-- A station just learned is not shut out. -/
theorem shutOut_learn (h : ∀ e ∈ s.roster.entries, e.station ≠ f.source) : (learn f s).shutOut f.source = false := by
  obtain ⟨hstate, hplan⟩ := newPeer_open f s.interval.openNumber
  have hpeer : (learn f s).peer f.source = some (newPeer f s.interval.openNumber) := by
    have hfind := find_insertPeer (e := newPeer f s.interval.openNumber) (es := s.roster.entries)
      (by simpa [Effects.newPeer_station] using h)
    simpa [learn_eq, State.peer, Effects.newPeer_station] using hfind
  rw [shutOut_of_peer hpeer, hstate, hplan]
  rfl

theorem arrival_learns (h : ∀ e ∈ s.roster.entries, e.station ≠ f.source) (room : s.roster.entries.length < 32) :
    rosterArrival f s = (.passed, learn f s) := by
  simp only [rosterArrival, peer_eq_none h, if_pos room]

theorem arrival_evicts (h : ∀ e ∈ s.roster.entries, e.station ≠ f.source) (full : 32 ≤ s.roster.entries.length) {old : Peer}
    (ho : evictee s.roster.entries = some old) :
    rosterArrival f s = (.passed, learn f { s with
      roster := { s.roster with
        entries := s.roster.entries.filter (fun e => e.station != old.station)
        counters := { s.roster.counters with evicted := bump s.roster.counters.evicted } } }) := by
  simp only [rosterArrival, peer_eq_none h, if_neg (Nat.not_lt.mpr full), ho]
  rfl

/-- The state with the frame of a station not admitted counted, and the full mark of the period set. -/
def refusedStation (s : State) : State :=
  { s with roster := { s.roster with
      fullMark := true
      counters := { s.roster.counters with notAdmitted := bump s.roster.counters.notAdmitted } } }

theorem arrival_refuses (h : ∀ e ∈ s.roster.entries, e.station ≠ f.source) (full : 32 ≤ s.roster.entries.length)
    (ho : evictee s.roster.entries = none) :
    rosterArrival f s = (.notAdmitted,
      if s.roster.fullMark then refusedStation s else raiseNotice .rosterFull f.source (refusedStation s)) := by
  simp only [rosterArrival, peer_eq_none h, if_neg (Nat.not_lt.mpr full), ho]
  cases hmark : s.roster.fullMark <;> simp [onRosterCounters, State.onRoster, refusedStation, hmark]

end

theorem evictee_eq_none {es : List Peer} (h : ∀ e ∈ es, e.evictable = false) : evictee es = none := by
  have hnil : es.filter (fun e => e.state == .silent && e.role == .node) = [] := by
    rw [List.filter_eq_nil_iff]
    intro e he
    simpa [Peer.evictable] using h e he
  rw [evictee, hnil]
  rfl

/-- Where an entry can be evicted, one is. -/
theorem exists_evictee {es : List Peer} {e : Peer} (he : e ∈ es) (hev : e.evictable = true) : ∃ x, evictee es = some x := by
  have hfold : ∀ (l : List Peer) (b : Peer), ∃ x, l.foldl (fun best e => match best with
      | none => some e
      | some b => if b.missed < e.missed then some e else some b) (some b) = some x := by
    intro l
    induction l with
    | nil => exact fun b => ⟨b, rfl⟩
    | cons y l ih =>
      intro b
      rw [List.foldl_cons]
      dsimp only
      split
      · exact ih y
      · exact ih b
  have hmem : e ∈ es.filter (fun e => e.state == .silent && e.role == .node) := List.mem_filter.mpr ⟨he, hev⟩
  unfold evictee
  cases hl : es.filter (fun e => e.state == .silent && e.role == .node) with
  | nil => rw [hl] at hmem; cases hmem
  | cons y l => exact hfold l y

/-- In an ordered roster the entry evicted has the station of the one that R125 names. -/
theorem evictee_station {es : List Peer} (hs : (es.map (·.station)).Pairwise (· < ·)) {x old : Peer} (hx : evictee es = some x)
    (hmem : old ∈ es) (hev : old.evictable = true)
    (hold : ∀ e ∈ es, e.evictable = true → e.missed < old.missed ∨ (e.missed = old.missed ∧ old.station ≤ e.station)) :
    x.station = old.station := by
  obtain ⟨hnone, -⟩ | ⟨y, hy, hsome, hyev, hall⟩ := evictee_spec es hs
  · rw [hnone] at hx
    cases hx
  · obtain rfl : y = x := by rw [hsome] at hx; exact Option.some.inj hx
    have h1 := hold y hy hyev
    have h2 := hall old hmem hev
    omega

/-! ## The frame behind the filter -/

/-- What the filter and the class make of a frame whose source is not shut out. -/
theorem filterFrame_outcome {u : State} {x : RxPool} {f : RxFrame} (hx : u.rx = x.arrived)
    (hm : u.interval.membership ≠ .unconfigured) (hshut : u.shutOut f.source = false) :
    let t := filterFrame f false u
    let cls := u.arrivalClass f.body
    (Passes u f.body → x.takesFrame cls → t.rx = x.admitting f cls false ∧ t.cond = u.cond ∧ t.channels = u.channels) ∧
      (Passes u f.body → ¬ x.takesFrame cls → t.rx = x.dropping cls ∧ (x.hasDropped cls = true → t.cond = u.cond) ∧
        (x.hasDropped cls = false → ∃ n, t.cond.notices.getLast? =
          some ⟨n, .rxDrop, dropParam f.source cls, u.interval.openNumber, .unsent⟩)) ∧
      (¬ Passes u f.body → t.rx = { x.arrived with counters := t.rx.counters } ∧ t.cond = u.cond ∧ t.channels = u.channels) := by
  dsimp only
  refine ⟨fun hpass htakes => ?_, fun hpass hdrops => ?_, fun hstop => ?_⟩
  · rw [filterFrame_passes hshut hpass, admitOrDrop_takes hx htakes]
    exact ⟨rfl, rfl, rfl⟩
  · rw [filterFrame_passes hshut hpass, admitOrDrop_drops hx hdrops]
    cases hmark : x.hasDropped (u.arrivalClass f.body) with
    | true =>
      rw [dropFrame_again hx hmark]
      exact ⟨rfl, fun _ => rfl, fun h => by cases h⟩
    | false =>
      rw [dropFrame_first hx hmark]
      obtain ⟨n, hn⟩ := raiseNotice_notices (s := { u with rx := x.dropping (u.arrivalClass f.body) }) hm .rxDrop
        (dropParam f.source (u.arrivalClass f.body))
      exact ⟨by simp, (fun h => by cases h), fun _ => ⟨n, by rw [hn]; simp⟩⟩
  · obtain ⟨c, hc⟩ := filterFrame_stops (na := false) hshut hstop
    rw [hc, hx]
    exact ⟨rfl, rfl, rfl⟩

/-- The entry that a frame creates: READER by an ANNOUNCE that says so, else NODE, with a SUMMARY's pool in its mask. -/
theorem newPeer_eq (f : RxFrame) (n : Nat) : newPeer f n =
    ⟨f.source, (match f.body with | .announce role _ _ _ _ _ => role | _ => .node),
      (match f.body with | .summary b => PoolMask.add 0#4 b.pool | _ => 0#4), .unknown, .active, 0, 1, 0, n, none, none⟩ := by
  obtain ⟨source, body⟩ := f
  cases body with
  | announce role m mask d k u => simp [newPeer, passed_announce, FrameBody.announcedRole]
  | summary b => simp [newPeer, passed_summary, FrameBody.announcedRole]
  | _ => rfl

theorem dropFrame_rx {u : State} {x : RxPool} {f : RxFrame} {c : RxClass} (hx : u.rx = x.arrived) :
    (dropFrame f c u).rx = x.dropping c := by
  cases hmark : x.hasDropped c with
  | true => rw [dropFrame_again hx hmark]
  | false =>
    rw [dropFrame_first hx hmark]
    simp

/-- Settles O31: the roster learns, evicts or refuses, and the frame goes through the filter. -/
theorem newStationIsLearnedAndItsFrameAdmitted : Obligations.NewStationIsLearnedAndItsFrameAdmitted := by
  intro bits f s hl hm hq hsource hnew hb line evictable role mask passes cls
  have hexec : exec (.frameReceived bits) s = .next (acceptFrame f { s with line := line }) := by
    rw [exec_frameReceived_ok (receiving_of_frame hl hm hq) hb, if_neg hsource]
    rfl
  let v : State := { s with line := line, rx := s.rx.arrived }
  have hevictable : ∀ e, evictable e ↔ e ∈ s.roster.entries ∧ e.evictable = true := fun e => by
    simp [evictable, Peer.evictable]
  have hpasses : passes ↔ Passes s f.body := by
    simp only [passes]
    cases f.body <;> rfl
  have hpeer : newPeer f s.interval.openNumber =
      ⟨f.source, role, mask, .unknown, .active, 0, 1, 0, s.interval.openNumber, none, none⟩ := by
    simp only [role, mask]
    exact newPeer_eq f _
  have hfilter : ∀ es : List Peer, (∀ e ∈ es, e.station ≠ f.source) →
      (insertPeer (newPeer f s.interval.openNumber) es).filter (fun e => e.station != f.source) = es := fun es hes => by
    have h := filter_insertPeer (e := newPeer f s.interval.openNumber) (es := es) (by simpa [Effects.newPeer_station] using hes)
    rwa [Effects.newPeer_station] at h
  have hlearned : ∀ R : Roster, (∀ e ∈ R.entries, e.station ≠ f.source) →
      rosterArrival f v = (.passed, learn f { v with roster := R }) →
      ∃ t, exec (.frameReceived bits) s = .next t
        ∧ t = { s with line := line, roster := t.roster, rx := t.rx, cond := t.cond, channels := t.channels }
        ∧ t.roster = (learn f { v with roster := R }).roster
        ∧ (passes → s.rx.takesFrame cls → t.rx = s.rx.admitting f cls false ∧ t.cond = s.cond ∧ t.channels = s.channels)
        ∧ (passes → ¬ s.rx.takesFrame cls → t.rx = s.rx.dropping cls ∧ (s.rx.hasDropped cls = true → t.cond = s.cond)
            ∧ (s.rx.hasDropped cls = false → ∃ n, t.cond.notices.getLast? =
                some ⟨n, .rxDrop, dropParam f.source cls, s.interval.openNumber, .unsent⟩))
        ∧ (¬ passes → t.rx = { s.rx.arrived with counters := t.rx.counters } ∧ t.cond = s.cond ∧ t.channels = s.channels) := by
    intro R hR harrival
    obtain ⟨htakes, hdrops, hstops⟩ := filterFrame_outcome (u := learn f { v with roster := R }) (x := s.rx) (f := f) rfl
      (live_configured hl) (shutOut_learn hR)
    refine ⟨_, hexec.trans (congrArg _ (acceptFrame_of_passed harrival)), ?_, by simp, fun h => htakes (hpasses.mp h),
      fun h => hdrops (hpasses.mp h), fun h => hstops (mt hpasses.mpr h)⟩
    rw [state_eq_iff]
    simp [v]
  refine ⟨fun hroom => ?_, fun hfull hnone => ?_⟩
  · by_cases hlt : s.roster.entries.length < 32
    · obtain ⟨t, ht, hblocks, hroster, htakes, hdrops, hstops⟩ := hlearned s.roster hnew (arrival_learns (s := v) hnew hlt)
      refine ⟨t, ht, hblocks, ?_, fun _ => ?_, fun old hfull => absurd hlt (Nat.not_lt.mpr hfull), htakes, hdrops, hstops⟩
      · rw [hroster, ← hpeer]
        exact mem_insertPeer _ _
      · rw [hroster]
        exact ⟨rfl, hfilter s.roster.entries hnew⟩
    · obtain ⟨e, he⟩ := hroom.resolve_left hlt
      obtain ⟨hmem, hev⟩ := (hevictable e).mp he
      obtain ⟨x, hx⟩ := exists_evictee hmem hev
      have hrest : ∀ y ∈ s.roster.entries.filter (fun y => y.station != x.station), y.station ≠ f.source :=
        fun y hy => hnew y (List.mem_of_mem_filter hy)
      obtain ⟨t, ht, hblocks, hroster, htakes, hdrops, hstops⟩ := hlearned
        { s.roster with
          entries := s.roster.entries.filter (fun y => y.station != x.station)
          counters := { s.roster.counters with evicted := bump s.roster.counters.evicted } } hrest
        (arrival_evicts (s := v) hnew (Nat.not_lt.mp hlt) hx)
      refine ⟨t, ht, hblocks, ?_, fun h => absurd h hlt, fun old _ hordered hold hmax => ?_, htakes, hdrops, hstops⟩
      · rw [hroster, ← hpeer]
        exact mem_insertPeer _ _
      · obtain ⟨holdMem, holdEv⟩ := (hevictable old).mp hold
        have hstation : x.station = old.station := evictee_station hordered.2 hx holdMem holdEv
          fun y hy hyev => hmax y ((hevictable y).mpr ⟨hy, hyev⟩)
        rw [hroster, ← hstation]
        exact ⟨rfl, hfilter _ hrest⟩
  · have hnot : ∀ e ∈ s.roster.entries, e.evictable = false := fun e he => by
      simpa using fun hev => hnone e ((hevictable e).mpr ⟨he, hev⟩)
    let u : State := if s.roster.fullMark then refusedStation v else raiseNotice .rosterFull f.source (refusedStation v)
    have harrival : rosterArrival f v = (.notAdmitted, u) := arrival_refuses (s := v) hnew hfull (evictee_eq_none hnot)
    have hrx : u.rx = s.rx.arrived := by
      simp only [u]
      split <;> simp [refusedStation, v]
    have himage : u.image = s.image := by
      simp only [u]
      split <;> simp [refusedStation, v]
    have hmarked : s.roster.fullMark = true → u.cond = s.cond := fun h => by
      simp [u, h, refusedStation, v]
    have hfirst : s.roster.fullMark = false → ∃ n, u.cond.notices.getLast? =
        some ⟨n, .rosterFull, f.source, s.interval.openNumber, .unsent⟩ := fun h => by
      obtain ⟨n, hn⟩ := raiseNotice_notices (s := refusedStation v) (live_configured hl) .rosterFull f.source
      have hu : u = raiseNotice .rosterFull f.source (refusedStation v) := if_neg (by simp [h])
      exact ⟨n, by rw [hu, hn, List.getLast?_concat]; rfl⟩
    refine ⟨_, hexec.trans (congrArg _ (acceptFrame_of_notAdmitted harrival)), ?_, fun hkind => ?_, fun p hbody => ?_⟩
    · rw [state_eq_iff]
      simp only [u]
      (repeat' split) <;> simp [refusedStation, v]
    · have hno : f.body.isRequest = false := by
        cases hbody : f.body with
        | request p => simp [hbody, FrameBody.kind] at hkind
        | _ => rfl
      rw [hno, if_neg Bool.false_ne_true]
      exact ⟨hrx, hmarked, hfirst⟩
    · have hyes : f.body.isRequest = true := by rw [hbody]; rfl
      have hclass : u.arrivalClass f.body = .service := by rw [hbody]; rfl
      have hpass : s.addressedBy p → filterFrame f true u = admitOrDrop f true u := fun h =>
        filterFrame_passes_of_kind (.inr (.inr (by rw [hbody]; rfl)))
          (by rw [hbody]; show u.addressedBy p; rw [State.addressedBy, himage]; exact h)
      rw [hyes, if_pos rfl]
      refine ⟨fun haddr htakes => ?_, fun haddr hdrops => ?_, fun haddr => ?_⟩
      · rw [hpass haddr, admitOrDrop_takes hrx (by rwa [hclass]), hclass]
        exact ⟨rfl, hmarked⟩
      · rw [hpass haddr, admitOrDrop_drops hrx (by rwa [hclass]), hclass, dropFrame_rx hrx]
      · have hstop : filterFrame f true u = onRxCounters (fun c => { c with notAddressed := bump c.notAddressed }) u := by
          simp only [filterFrame, hbody]
          rw [if_neg (by rw [himage]; exact mt addressed_iff.mp haddr)]
        rw [hstop]
        refine ⟨?_, hmarked⟩
        simp only [onRxCounters, State.onRx_blocks, hrx]
        rfl

end Sys2Proof.Reception

namespace Sys2Proof.RingUnit

open Sys2Proof Sys2Proof.Machine Sys2Proof.Notices Sys2Proof.ShareLine Sys2Proof.Reception

/-! ## One record of the ring -/

/-- The ring holds this record, and no other of its number, between these others. -/
structure Has (s : State) (before : List Record) (r : Record) (after : List Record) (k : Nat) : Prop where
  records : s.ring.records = before ++ r :: after
  number : r.number = k
  others : ∀ x ∈ before ++ after, x.number ≠ k

/-- The state with these records in its ring. -/
def withRecords (rs : List Record) (s : State) : State := { s with ring := { s.ring with records := rs } }

section
variable {s : State} {before after : List Record} {r : Record} {k : Nat}

theorem Has.find (h : Has s before r after k) : findRecord k s = some r := by
  have hbefore : before.find? (fun x => x.number == k) = none := by
    simpa using fun x hx => h.others x (List.mem_append_left _ hx)
  rw [findRecord, h.records, List.find?_append, hbefore]
  simp [h.number]

theorem Has.map (h : Has s before r after k) (f : Record → Record) :
    s.ring.records.map (fun x => if x.number = k then f x else x) = before ++ f r :: after := by
  have hkeep : ∀ l : List Record, (∀ x ∈ l, x ∈ before ++ after) → l.map (fun x => if x.number = k then f x else x) = l := by
    intro l hl
    refine (List.map_congr_left fun x hx => ?_).trans (List.map_id l)
    simp [h.others x (hl x hx)]
  rw [h.records, List.map_append, List.map_cons, hkeep before (fun x hx => by simp [hx]),
    hkeep after (fun x hx => by simp [hx]), if_pos h.number]

/-- The record alone is replaced. -/
theorem Has.update (h : Has s before r after k) (f : Record → Record) :
    updateRecord k f s = withRecords (before ++ f r :: after) s := by
  rw [updateRecord_eq, h.map]
  rfl

theorem Has.of_records {t : State} (h : Has s before r after k) {x : Record} (ht : t.ring.records = before ++ x :: after)
    (hx : x.number = k) : Has t before x after k := ⟨ht, hx, h.others⟩

/-- The record is the only one of its number, so a search by number leaves the others. -/
theorem Has.filter (h : Has s before r after k) : s.ring.records.filter (fun x => x.number != k) = before ++ after := by
  have hkeep : ∀ l : List Record, (∀ x ∈ l, x ∈ before ++ after) → l.filter (fun x => x.number != k) = l := fun l hl =>
    List.filter_eq_self.mpr fun x hx => by simpa using h.others x (hl x hx)
  rw [h.records, List.filter_append, List.filter_cons, hkeep before (fun x hx => by simp [hx]),
    hkeep after (fun x hx => by simp [hx]), if_neg (by simp [h.number])]

end

theorem findRecord_eq_none {s : State} {k : Nat} (h : ∀ r ∈ s.ring.records, r.number ≠ k) : findRecord k s = none := by
  simpa [findRecord] using h

/-- In rising order of number the first record is the only one of its number. -/
theorem has_head {s : State} {r : Record} {rest : List Record} (hrec : s.ring.records = r :: rest)
    (hne : ∀ x ∈ rest, x.number ≠ r.number) : Has s [] r rest r.number := ⟨hrec, rfl, hne⟩

/-! ## A record goes to SETTLING (R9, R12, R27) -/

/-- The record as it is in SETTLING, its gather ended and its waiting summaries not sent. -/
def settled (r : Record) : Record :=
  { r with
    state := .settling
    gather := none
    pools := r.pools.map (fun p =>
      { p with sending := if p.sending = some .waiting ∨ p.sending = some .offered then some .notSent else p.sending }) }

theorem unsent_eq (p : PoolPart) : p.unsent =
    { p with sending := if p.sending = some .waiting ∨ p.sending = some .offered then some .notSent else p.sending } := by
  unfold PoolPart.unsent
  cases hp : p.sending with
  | none => rfl
  | some x => cases x <;> rfl

theorem settled_eq (r : Record) :
    { r with state := .settling, gather := none, pools := r.pools.map PoolPart.unsent } = settled r := by
  rw [funext unsent_eq]
  rfl

/-- The offers of a record's summaries leave the list. -/
def offersWithout (k : Nat) (offers : List Offer) : List Offer :=
  offers.filter (fun o => match o with | .summary b => b.interval != k | .announce => true)

theorem isOf_eq (k : Nat) : (fun o : Offer => !o.isOf k) = fun o => match o with
    | .summary b => b.interval != k
    | .announce => true := by
  funext o
  cases o <;> rfl

theorem goToSettling_eq {s : State} {before after : List Record} {r : Record} {k : Nat} (h : Has s before r after k) :
    goToSettling k s = { s with
      ring := { s.ring with records := before ++ settled r :: after }
      engine := { s.engine with jobs := s.engine.jobs ++ [⟨.settle, k⟩] }
      line := { s.line with offers := offersWithout k s.line.offers } } := by
  unfold goToSettling
  dsimp only
  rw [h.update, settled_eq, isOf_eq]
  rfl

/-! ## The drain (R27, R120) -/

theorem settleNext_of_head {s : State} {r : Record} {rest : List Record} (hrec : s.ring.records = r :: rest)
    (hne : ∀ x ∈ rest, x.number ≠ r.number) (hstate : r.state ≠ .opened) (hsettling : ∀ x ∈ s.ring.records, x.state ≠ .settling) :
    settleNext s = { s with
      ring := { s.ring with records := settled r :: rest }
      engine := { s.engine with jobs := s.engine.jobs ++ [⟨.settle, r.number⟩] }
      line := { s.line with offers := offersWithout r.number s.line.offers } } := by
  have hnone : s.ring.records.any (fun x => x.state == .settling) = false := by simpa using hsettling
  have hhead : r.state ≠ .settling := hsettling r (by simp [hrec])
  have hwait : s.waitingRecords = r :: rest.filter (fun x => x.state != .opened && x.state != .settling) := by
    simp [State.waitingRecords, hrec, hstate, hhead]
  rw [settleNext, if_neg (by simp [hnone]), hwait]
  exact goToSettling_eq (has_head hrec hne)

theorem isLatePast_eq : RxEntry.isLatePast = fun e => e.cls == .late && (e.frame.body.kind == 4 || e.frame.body.kind == 3) := by
  funext e
  unfold RxEntry.isLatePast
  cases e.frame.body <;> rfl

/-- Settles O41: the two steps of the drain, each on the ring's oldest record or on none. -/
theorem drainSettlesEachRecordAndEndsListening : Obligations.DrainSettlesEachRecordAndEndsListening := by
  intro s hp hd
  refine ⟨fun r rest hrec hord hstate hsettling => ?_, fun hopen => ?_⟩
  · have hne : ∀ x ∈ rest, x.number ≠ r.number := by
      rw [hrec, List.map_cons, List.pairwise_cons] at hord
      exact fun x hx => (hord.1 _ (List.mem_map_of_mem hx)).ne'
    show execDrainSettleNext s = _
    rw [execDrainSettleNext, if_pos (by simp [hd, Control.powered_iff.mpr hp]), settleNext_of_head hrec hne hstate hsettling]
    rfl
  · have hdrained : s.drained = true := by simpa [State.drained] using hopen
    show execDrainEnd s = _
    rw [execDrainEnd, if_pos (by simp [hd, Control.powered_iff.mpr hp, hdrained])]
    rw [endDrain, purgeLate, isLatePast_eq]
    rfl

/-! ## The commands that take a frame of the ring -/

theorem following_iff {s : State} : s.following = true ↔ s.powered = true ∧ s.hasRing := by
  simp [State.following, State.hasRing]

theorem not_listening {s : State} (h : s.following = true) : s.interval.membership ≠ .listening := by
  obtain ⟨-, hm | hm⟩ := following_iff.mp h <;> simp [hm]

theorem live_of_following {s : State} (h : s.following = true) : s.live = true := by
  obtain ⟨hp, hm | hm⟩ := following_iff.mp h <;> simp [State.live, hp, hm]

section
variable {s : State} {e : RxEntry}

theorem exec_takeSummary (hf : s.following = true) {cls : SummaryClass} {b : SummaryBody} (he : s.rxHead (rxClassOf cls) = some e)
    (hb : e.frame.body = .summary b) :
    exec (.takeSummary cls) s = .next (placeSummary e.frame.source b { s with rx := s.rx.without e }) := by
  obtain ⟨⟨source, body⟩, c, x, y⟩ := e
  obtain rfl : body = .summary b := hb
  show execTakeSummary cls s = _
  simp only [execTakeSummary, live_of_following hf, he, takeHead_eq he]
  rw [if_neg (by simpa using not_listening hf)]

theorem exec_takeRecall (hl : s.live = true) {k : Nat} {p : PoolId} {missing : BitVec 64} (he : s.rxHead .late = some e)
    (hb : e.frame.body = .recall k p missing) :
    exec .takeRecall s = .next (if missing.getLsbD s.image.station then answerRecall k p { s with rx := s.rx.without e }
      else { s with rx := s.rx.without e }) := by
  obtain ⟨⟨source, body⟩, c, x, y⟩ := e
  obtain rfl : body = .recall k p missing := hb
  show execTakeRecall s = _
  simp only [execTakeRecall, hl, he, takeHead_eq he]

end

/-! ## A SUMMARY that is too late (R22) -/

theorem placeSummary_tooLate {s : State} {source : Nat} {b : SummaryBody}
    (h : (∃ r, findRecord b.interval s = some r ∧ r.state = .settling)
      ∨ (b.interval < s.interval.openNumber ∧ ∀ r ∈ s.ring.records, r.number ≠ b.interval)) :
    placeSummary source b s = summaryTooLate source b s := by
  obtain ⟨r, hr, hst⟩ | ⟨hlt, hnone⟩ := h
  · simp only [placeSummary, hr, hst]
  · simp only [placeSummary, findRecord_eq_none hnone]
    rw [if_neg (by omega)]

theorem handDigest_of_checkMask {s : State} {k : Nat} {p : PoolId} {source : Nat} {d : Option Digest}
    (h : s.image.checkMask.has p = true) : handDigest k p source d s = s := by
  rw [handDigest, if_pos h]

/-- Settles O45: the SUMMARY is placed as too late, and its pool's digest is not compared. -/
theorem summaryTooLateIsCounted : Obligations.SummaryTooLateIsCounted := by
  intro cls e b s hf he hb hmask hlate
  rw [exec_takeSummary hf he hb, placeSummary_tooLate (by exact hlate), summaryTooLate, handDigest_of_checkMask (by exact hmask)]
  rfl

/-! ## A compute job starts (R38, R42) -/

theorem computeJob_eq {s : State} {k : Nat} {r : Record} (h : findRecord k s = some r) (recompute : Bool) :
    s.computeJob recompute k =
      ⟨recompute, k, r.pools.map (fun x => x.totals), s.table.accounts.map (fun a => a.damaged), false⟩ := by
  simp only [State.computeJob, h]

/-- Settles O54: the head of the list, COMPUTE or RECOMPUTE, starts with the copy it takes. -/
theorem computeJobStartsWithItsCopy : Obligations.ComputeJobStartsWithItsCopy := by
  intro k rest r s hf hflight hr
  refine ⟨fun hjobs => ?_, fun hjobs => ?_⟩
  all_goals
    show execComputeJobStart s = _
    simp only [execComputeJobStart, hf, hflight, hjobs, startCompute, computeJob_eq hr]
    rfl

/-! ## Recalls (R23, R24) -/

section
variable {s : State} {k : Nat} {p : PoolId}

theorem countUnanswered_eq (s : State) : countUnanswered s = { s with ring := { s.ring with
    counters := { s.ring.counters with recallUnanswered := bump s.ring.counters.recallUnanswered } } } := rfl

theorem answerRecall_outside (hm : s.interval.membership ≠ .member) : answerRecall k p s = countUnanswered s := by
  rw [answerRecall, if_pos (by simpa using hm)]

theorem answerRecall_unheld (h : ∀ r ∈ s.ring.records, r.number = k → r.state = .settling ∨ r.state = .opened) :
    answerRecall k p s = countUnanswered s := by
  unfold answerRecall
  split
  · rfl
  · split
    · rfl
    · next r hr =>
      obtain ⟨hmem, hk⟩ := RingOrder.findRecord_mem hr
      rw [if_pos (by simpa using h r hmem hk)]

/-- In MEMBER a record that is GATHERING or PROVISIONAL decides by its pool part. -/
theorem answerRecall_held {r : Record} (hm : s.interval.membership = .member) (hr : findRecord k s = some r)
    (hstate : r.state = .gathering ∨ r.state = .provisional) :
    answerRecall k p s =
      if (r.pools.get p).onItsWay || (r.pools.get p).resendQueued then s
      else if 2 ≤ (r.pools.get p).resends then onRingCounters (fun c => { c with resendLimit := bump c.resendLimit }) s
      else offerResend r p s := by
  have hne : ¬ (r.state == .settling || r.state == .opened) = true := by rcases hstate with h | h <;> simp [h]
  simp only [answerRecall, hr]
  rw [if_neg (by simp [hm]), if_neg hne]

theorem onItsWay_iff {x : PoolPart} :
    x.onItsWay = true ↔ x.sending = some .waiting ∨ x.sending = some .offered ∨ x.sending = some .queued := by
  simp [PoolPart.onItsWay, or_assoc]

end

/-- Settles O47: the RECALL's table, one branch after another. -/
theorem recallIsAnsweredByTheTable : Obligations.RecallIsAnsweredByTheTable := by
  intro e k p missing s hl he hb taken counts named c
  have hexec := exec_takeRecall hl he hb
  have hnamed : named → exec .takeRecall s = .next (answerRecall k p taken) := fun h => hexec.trans (by rw [if_pos h])
  refine ⟨fun h => hexec.trans (by rw [if_neg (by simp [h])]), fun hn hm => ?_, fun hn hr => ?_, fun r before after hn hm hrec hne hk hst => ?_⟩
  · rw [hnamed hn, answerRecall_outside (by exact hm)]
    rfl
  · rw [hnamed hn, answerRecall_unheld (by exact hr)]
    rfl
  subst hk
  have hHas : Has taken before r after r.number := ⟨hrec, rfl, hne⟩
  have hheld := (hnamed hn).trans (congrArg Host.Outcome.next (answerRecall_held (p := p) hm hHas.find hst))
  refine ⟨fun hway => ?_, fun hsent hq => ?_⟩
  · rw [hheld, if_pos (by simpa [onItsWay_iff, or_assoc] using hway)]
  · have hno : ¬ ((r.pools.get p).onItsWay || (r.pools.get p).resendQueued) = true := by
      rcases hsent with h | h | h <;> simp [onItsWay_iff, h, hq]
    rw [if_neg hno] at hheld
    refine ⟨fun h2 => ?_, fun h2 hfull => ?_, fun own h2 hroom hown => ?_⟩
    · rw [hheld, if_pos h2]
      rfl
    · rw [hheld, if_neg (by omega), offerResend, if_neg (by simpa [Effects.hasRoom_iff, TxClass.reserve] using hfull)]
      rfl
    · have hbody : taken.summaryBody r p true =
          { interval := r.number
            pool := p
            values := own.values
            estimated := own.estimated
            tampered := own.tampered
            resend := true
            digest := if r.number ≤ 3 then none
              else (s.ring.history.find? (fun x => x.number == r.number - 3)).map (fun x => x.digests.get p) } := by
        simp only [State.summaryBody, hown]
        rfl
      have hqueued (b : FrameBody) : Has (enqueue b taken) before r after r.number := ⟨by simpa using hrec, rfl, hne⟩
      rw [hheld, if_neg (by omega), offerResend, if_pos (by simpa [Effects.hasRoom_iff, TxClass.reserve] using hroom), hbody,
        (hqueued _).update, enqueue_eq]
      rfl

end Sys2Proof.RingUnit

namespace Sys2Proof.Requests

open Sys2Proof Sys2Proof.Machine Sys2Proof.Notices Sys2Proof.ShareLine Sys2Proof.Reception Sys2Proof.RingUnit

/-! ## The take of a request (R198 to R201) -/

/-- What answers a permitted request of this kind. -/
def handlerOf : Request → State → Answer
  | .statement sel => handleStatement sel
  | .closing sel => handleClosing sel
  | .pool n => handlePool n
  | .roster => fun t => copied t.rosterLines t
  | .counters n => handleCounters n
  | .conditions => fun t => copied t.conditionLines t
  | .check => fun t => copied t.checkLines t
  | .cut sel status => handleCut sel status
  | .release sel => handleRelease sel
  | .ack n => handleAck n
  | .rejoin => handleRejoin
  | .clearCheck => handleClearCheck
  | .undefined => noSuch

section
variable {s : State} {e : RxEntry} {p : List Byte} {r : Request}

theorem requestAtHead_of_asked (h : s.asked e p) : s.requestAtHead = some (e, p) := by
  obtain ⟨hl, hserving, he, hb⟩ := h
  rw [State.requestAtHead, if_pos (by simp [hl, hserving])]
  simp only [he, hb]

theorem exec_request (h : s.asked e p) (hp : parseRequest p = r) :
    exec r.command s = .next (answerRequest e p (handlerOf r) s) := by
  have hhead := requestAtHead_of_asked h
  cases r
  all_goals
    simp only [Request.command, exec, handlerOf, execStatementQuery, execClosingQuery, execPoolQuery, execRosterQuery,
      execCountersQuery, execConditionsQuery, execCheckQuery, execCut, execRelease, execAck, execRejoin, execClearCheck,
      execUndefinedRequest, hhead, hp]

theorem beginRequest_eq (h : s.rxHead .service = some e) : beginRequest s = s.taken e := by
  rw [beginRequest, takeHead_eq h]
  rfl

/-- A reader's request is answered by its handler. -/
theorem exec_of_reader (h : s.asked e p) (hr : s.fromReader e) (hp : parseRequest p = r) :
    exec r.command s = .next (serve e.frame.source p (handlerOf r (s.taken e))) := by
  obtain ⟨hadmitted, x, hx, hrole⟩ := hr
  have hpermitted : (s.taken e).permitted e = true := by
    have hpeer : (s.taken e).peer e.frame.source = some x := hx
    simp [State.permitted, hadmitted, hpeer, hrole]
  rw [exec_request h hp, answerRequest, beginRequest_eq h.2.2.1, if_pos hpermitted]

end

/-! ## What is served -/

theorem serve_plain (s : State) (e : RxEntry) (p : List Byte) (st : Status) (v : Nat) :
    serve e.frame.source p (Answer.plain st v (s.taken e)) = s.serving e p st v [] := rfl

theorem serve_noSuch (s : State) (e : RxEntry) (p : List Byte) :
    serve e.frame.source p (noSuch (s.taken e)) = s.serving e p .noSuch 0 [] := rfl

theorem serve_copied (s : State) (e : RxEntry) (p : List Byte) (lines : List (List Byte)) :
    serve e.frame.source p (copied lines (s.taken e)) = s.serving e p .done 0 lines := rfl

/-- Settles O48: whoever is not permitted is refused before the handler is asked. -/
theorem unpermittedRequestsAreRefused : Obligations.UnpermittedRequestsAreRefused := by
  intro e p s h hwho
  have hrefused : (s.taken e).permitted e = false := by
    have hpeer : (s.taken e).peer e.frame.source = s.peer e.frame.source := rfl
    obtain hn | hn | ⟨x, hx, hrole⟩ := hwho
    · simp [State.permitted, hn]
    · simp [State.permitted, hpeer, hn]
    · simp [State.permitted, hpeer, hx, hrole]
  rw [exec_request h rfl, answerRequest, beginRequest_eq h.2.2.1, if_neg (by simp [hrefused])]
  rfl

/-! ## RELEASE (R66) -/

/-- The store's queue with a request joined (R68). -/
def requested (w : StoreWrite) (awaited : Bool) (q : List StoreRequest) : List StoreRequest :=
  q.filter (fun x => x.write.recordNumber != w.recordNumber)
    ++ [⟨w, awaited || q.any (fun x => x.write.recordNumber == w.recordNumber && x.awaited)⟩]

theorem requestWrite_eq (w : StoreWrite) (awaited : Bool) (s : State) : requestWrite w awaited s = { s with
    store := { s.store with queue := requested w awaited s.store.queue }
    table := { s.table with counters := { s.table.counters with
      storeHeld := if s.control.supplyWarn then bump s.table.counters.storeHeld else s.table.counters.storeHeld } } } := by
  cases hw : s.control.supplyWarn
  · rw [Control.requestWrite_of_no_warn hw]
    rfl
  · rw [requestWrite, if_pos hw]
    rfl

/-- Settles O51: the answer follows the slot. -/
theorem releaseEmptiesAFinalSlot : Obligations.ReleaseEmptiesAFinalSlot := by
  intro e p sel s h hr hp
  have hexec := exec_of_reader h hr hp
  have himage : (s.taken e).image = s.image := rfl
  have htable : (s.taken e).table = s.table := rfl
  refine ⟨fun hnone => ?_, fun i hi => ⟨fun hslot => ?_, fun st hslot hfinal => ?_, fun st hslot hfinal => ?_⟩⟩
  · refine hexec.trans ?_
    simp only [handlerOf, handleRelease, himage, hnone, serve_noSuch]
  · refine hexec.trans ?_
    simp only [handlerOf, handleRelease, himage, hi, htable, hslot, serve_noSuch]
  · refine hexec.trans ?_
    simp only [handlerOf, handleRelease, himage, hi, htable, hslot, hfinal, if_false, Bool.false_eq_true, serve_plain]
  · have hreleased : handlerOf (.release sel) (s.taken e) = Answer.plain .done st.tenancy (releaseSlot i (s.taken e)) := by
      simp only [handlerOf, handleRelease, himage, hi, htable, hslot, hfinal, if_true]
    refine hexec.trans ?_
    rw [hreleased]
    show Host.Outcome.next (serve e.frame.source p (Answer.plain _ _ (requestWrite _ _ _))) = _
    rw [requestWrite_eq]
    rfl

/-! ## ACK (R193) -/

theorem find_seq {n : Nat} {c : Condition} {before after : List Condition} (hc : c.seq = n) (hne : ∀ x ∈ before ++ after, x.seq ≠ n) :
    (before ++ c :: after).find? (fun x => x.seq == n) = some c := by
  have hbefore : before.find? (fun x => x.seq == n) = none := by
    simpa using fun x hx => hne x (List.mem_append_left _ hx)
  rw [List.find?_append, hbefore]
  simp [hc]

theorem filter_seq {n : Nat} {c : Condition} {before after : List Condition} (hc : c.seq = n) (hne : ∀ x ∈ before ++ after, x.seq ≠ n) :
    (before ++ c :: after).filter (fun x => x.seq != n) = before ++ after := by
  have hkeep : ∀ l : List Condition, (∀ x ∈ l, x ∈ before ++ after) → l.filter (fun x => x.seq != n) = l := fun l hl =>
    List.filter_eq_self.mpr fun x hx => by simpa using hne x (hl x hx)
  rw [List.filter_append, List.filter_cons, hkeep before (fun x hx => by simp [hx]), hkeep after (fun x hx => by simp [hx]),
    if_neg (by simp [hc])]

theorem handleAck_notice {t : State} {n : Nat} {c : Condition} {before after : List Condition}
    (hn : t.cond.notices = before ++ c :: after) (hc : c.seq = n) (hne : ∀ x ∈ before ++ after, x.seq ≠ n) :
    handleAck n t = Answer.plain .done n (countAck (releaseLatch c { t with cond := { t.cond with notices := before ++ after } })) := by
  simp only [handleAck, hn, find_seq hc hne, State.onCond, filter_seq hc hne]

theorem releaseLatch_of_no_pulse {c : Condition} (h : c.cause ≠ .tamper ∨ c.param % 256 ≠ 1) (t : State) : releaseLatch c t = t := by
  have hno : ¬ (c.cause == .tamper && c.param % 256 == 1) = true := by
    obtain h | h := h <;> simp [h]
  rw [releaseLatch, if_neg hno]

theorem releaseLatch_pulse {c : Condition} {ch : ChannelId} (h : c.cause = .tamper) (hparam : c.param = ch.val * 256 + 1) (t : State) :
    releaseLatch c t = t.onChannel ch (fun x => { x with latch := false }) := by
  have hdiv : c.param / 256 = ch.val := by omega
  have hch : (⟨c.param / 256, by omega⟩ : ChannelId) = ch := Fin.ext hdiv
  have hmod : c.param % 256 = 1 := by omega
  rw [releaseLatch, if_pos (by simp [h, hmod]), dif_pos (by omega), hch]

theorem find_seq_none {n : Nat} {l : List Condition} (h : ∀ x ∈ l, x.seq ≠ n) : l.find? (fun x => x.seq == n) = none := by
  simpa using h

theorem faultOutput_of_no_record {t : State} (hm : t.interval.membership ≠ .unconfigured) (h : t.cond.record = none) :
    t.faultOutput = false := by
  simp [State.faultOutput, hm, h]

/-- Settles O52: the number is looked for in the notices, then in the fault record. -/
theorem ackRemovesTheNamedCondition : Obligations.AckRemovesTheNamedCondition := by
  intro e p n s h hr hp acked
  have hexec := exec_of_reader h hr hp
  have hcond : (s.taken e).cond = s.cond := rfl
  refine ⟨fun c before after hn hc hne => ?_, fun r hnone hrec hnames => ?_, fun hnone hrec => ?_⟩
  · have hack := hexec.trans (congrArg (fun a => Host.Outcome.next (serve e.frame.source p a))
      (handleAck_notice (t := s.taken e) hn hc hne))
    refine ⟨fun hcause => hack.trans ?_, fun ch hcause hparam => hack.trans ?_⟩
    · rw [releaseLatch_of_no_pulse (by exact hcause)]
      rfl
    · rw [releaseLatch_pulse hcause hparam]
      rfl
  · have hfound : r.names n = true := by
      obtain hf | ⟨c, hc, hcn⟩ := hnames
      · simp [FaultRecord.names, hf]
      · simp [FaultRecord.names, hc, hcn]
    have hack : handlerOf (.ack n) (s.taken e) =
        Answer.plain .done n (countAck ((s.taken e).onCond (fun u => { u with record := none }))) := by
      simp only [handlerOf, handleAck, hcond, find_seq_none hnone, hrec, hfound, if_true]
    exact ⟨hexec.trans (by rw [hack]; rfl), faultOutput_of_no_record (live_configured h.1) rfl⟩
  · have hack : handlerOf (.ack n) (s.taken e) = Answer.plain .noSuch n (s.taken e) := by
      simp only [handlerOf, handleAck, hcond, find_seq_none hnone]
      cases hc : s.cond.record with
      | none => rfl
      | some r =>
        obtain ⟨hfault, hcompound⟩ := hrec r hc
        have hnot : r.names n = false := by
          cases hcomp : r.compound with
          | none => simp [FaultRecord.names, hfault, hcomp]
          | some c => simp [FaultRecord.names, hfault, hcomp, hcompound c hcomp]
        simp only [hnot, Bool.false_eq_true, if_false]
    exact hexec.trans (by rw [hack, serve_plain])

/-! ## REJOIN and CLEAR-CHECK (R27, R181, R194) -/

/-- A record whose gather the drain has ended (R27, step 1). -/
def gatherEnded (r : Record) : Record := if r.state = .gathering then { r with state := .provisional, gather := none } else r

theorem endGather_eq : Record.endGather = gatherEnded := by
  funext r
  simp [Record.endGather, gatherEnded]

theorem gatherEnded_state (r : Record) : (gatherEnded r).state = if r.state = .gathering then .provisional else r.state := by
  unfold gatherEnded
  split <;> rfl

theorem gatherEnded_number (r : Record) : (gatherEnded r).number = r.number := by
  unfold gatherEnded
  split <;> rfl

theorem settled_gatherEnded (r : Record) : settled (gatherEnded r) = settled r := by
  unfold gatherEnded
  split <;> rfl

theorem setPoolMode_of_no_gathering {s : State} (h : ∀ r ∈ s.ring.records, r.state ≠ .gathering) :
    setPoolMode s = { s with rx := { s.rx with mode := .normal } } := by
  have hno : s.gathering = false := by simpa [State.gathering] using h
  simp only [setPoolMode, hno]
  rfl

/-- The state in which the drain looks for its first record: every gather ended, the pool mode NORMAL. -/
def gathersEnded (s : State) : State :=
  { s with ring := { s.ring with records := s.ring.records.map gatherEnded }, rx := { s.rx with mode := .normal } }

theorem beginDrain_eq (s : State) : beginDrain s = settleNext (gathersEnded s) := by
  have hnone : ∀ r ∈ (s.onRing (fun g => { g with records := g.records.map gatherEnded })).ring.records, r.state ≠ .gathering := by
    intro r hr
    obtain ⟨x, -, rfl⟩ := List.mem_map.mp (by simpa using hr)
    rw [gatherEnded_state]
    split
    · simp
    · next h => exact h
  rw [beginDrain, endGather_eq, setPoolMode_of_no_gathering hnone]
  rfl

/-- The state in which an accepted REJOIN lets the drain look for its first record. -/
theorem handleRejoin_accepted {t : State} (hm : t.interval.membership = .observer) (hd : t.interval.drain = false)
    (hrec : t.cond.record = none) : handleRejoin t = Answer.plain .done t.interval.openNumber
      (settleNext { t with
        cond := { t.cond with counters := { t.cond.counters with rejoins := bump t.cond.counters.rejoins } }
        interval := { t.interval with drain := true }
        ring := { t.ring with records := t.ring.records.map gatherEnded }
        rx := { t.rx with mode := .normal } }) := by
  rw [handleRejoin, if_pos (by simp [State.mayRejoin, hm, hd, hrec]), acceptRejoin, beginDrain_eq]
  rfl

theorem settleNext_of_none {s : State} (h : (∃ r ∈ s.ring.records, r.state = .settling) ∨ ∀ r ∈ s.ring.records, r.state = .opened) :
    settleNext s = s := by
  obtain ⟨r, hr, hst⟩ | hopen := h
  · exact if_pos (List.any_eq_true.mpr ⟨r, hr, by simp [hst]⟩)
  · have hwait : s.waitingRecords = [] := List.filter_eq_nil_iff.mpr fun r hr => by simp [hopen r hr]
    have hnone : s.ring.records.any (fun x => x.state == .settling) = false := by simpa using fun r hr => by simp [hopen r hr]
    rw [settleNext, if_neg (by simp [hnone]), hwait]

/-- Settles O53: a refused REJOIN changes nothing, an accepted one begins the drain. -/
theorem rejoinDrainsAndClearCheckClears : Obligations.RejoinDrainsAndClearCheckClears := by
  intro e p s h hr
  refine ⟨fun hp => ?_, fun hp => (exec_of_reader h hr hp).trans rfl⟩
  have hexec := exec_of_reader h hr hp
  refine ⟨fun hno => ?_, fun hm hd hrec => ?_⟩
  · have hmay : (s.taken e).mayRejoin = false := by
      show (s.interval.membership == .observer && !s.interval.drain && s.cond.record.isNone) = false
      obtain hno | hno | hno := hno <;> simp [Option.isSome_iff_ne_none, hno]
    refine hexec.trans ?_
    rw [handlerOf, handleRejoin, if_neg (by simp [hmay])]
    rfl
  · have hready := hexec.trans (congrArg (fun a => Host.Outcome.next (serve e.frame.source p a))
      (handleRejoin_accepted (t := s.taken e) hm hd hrec))
    refine ⟨fun hnone => ?_, fun r rest hrec hstate hsettling hne => ?_⟩
    · rw [settleNext_of_none] at hready
      · exact hready
      · obtain ⟨r, hr, hst⟩ | hopen := hnone
        · exact .inl ⟨gatherEnded r, List.mem_map_of_mem hr, by simp [gatherEnded_state, hst]⟩
        · refine .inr fun x hx => ?_
          obtain ⟨r, hr, rfl⟩ := List.mem_map.mp hx
          simp [gatherEnded_state, hopen r hr]
    · rw [settleNext_of_head (r := gatherEnded r) (rest := rest.map gatherEnded)] at hready
      · rw [settled_gatherEnded, gatherEnded_number] at hready
        exact hready
      · show s.ring.records.map gatherEnded = _
        rw [hrec, List.map_cons]
      · intro x hx
        obtain ⟨y, hy, rfl⟩ := List.mem_map.mp hx
        simpa [gatherEnded_number] using hne y hy
      · rw [gatherEnded_state]
        split <;> simp [hstate]
      · intro x hx
        obtain ⟨y, hy, rfl⟩ := List.mem_map.mp hx
        rw [gatherEnded_state]
        split <;> simp [hsettling y hy]

end Sys2Proof.Requests

namespace Sys2Proof.Requests

open Sys2Proof Sys2Proof.Machine Sys2Proof.Notices Sys2Proof.ShareLine Sys2Proof.Reception Sys2Proof.RingUnit

/-! ## The lines of a reply (R203, R204, R219) -/

/-- The provisional figures of a band are the sums over the records of that band that count. -/
theorem provisional_eq (s : State) (i : AccountId) (tenancy last : Nat) (p : PoolId) (band : Band) :
    let parts := (s.ring.records.filter (fun r =>
      r.state != .opened && (match (r.accounts.get i).tenancy with | some x => x.number == tenancy | none => false)
        && decide (last < r.number) && r.band == band)).map (fun r => (r.accounts.get i).pools.get p)
    s.provisional i tenancy last p band = ((parts.map (fun y => y.raw.getD 0)).sum, (parts.map (fun y => y.posting.getD 0)).sum) := by
  have hfilter : (s.counting i tenancy last).filter (fun r => r.band == band) = s.ring.records.filter (fun r =>
      r.state != .opened && (match (r.accounts.get i).tenancy with | some x => x.number == tenancy | none => false)
        && decide (last < r.number) && r.band == band) := by
    rw [State.counting, List.filter_filter]
    exact List.filter_congr fun r _ => Bool.and_comm _ _
  simp only [State.provisional, hfilter]

/-- A figure line's bytes; the closing statement's line has the tampered count behind. -/
theorem figureLines_eq (s : State) (i : AccountId) (tenancy : Nat) (x : Settled) (closing : Bool) :
    s.figureLines i tenancy x closing = (s.image.accounts.get i).mask.pools.flatMap (fun pool =>
      ([0, 1, 2, 3] : List Band).map (fun band =>
        let f := (x.figures.get pool).get band
        let parts := (s.ring.records.filter (fun r =>
          r.state != .opened && (match (r.accounts.get i).tenancy with | some y => y.number == tenancy | none => false)
            && decide (x.last < r.number) && r.band == band)).map (fun r => (r.accounts.get i).pools.get pool)
        beBytes 1 (pool.val * 4 + band.val) ++ beBytes 5 f.energy ++ beBytes 6 f.cost
          ++ beBytes 5 (parts.map (fun y => y.raw.getD 0)).sum ++ beBytes 6 (parts.map (fun y => y.posting.getD 0)).sum
          ++ beBytes 2 f.estimated ++ (if closing then beBytes 2 f.tampered else []))) := by
  have hprov := provisional_eq s i tenancy x.last
  simp only [State.figureLines, figureLine, hprov, allBands]

theorem statementLines_taken (s : State) (e : RxEntry) (i : AccountId) : (s.taken e).statementLines i = s.statementLines i := rfl

theorem closingLines_taken (s : State) (e : RxEntry) (i : AccountId) (st : Statement) :
    (s.taken e).closingLines i st = s.closingLines i st := rfl

theorem sectionLines_beyond (s : State) {n : Nat} (h : 14 < n) : s.sectionLines n = none := by
  unfold State.sectionLines
  split
  case h_8 => exact dif_neg (by omega)
  all_goals omega

theorem toNat_eq_ite (b : Bool) : b.toNat = if b then 1 else 0 := by
  cases b <;> rfl

theorem conditionFill_eq (q : List TxFrame) : classFill .condition q = q.countP (fun f => f.body.kind == 2) := by
  refine List.countP_congr fun f _ => ?_
  cases f.body <;> simp [FrameBody.txClass, FrameBody.kind]

theorem seconds_eq : (∀ ms, seconds ms = ms / 1000) ∨ ∀ ms, seconds ms = (ms + 999) / 1000 := by
  cases h : Config.secondsRoundUp
  · exact .inl fun ms => by simp only [seconds, h, Bool.false_eq_true, if_false]
  · exact .inr fun ms => by simp only [seconds, h, if_true]

/-- The kind and the interval that COUNTERS section 3 shows of the head of the queue (R219). -/
def headBytes : List TxFrame → List Byte
  | [] => beBytes 1 0 ++ beBytes 4 0
  | f :: _ => beBytes 1 f.body.kind ++ beBytes 4 (f.body.concerns.getD 0)

theorem lineStateLine_eq (s : State) : s.lineStateLine =
    beBytes 1 s.line.monitor.code ++ beBytes 1 (classFill .close s.line.queue) ++ beBytes 1 (classFill .condition s.line.queue)
      ++ beBytes 1 (classFill .peer s.line.queue) ++ beBytes 1 (classFill .reply s.line.queue)
      ++ beBytes 1 s.line.offers.length ++ headBytes s.line.queue
      ++ beBytes 1 (flagBit 0 s.line.stuckMark + flagBit 1 s.line.dupMark + 4 * s.line.recessive) := by
  cases hq : s.line.queue <;> simp only [State.lineStateLine, headBytes, hq, List.append_assoc]

theorem heldCloseBytes_eq (held : Option HeldClose) : heldCloseBytes held = match held with
    | none => beBytes 8 0
    | some h => beBytes 1 1 ++ beBytes 4 h.interval
      ++ beBytes 1 (match h.cause with | .own => 1 | .foreign => 2 | .implicit => 3 | .jump => 4)
      ++ beBytes 1 (h.station.getD 0) ++ beBytes 1 (match h.source with | .schedule => 0 | .frame b => 4 + b.val) := by
  cases held with
  | none => rfl
  | some h => cases hc : h.cause <;> simp only [heldCloseBytes, hc] <;> rfl

theorem sectionLines_channel (s : State) (ch : ChannelId) : s.sectionLines (7 + ch.val) = some (s.channelLines ch) := by
  fin_cases ch <;> rfl

theorem shownCode_eq (kind : ChannelKind) (c : Channel) : c.shownCode kind =
    if kind = .supply ∨ kind = .off then 0 else if c.sensorFault then 3 else if c.still then 1 else if c.reversed then 2 else 0 := by
  simp [Channel.shownCode]

theorem peerLine_eq (e : Peer) : peerLine e =
    beBytes 1 e.station
      ++ beBytes 1 ((if e.role = .reader then 128 else 0) + (if e.announcedInterval = none then 0 else 64)
        + 16 * peerStateCode e.state + planCode e.plan)
      ++ beBytes 1 e.mask.toNat ++ beBytes 1 e.missed ++ beBytes 1 e.frames ++ beBytes 1 e.noisy
      ++ beBytes 4 e.lastHeard ++ beBytes 4 (e.announcedInterval.getD 0)
      ++ beBytes 1 (match e.announcedMembership with | none => 255 | some m => m.code) := by
  cases hr : e.role <;> cases hi : e.announcedInterval <;> cases hm : e.announcedMembership <;>
    simp only [peerLine, hr, hi, hm] <;> rfl

theorem slotBytes_eq (records : List Record) : slotBytes records =
    records.flatMap (fun r => beBytes 1 r.state.code ++ beBytes 4 r.number) ++ List.replicate (5 * (4 - records.length)) 0#8 := by
  have hempty : beBytes 5 0 = List.replicate 5 0#8 := by decide
  rw [slotBytes, hempty, List.flatten_replicate_replicate, Nat.mul_comm]

/-- Settles O49: each query's handler, then the bytes of each reply's lines. -/
theorem queriesCopyWhatTheyName : Obligations.QueriesCopyWhatTheyName := by
  refine ⟨?_, fun v p => ?_, fun s => ?_, fun s => ?_, fun s => ?_, fun s => ?_⟩
  · intro e p s h hr counting figures status
    have himage : (s.taken e).image = s.image := rfl
    have htable : (s.taken e).table = s.table := rfl
    have hring : (s.taken e).ring = s.ring := rfl
    refine ⟨fun sel hp => ⟨fun hnone => ?_, fun i hi => ?_⟩,
      fun sel hp => ⟨fun hnone => ?_, fun i hi => ⟨fun hslot => ?_, fun st hslot => ?_⟩⟩,
      fun n hp => ⟨fun hno => ?_, fun pool hpool => ⟨fun hmask => ?_, fun v hmask hv => ?_⟩⟩,
      fun hp => (exec_of_reader h hr hp).trans rfl, fun n hp => ⟨fun hn => ?_, fun lines hlines => ?_⟩, fun n hn => ?_,
      fun hp => (exec_of_reader h hr hp).trans rfl, fun hp => (exec_of_reader h hr hp).trans rfl, fun hp => (exec_of_reader h hr hp).trans rfl⟩
    · refine (exec_of_reader h hr hp).trans ?_
      simp only [handlerOf, handleStatement, himage, hnone, serve_noSuch]
    · refine (exec_of_reader h hr hp).trans ?_
      simp only [handlerOf, handleStatement, himage, hi, serve_copied]
      rw [statementLines_taken, State.statementLines, figureLines_eq]
      simp only [Bool.false_eq_true, if_false, List.append_nil]
      rfl
    · refine (exec_of_reader h hr hp).trans ?_
      simp only [handlerOf, handleClosing, himage, hnone, serve_noSuch]
    · refine (exec_of_reader h hr hp).trans ?_
      simp only [handlerOf, handleClosing, himage, hi, htable, hslot, serve_noSuch]
    · refine (exec_of_reader h hr hp).trans ?_
      simp only [handlerOf, handleClosing, himage, hi, htable, hslot, serve_copied]
      rw [closingLines_taken, State.closingLines, figureLines_eq]
      simp only [if_true]
      rfl
    · refine (exec_of_reader h hr hp).trans ?_
      have hpool : handlePool n (s.taken e) = noSuch (s.taken e) := by
        unfold handlePool
        split
        · next hn =>
          have hview : s.ring.view = none := hno.resolve_left (by omega)
          simp only [hring, hview, ite_self]
        · rfl
      simp only [handlerOf, hpool, serve_noSuch]
    · subst hpool
      refine (exec_of_reader h hr hp).trans ?_
      simp only [handlerOf, handlePool, pool.isLt, himage, hmask, dif_pos, Bool.false_eq_true, if_false, serve_noSuch]
    · subst hpool
      refine (exec_of_reader h hr hp).trans ?_
      simp only [handlerOf, handlePool, pool.isLt, himage, hmask, hring, hv, dif_pos, if_true, serve_copied]
    · refine (exec_of_reader h hr hp).trans ?_
      simp only [handlerOf, handleCounters, sectionLines_beyond (s.taken e) hn, serve_noSuch]
    · refine (exec_of_reader h hr hp).trans ?_
      simp only [handlerOf, handleCounters, hlines, serve_copied]
    · interval_cases n <;> rfl
  · intro x bit cause two
    rw [poolLines, pieces_eq 14 (by decide) _ _ le_rfl]
    rw [List.map_map]
    rfl
  · rw [State.rosterLines, funext peerLine_eq, toNat_eq_ite]
    rfl
  · intro nine held all presence
    rw [State.conditionLines, pieces_eq 3 (by decide) _ _ le_rfl, List.map_map]
    have hall : s.conditionList = all := by
      obtain hrec | ⟨r, hrec⟩ := Option.eq_none_or_eq_some s.cond.record
      · simp only [State.conditionList, all, hrec]
        rfl
      · obtain hcomp | ⟨c, hcomp⟩ := Option.eq_none_or_eq_some r.compound <;>
          obtain hlatest | ⟨l, hlatest⟩ := Option.eq_none_or_eq_some r.latest <;>
          simp only [State.conditionList, all, hrec, hcomp, hlatest] <;> rfl
    have hpresence : s.presenceBits = presence := by
      obtain hrec | ⟨r, hrec⟩ := Option.eq_none_or_eq_some s.cond.record
      · simp only [State.presenceBits, presence, hrec]
      · obtain hcomp | ⟨c, hcomp⟩ := Option.eq_none_or_eq_some r.compound <;>
          obtain hlatest | ⟨l, hlatest⟩ := Option.eq_none_or_eq_some r.latest <;>
          simp only [State.presenceBits, presence, hrec, hcomp, hlatest] <;> rfl
    rw [hall, hpresence, conditionFill_eq, toNat_eq_ite]
    rfl
  · refine ⟨captureLines s.check.capture, fun c hc => ?_, fun hc => ?_, ?_⟩
    · rw [hc]
      rfl
    · rw [hc]
      unfold captureLines
      cases Config.absentCaptureLine with
      | none => exact .inl rfl
      | some line => exact .inr ⟨_, rfl, rfl⟩
    · have hcapture : s.check.capture.isSome.toNat = if s.check.capture = none then 0 else 1 := by
        cases s.check.capture <;> rfl
      rw [State.checkLines, hcapture, toNat_eq_ite]
      rfl
  · refine ⟨seconds, seconds_eq, ?_⟩
    intro two u ic rc ec tc lc xc pc oc cc frames
    refine ⟨?_, ?_, rfl, ⟨headBytes s.line.queue, fun hq => by rw [hq]; rfl, fun f rest hq => ?_, ?_⟩, ?_, rfl, rfl, fun ch => ?_⟩
    · show some s.intervalLines = _
      rw [State.intervalLines, toNat_eq_ite, heldCloseBytes_eq]
      rfl
    · show some s.ringLines = _
      rw [State.ringLines, slotBytes_eq, ← List.append_assoc]
      rfl
    · have hhead : headBytes s.line.queue = beBytes 1 f.body.kind ++ beBytes 4 (f.body.concerns.getD 0) := by
        rw [hq]
        rfl
      refine ⟨fun k b hb => ?_, fun k p m hb => ?_, fun b hb => ?_, fun b hb => ?_, fun b hb => ?_, fun a b c d n v hb => ?_⟩
      all_goals rw [hhead, hb]
      · rfl
      · rfl
      · rfl
      · rfl
      · exact ⟨rfl, rfl⟩
      · cases hc : Config.statusFrameConcernsInterval
        · exact .inl (by simp only [FrameBody.concerns, hc]; rfl)
        · exact .inr (by simp only [FrameBody.concerns, hc]; rfl)
    · show some s.lineLines = _
      rw [State.lineLines, lineStateLine_eq]
      rfl
    · show some s.receiveLines = _
      cases hm : s.rx.mode <;> simp only [State.receiveLines, hm] <;> rfl
    · intro c kind
      rw [sectionLines_channel, State.channelLines, shownCode_eq]
      rfl

end Sys2Proof.Requests

namespace Sys2Proof.RingUnit

open Sys2Proof Sys2Proof.Machine Sys2Proof.Notices Sys2Proof.ShareLine Sys2Proof.Reception

/-! ## Several pools of one record -/

theorem four_ext {α : Type} {t u : Four α} (h : ∀ p, t.get p = u.get p) : t = u := by
  obtain ⟨t0, t1, t2, t3⟩ := t
  obtain ⟨u0, u1, u2, u3⟩ := u
  exact (Four.mk.injEq ..).mpr ⟨h 0, h 1, h 2, h 3⟩

/-- The record with each of these pools' parts changed. -/
def eachPool (ps : List PoolId) (f : PoolId → PoolPart → PoolPart) (r : Record) : Record :=
  { r with pools := Four.ofFn (fun p => if p ∈ ps then f p (r.pools.get p) else r.pools.get p) }

theorem eachPool_nil (f : PoolId → PoolPart → PoolPart) (r : Record) : eachPool [] f r = r := by
  have hpools : (Four.ofFn fun p => r.pools.get p) = r.pools := four_ext fun p => by simp
  simp [eachPool, hpools]

theorem eachPool_cons {p : PoolId} {ps : List PoolId} (h : p ∉ ps) (f : PoolId → PoolPart → PoolPart) (r : Record) :
    eachPool (p :: ps) f r = eachPool ps f (Record.onPool p (f p) r) := by
  refine (Record.mk.injEq ..).mpr ⟨rfl, rfl, rfl, rfl, rfl, rfl, rfl, rfl, rfl, rfl, rfl, four_ext fun q => ?_, rfl⟩
  by_cases hq : p = q
  · subst hq
    simp [Record.onPool, Four.get_modify, h]
  · simp [Record.onPool, Four.get_modify, hq, Ne.symm hq]

/-- The record with f done to these of its pool parts. -/
def onPools (ps : List PoolId) (f : PoolPart → PoolPart) (r : Record) : Record := eachPool ps (fun _ => f) r

theorem onPools_nil (f : PoolPart → PoolPart) (r : Record) : onPools [] f r = r := eachPool_nil _ r

theorem onPools_cons {p : PoolId} {ps : List PoolId} (h : p ∉ ps) (f : PoolPart → PoolPart) (r : Record) :
    onPools (p :: ps) f r = onPools ps f (Record.onPool p f r) := eachPool_cons h _ r

theorem get_onPools (ps : List PoolId) (f : PoolPart → PoolPart) (r : Record) (p : PoolId) :
    (onPools ps f r).pools.get p = if p ∈ ps then f (r.pools.get p) else r.pools.get p := by
  simp [onPools, eachPool]

theorem withRecords_self {s : State} {rs : List Record} (h : s.ring.records = rs) : withRecords rs s = s := by
  rw [← h]
  rfl

/-! ## Several frames offered one after another (R149 to R151) -/

/-- The line when these frames have entered the queue in turn. -/
def lineOf (bodies : List FrameBody) (s : State) : Line :=
  if bodies = [] then s.line else s.lineWith (bodies.foldl (fun q b => queued b q) s.line.queue)

theorem queued_isEmpty (b : FrameBody) (q : List TxFrame) : (queued b q).isEmpty = false := by
  cases q with
  | nil => rfl
  | cons g q =>
    unfold queued insertFrame
    split <;> rfl

/-- A second frame behind the first finds the start already held back and counted, or not held back at all. -/
theorem lineWith_lineWith {s : State} {q r : List TxFrame} (hq : q.isEmpty = false) (hr : r.isEmpty = false) :
    ({ s with line := s.lineWith q } : State).lineWith r = s.lineWith r := by
  have hsame : s.holdsStart r = s.holdsStart q := by simp [State.holdsStart, hq, hr]
  have hsecond : ({ s with line := s.lineWith q } : State).holdsStart r = false := by
    show (s.control.supplyWarn && !(s.line.warnCounted || s.holdsStart q) && s.line.monitor == .idle && !r.isEmpty && s.live) = false
    cases h : s.holdsStart q
    · rw [← hsame] at h
      simpa [State.holdsStart] using h
    · simp
  show ({ s.lineWith q with
      queue := r
      warnCounted := (s.lineWith q).warnCounted || ({ s with line := s.lineWith q } : State).holdsStart r
      counters := { (s.lineWith q).counters with
        warnHolds := if ({ s with line := s.lineWith q } : State).holdsStart r then bump (s.lineWith q).counters.warnHolds
          else (s.lineWith q).counters.warnHolds } } : Line) = s.lineWith r
  rw [hsecond]
  simp [State.lineWith, hsame]

theorem queuedAll_isEmpty (b : FrameBody) (bodies : List FrameBody) (q : List TxFrame) :
    ((b :: bodies).foldl (fun q b => queued b q) q).isEmpty = false := by
  induction bodies generalizing b q with
  | nil => exact queued_isEmpty b q
  | cons c bodies ih => exact ih c (queued b q)

theorem lineOf_map (ps : List PoolId) (body : PoolId → FrameBody) (s : State) : lineOf (ps.map body) s =
    if ps = [] then s.line else s.lineWith (ps.foldl (fun q p => queued (body p) q) s.line.queue) := by
  simp [lineOf, List.foldl_map]

@[simp] theorem lineOf_refused (bodies : List FrameBody) (s : State) :
    (lineOf bodies s).counters.txRefused = s.line.counters.txRefused := by
  unfold lineOf
  split <;> rfl

theorem lineOf_cons (b : FrameBody) (bodies : List FrameBody) (s : State) : lineOf (b :: bodies) s = lineOf bodies (enqueue b s) := by
  rw [enqueue_eq]
  cases bodies with
  | nil => rfl
  | cons c bodies => exact (lineWith_lineWith (queued_isEmpty b _) (queuedAll_isEmpty c bodies _)).symm

/-! ## One frame for each of several pools -/

section
variable {s : State} {before after : List Record} {r : Record} {k : Nat} {f : PoolPart → PoolPart}

theorem Has.update_pool (h : Has s before r after k) (f : PoolPart → PoolPart) (p : PoolId) :
    updateRecord k (Record.onPool p f) s = withRecords (before ++ Record.onPool p f r :: after) s := h.update _

/-- A frame enters the queue and its pool's part is marked. -/
def offerIn (k : Nat) (f : PoolPart → PoolPart) (body : PoolId → FrameBody) (s : State) (p : PoolId) : State :=
  updateRecord k (Record.onPool p f) (enqueue (body p) s)

theorem Has.offerIn (h : Has s before r after k) (body : PoolId → FrameBody) (p : PoolId) :
    offerIn k f body s p = withRecords (before ++ Record.onPool p f r :: after) (enqueue (body p) s) :=
  Has.update_pool (s := enqueue (body p) s) ⟨by simpa using h.records, h.number, h.others⟩ f p

theorem Has.foldl_offerIn (h : Has s before r after k) (body : PoolId → FrameBody) {ps : List PoolId} (hps : ps.Nodup) :
    ps.foldl (RingUnit.offerIn k f body) s =
      { withRecords (before ++ onPools ps f r :: after) s with line := lineOf (ps.map body) s } := by
  induction ps generalizing s r with
  | nil =>
    rw [onPools_nil, withRecords_self h.records]
    rfl
  | cons p ps ih =>
    obtain ⟨hp, hps⟩ := List.nodup_cons.mp hps
    have hnext : Has (withRecords (before ++ Record.onPool p f r :: after) (enqueue (body p) s)) before (Record.onPool p f r)
        after k := ⟨rfl, h.number, h.others⟩
    rw [List.foldl_cons, h.offerIn, ih hnext hps, onPools_cons hp, List.map_cons, lineOf_cons, enqueue_eq]
    rfl

end

theorem classFill_queued_peer {b : FrameBody} (hb : b.txClass = .peer) (q : List TxFrame) :
    classFill .peer (queued b q) = classFill .peer q + 1 := by
  simp [classFill, queued, countP_insertFrame, hb]

theorem offerIn_queue (k : Nat) (f : PoolPart → PoolPart) (body : PoolId → FrameBody) (s : State) (p : PoolId) :
    (offerIn k f body s p).line.queue = queued (body p) s.line.queue := by
  simp [offerIn]

/-- Frames of the PEER class offered pool by pool: while the class has room they enter, and then the others are refused. -/
theorem foldl_offers {g refuse : State → PoolId → State} {P : State → Prop} {wants : PoolId → Bool} {k : Nat}
    {f : PoolPart → PoolPart} {body : PoolId → FrameBody} (hbody : ∀ p, (body p).txClass = .peer)
    (hskip : ∀ t p, P t → wants p = false → g t p = t)
    (hroom : ∀ t p, P t → wants p = true → t.hasRoom .peer = true → g t p = offerIn k f body t p)
    (hfull : ∀ t p, P t → wants p = true → t.hasRoom .peer = false → g t p = refuse t p)
    (hoffered : ∀ t p, P t → P (offerIn k f body t p)) (hrefused : ∀ t p, P t → P (refuse t p))
    (hqueue : ∀ t p, (refuse t p).line.queue = t.line.queue) (ps : List PoolId) {s : State} (hs : P s) :
    ps.foldl g s = ((ps.filter wants).drop (8 - classFill .peer s.line.queue)).foldl refuse
      (((ps.filter wants).take (8 - classFill .peer s.line.queue)).foldl (offerIn k f body) s) := by
  induction ps generalizing s with
  | nil => simp
  | cons p ps ih =>
    rw [List.foldl_cons]
    cases hw : wants p
    · rw [hskip s p hs hw, ih hs, List.filter_cons_of_neg (by simp [hw])]
    · rw [List.filter_cons_of_pos hw]
      by_cases hr : s.hasRoom .peer = true
      · have hlt : classFill .peer s.line.queue < 8 := Effects.hasRoom_iff.mp hr
        obtain ⟨n, hn⟩ : ∃ n, 8 - classFill .peer s.line.queue = n + 1 := ⟨7 - classFill .peer s.line.queue, by omega⟩
        rw [hroom s p hs hw hr, ih (hoffered s p hs), offerIn_queue, classFill_queued_peer (hbody p), hn,
          show 8 - (classFill .peer s.line.queue + 1) = n by omega]
        rfl
      · have hge : 8 - classFill .peer s.line.queue = 0 :=
          Nat.sub_eq_zero_of_le (Nat.not_lt.mp fun h => hr (Effects.hasRoom_iff.mpr h))
        rw [hfull s p hs hw (by simpa using hr), ih (hrefused s p hs), hqueue, hge]
        rfl

/-! ## GATHER_EXPIRY (R16) -/

/-- A RECALL that finds the PEER class full is dropped and counted. -/
def dropRecall (s : State) (_ : PoolId) : State :=
  onRingCounters (fun c => { c with recallDropped := bump c.recallDropped }) (refuseOffer s)

theorem foldl_dropRecall (ps : List PoolId) (s : State) : ps.foldl dropRecall s = { s with
    ring := { s.ring with counters := { s.ring.counters with
      recallDropped := bumpBy ps.length s.ring.counters.recallDropped } }
    line := { s.line with counters := { s.line.counters with
      txRefused := bumpBy ps.length s.line.counters.txRefused } } } := by
  induction ps generalizing s with
  | nil => rfl
  | cons p ps ih =>
    rw [List.foldl_cons, ih]
    rfl

def recalledMark (x : PoolPart) : PoolPart := { x with recalled := true }

/-- The RECALL of a pool as the record names its missing stations. -/
def recallOf (k : Nat) (r : Record) (p : PoolId) : FrameBody := .recall k p (stationBits (r.pools.get p).missing)

/-- The record as the recalls of some pools leave it names the same missing stations and is COMPLETE where it was. -/
structure StillMissing (k : Nat) (r : Record) (t : State) : Prop where
  member : t.interval.membership = .member
  held : ∃ before x after, Has t before x after k ∧ ∀ p, (x.pools.get p).complete = (r.pools.get p).complete
    ∧ (x.pools.get p).missing = (r.pools.get p).missing

section
variable {s t : State} {before after : List Record} {r : Record} {k : Nat} {p : PoolId}

theorem StillMissing.offered (h : StillMissing k r t) (body : PoolId → FrameBody) (p : PoolId) :
    StillMissing k r (offerIn k recalledMark body t p) := by
  obtain ⟨hm, before, x, after, hx, hsame⟩ := h
  refine ⟨by simpa [offerIn] using hm, before, Record.onPool p recalledMark x, after, ?_, fun q => ?_⟩
  · rw [hx.offerIn]
    exact ⟨rfl, hx.number, hx.others⟩
  · by_cases hq : p = q
    · subst hq
      simpa [Record.onPool, Four.get_modify, recalledMark, PoolPart.missing, PoolPart.entry] using hsame p
    · simpa [Record.onPool, Four.get_modify, hq] using hsame q

theorem StillMissing.dropped (h : StillMissing k r t) (p : PoolId) : StillMissing k r (dropRecall t p) := by
  obtain ⟨hm, before, x, after, ⟨hrec, hk, hne⟩, hsame⟩ := h
  exact ⟨hm, before, x, after, ⟨hrec, hk, hne⟩, hsame⟩

theorem recallPool_complete (h : StillMissing k r t) (hp : (r.pools.get p).complete = true) : recallPool k t p = t := by
  obtain ⟨hm, before, x, after, hx, hsame⟩ := h
  simp only [recallPool, hx.find, (hsame p).1, hp, Bool.true_or, if_true]

theorem recallPool_room (h : StillMissing k r t) (hp : (r.pools.get p).complete = false) (hroom : t.hasRoom .peer = true) :
    recallPool k t p = offerIn k recalledMark (recallOf k r) t p := by
  obtain ⟨hm, before, x, after, hx, hsame⟩ := h
  obtain ⟨hcomplete, hmissing⟩ := hsame p
  simp only [recallPool, hx.find, hcomplete, hp, hm, bne_self_eq_false, Bool.or_self, Bool.false_eq_true, if_false, hroom, if_true,
    hmissing]
  rfl

theorem recallPool_full (h : StillMissing k r t) (hp : (r.pools.get p).complete = false) (hfull : t.hasRoom .peer = false) :
    recallPool k t p = dropRecall t p := by
  obtain ⟨hm, before, x, after, hx, hsame⟩ := h
  simp only [recallPool, hx.find, (hsame p).1, hp, hm, bne_self_eq_false, Bool.or_self, Bool.false_eq_true, if_false, hfull]
  rfl

end

/-- The record once its gather has ended (R15, R16). -/
def gathered (r : Record) : Record := { r with state := .provisional, gather := none }

theorem Has.finishGather {s : State} {before after : List Record} {r : Record} {k : Nat} (h : Has s before r after k) :
    finishGather k s = { withRecords (before ++ gathered r :: after) s with
      engine := { s.engine with jobs := s.engine.jobs ++ [⟨.compute, k⟩] } } := by
  unfold Machine.finishGather
  rw [h.update]
  rfl

/-- The pool's mode and its count of URGENT entries by whether a record is GATHERING (R164). -/
def moded (gathering : Prop) [Decidable gathering] (x : RxPool) : RxPool :=
  if gathering then
    { x with
      mode := .urgent
      counters := { x.counters with
        urgentEntries := if x.mode = .normal then bump x.counters.urgentEntries else x.counters.urgentEntries } }
  else { x with mode := .normal }

theorem moded_congr {p q : Prop} [Decidable p] [Decidable q] (h : p ↔ q) (x : RxPool) : moded p x = moded q x := by
  by_cases hp : p
  · rw [moded, moded, if_pos hp, if_pos (h.mp hp)]
  · rw [moded, moded, if_neg hp, if_neg (mt h.mpr hp)]

theorem moded_of_urgent {p : Prop} [Decidable p] {x : RxPool} (hp : p) (h : x.mode = .urgent) : moded p x = x := by
  rw [moded, if_pos hp]
  cases x
  obtain rfl := h
  rfl

theorem setPoolMode_eq (s : State) : setPoolMode s = { s with rx := moded (∃ x ∈ s.ring.records, x.state = .gathering) s.rx } := by
  by_cases hg : ∃ x ∈ s.ring.records, x.state = .gathering
  · have hgathering : s.gathering = true := by simpa [State.gathering] using hg
    cases hm : s.rx.mode with
    | normal => simp [setPoolMode, State.onRx, hgathering, moded, hg, hm]
    | urgent =>
      rw [moded_of_urgent hg hm]
      simp [setPoolMode, State.onRx, hgathering, hm]
  · have hgathering : s.gathering = false := by simpa [State.gathering] using hg
    simp only [setPoolMode, State.onRx, hgathering, moded, if_neg hg, Bool.false_eq_true, if_false]

theorem exec_gatherExpiry {s : State} {k : Nat} {r : Record} (hf : s.following = true) (hr : findRecord k s = some r)
    (hst : r.state = .gathering) :
    exec (.gatherExpiry k) s = .next (setPoolMode (finishGather k (s.image.nodePools.foldl (recallPool k) s))) := by
  show execGatherExpiry k s = _
  simp only [execGatherExpiry, hf, hr, hst, beq_self_eq_true, if_true]

theorem missing_eq (x : PoolPart) :
    x.missing = x.expected.filter (fun st => !x.contributors.any (fun e => e.station == st)) := by
  refine List.filter_congr fun st _ => ?_
  cases he : x.entry st with
  | none => simpa [PoolPart.entry] using he
  | some e =>
    have hst : (e.station == st) = true := List.find?_some (p := fun e : Entry => e.station == st) he
    simpa using ⟨e, List.mem_of_find?_eq_some he, by simpa using hst⟩

theorem gathering_elsewhere (before after : List Record) (r : Record) :
    (∃ x ∈ before ++ gathered r :: after, x.state = .gathering) ↔ ∃ x ∈ before ++ after, x.state = .gathering := by
  simp [gathered, or_and_right, exists_or]

/-- The pool mode once the gather of one record has ended depends on the others. -/
theorem setPoolMode_of_gathered {s : State} {before after : List Record} {r : Record}
    (h : s.ring.records = before ++ gathered r :: after) :
    setPoolMode s = { s with rx := moded (∃ x ∈ before ++ after, x.state = .gathering) s.rx } := by
  rw [setPoolMode_eq, moded_congr (q := ∃ x ∈ before ++ after, x.state = .gathering) (by rw [h, gathering_elsewhere])]

/-- Settles O43: the recalls, the end of the gather and the pool mode. -/
theorem gatherExpiryRecallsAndComputes : Obligations.GatherExpiryRecallsAndComputes := by
  intro k r before after s hf hrec hne hk hst incomplete called dropped missing engine ended rx
  have h : Has s before r after k := ⟨hrec, hk, hne⟩
  have hnodup : s.image.nodePools.Nodup := List.Nodup.filter _ (by decide)
  have hexec := exec_gatherExpiry hf h.find hst
  refine ⟨fun hm => ?_, fun hm => ?_⟩
  · intro line
    have hstill : StillMissing k r s := ⟨hm, before, r, after, h, fun p => ⟨rfl, rfl⟩⟩
    have hfold := foldl_offers (g := recallPool k) (refuse := dropRecall) (P := StillMissing k r)
      (wants := fun p => !(r.pools.get p).complete) (k := k) (f := recalledMark) (body := recallOf k r) (fun _ => rfl)
      (fun t p ht hp => recallPool_complete ht (by simpa using hp)) (fun t p ht hp => recallPool_room ht (by simpa using hp))
      (fun t p ht hp => recallPool_full ht (by simpa using hp)) (fun t p ht => ht.offered _ p)
      (fun t p ht => ht.dropped p) (fun t p => rfl) s.image.nodePools hstill
    rw [h.foldl_offerIn _ (List.Nodup.sublist (List.take_sublist _ _) (hnodup.filter _)), foldl_dropRecall] at hfold
    have hbody : recallOf k r = fun p => .recall k p (missing p) := by
      funext p
      rw [recallOf, missing_eq]
      rfl
    simp only [lineOf_refused] at hfold
    rw [hbody, lineOf_map] at hfold
    rw [hexec, hfold, Has.finishGather (before := before) (after := after) (r := onPools called recalledMark r) ⟨rfl, hk, hne⟩,
      setPoolMode_of_gathered (by rfl)]
    rfl
  · have hquiet : s.image.nodePools.foldl (recallPool k) s = s :=
      List.foldl_fixed' (fun p => by simp [recallPool, h.find, hm]) _
    rw [hexec, hquiet, h.finishGather, setPoolMode_of_gathered (by rfl)]
    rfl

end Sys2Proof.RingUnit

namespace Sys2Proof.RingUnit

open Sys2Proof Sys2Proof.Machine Sys2Proof.Notices Sys2Proof.ShareLine Sys2Proof.Reception

/-! ## SEND_TIME_EXPIRY (R11, R12) -/

def sendingMark (x : Sending) (y : PoolPart) : PoolPart := { y with sending := some x }

/-- The SUMMARY of a pool as the history stands in s. -/
def summaryOf (s : State) (r : Record) (p : PoolId) : FrameBody := .summary (s.summaryBody r p false)

/-- A SUMMARY that finds the PEER class full joins the offer list. -/
def listSummary (s : State) (r : Record) (t : State) (p : PoolId) : State :=
  setSending r.number p .offered (listOffer (.summary (s.summaryBody r p false)) t)

@[simp] theorem lineOf_offers (bodies : List FrameBody) (s : State) : (lineOf bodies s).offers = s.line.offers := by
  unfold lineOf
  split <;> rfl

/-- What an offer of a summary reads of the state besides the queue. -/
structure Sends (s : State) (m : Membership) (t : State) : Prop where
  membership : t.interval.membership = m
  history : t.ring.history = s.ring.history

section
variable {s t : State} {before after : List Record} {r : Record} {k : Nat} {p : PoolId} {m : Membership}

theorem summaryBody_congr (h : Sends s m t) : t.summaryBody r p false = s.summaryBody r p false := by
  simp only [State.summaryBody, State.settledEntry, h.history]

theorem offerSummary_skip (hp : (r.pools.get p).sending ≠ some .waiting) : offerSummary r t p = t := by
  rw [offerSummary, if_neg (by simpa using hp)]

theorem offerSummary_room (h : Sends s .member t) (hp : (r.pools.get p).sending = some .waiting)
    (hroom : t.hasRoom .peer = true) :
    offerSummary r t p = offerIn r.number (sendingMark .queued) (summaryOf s r) t p := by
  rw [offerSummary, if_pos (by simpa using hp), if_pos (by simpa using h.membership), if_pos hroom, summaryBody_congr h]
  rfl

theorem offerSummary_full (h : Sends s .member t) (hp : (r.pools.get p).sending = some .waiting)
    (hfull : t.hasRoom .peer = false) : offerSummary r t p = listSummary s r t p := by
  rw [offerSummary, if_pos (by simpa using hp), if_pos (by simpa using h.membership), if_neg (by simp [hfull]), summaryBody_congr h]
  rfl

theorem offerSummary_observer (h : Sends s .observer t) (hp : (r.pools.get p).sending = some .waiting) :
    offerSummary r t p = updateRecord r.number (Record.onPool p (sendingMark .notSent)) t := by
  rw [offerSummary, if_pos (by simpa using hp), if_neg (by simp [h.membership])]
  rfl

theorem Sends.offered (h : Sends s m t) (k : Nat) (f : PoolPart → PoolPart) (body : PoolId → FrameBody) (p : PoolId) :
    Sends s m (offerIn k f body t p) :=
  ⟨by simpa [offerIn] using h.membership, by simpa [offerIn] using h.history⟩

theorem Sends.listed (h : Sends s m t) (p : PoolId) : Sends s m (listSummary s r t p) := ⟨h.membership, h.history⟩

/-- The other summaries go to the offer list, each refusal counted. -/
theorem Has.foldl_listSummary {x : Record} (h : Has t before x after r.number) {ps : List PoolId} (hps : ps.Nodup) :
    ps.foldl (listSummary s r) t = { withRecords (before ++ onPools ps (sendingMark .offered) x :: after) t with
      line := { t.line with
        offers := t.line.offers ++ ps.map (fun p => .summary (s.summaryBody r p false))
        counters := { t.line.counters with txRefused := bumpBy ps.length t.line.counters.txRefused } } } := by
  induction ps generalizing t x with
  | nil =>
    rw [onPools_nil, withRecords_self h.records, List.map_nil, List.append_nil]
    rfl
  | cons p ps ih =>
    obtain ⟨hp, hps⟩ := List.nodup_cons.mp hps
    have hstep : listSummary s r t p = withRecords (before ++ Record.onPool p (sendingMark .offered) x :: after)
        (listOffer (.summary (s.summaryBody r p false)) t) :=
      Has.update_pool (s := listOffer _ t) ⟨h.records, h.number, h.others⟩ _ p
    rw [List.foldl_cons, hstep, ih (x := Record.onPool p (sendingMark .offered) x) ⟨rfl, h.number, h.others⟩ hps, onPools_cons hp,
      List.map_cons]
    simp only [withRecords, listOffer, refuseOffer, onLinkCounters, State.onLine, List.append_assoc, List.singleton_append]
    rfl

/-- Outside MEMBER no summary is sent. -/
theorem Has.foldl_update {x : Record} (h : Has t before x after k) (f : PoolPart → PoolPart) {ps : List PoolId} (hps : ps.Nodup) :
    ps.foldl (fun u p => updateRecord k (Record.onPool p f) u) t = withRecords (before ++ onPools ps f x :: after) t := by
  induction ps generalizing t x with
  | nil => rw [onPools_nil, withRecords_self h.records]; rfl
  | cons p ps ih =>
    obtain ⟨hp, hps⟩ := List.nodup_cons.mp hps
    rw [List.foldl_cons, h.update_pool, ih (x := Record.onPool p f x) ⟨rfl, h.number, h.others⟩ hps, onPools_cons hp]
    rfl

theorem foldl_notSent (ps : List PoolId) (h : Sends s .observer t) : ps.foldl (offerSummary r) t =
    (ps.filter (fun p => decide ((r.pools.get p).sending = some .waiting))).foldl
      (fun u p => updateRecord r.number (Record.onPool p (sendingMark .notSent)) u) t := by
  induction ps generalizing t with
  | nil => rfl
  | cons p ps ih =>
    rw [List.foldl_cons]
    by_cases hp : (r.pools.get p).sending = some .waiting
    · rw [offerSummary_observer h hp, List.filter_cons_of_pos (by simpa using hp), List.foldl_cons]
      exact ih ⟨h.membership, h.history⟩
    · rw [offerSummary_skip hp, List.filter_cons_of_neg (by simpa using hp), ih h]

theorem exec_sendTimeExpiry {ms : Nat} (hf : s.following = true) (hr : findRecord k s = some r) (hsend : r.send = some ms) :
    exec (.sendTimeExpiry k) s =
      .next ((s.ring.records.filter (Record.dueBefore k ms) ++ [r]).foldl sendRunsOut s) := by
  show execSendTimeExpiry k s = _
  simp only [execSendTimeExpiry, hf, hr, hsend]

/-- The record with no send time left. -/
def unsendable (r : Record) : Record := { r with send := none }

theorem Has.sendRunsOut (h : Has s before r after r.number) :
    sendRunsOut s r = s.image.nodePools.foldl (offerSummary r) (withRecords (before ++ unsendable r :: after) s) := by
  rw [Machine.sendRunsOut, h.update]
  rfl

/-- The ring holds this record in its place, its send time run out. -/
def HasUnsendable (before after : List Record) (k : Nat) (u : State) : Prop := ∃ x, Has u before x after k ∧ x.send = none

theorem HasUnsendable.setSending {u : State} (h : HasUnsendable before after k u) (p : PoolId) (a : Sending) :
    HasUnsendable before after k (setSending k p a u) := by
  obtain ⟨x, hx, hsend⟩ := h
  refine ⟨Record.onPool p (sendingMark a) x, ?_, hsend⟩
  rw [show Machine.setSending k p a u = _ from hx.update_pool (sendingMark a) p]
  exact ⟨rfl, hx.number, hx.others⟩

theorem HasUnsendable.offerSummary {u : State} (h : HasUnsendable before after r.number u) (p : PoolId) :
    HasUnsendable before after r.number (offerSummary r u p) := by
  have hring : ∀ v : State, v.ring = u.ring → HasUnsendable before after r.number v := by
    obtain ⟨x, hx, hsend⟩ := h
    exact fun v hv => ⟨x, ⟨hv ▸ hx.records, hx.number, hx.others⟩, hsend⟩
  unfold Machine.offerSummary
  split
  · split
    · split
      · exact (hring _ (by simp)).setSending p _
      · exact (hring _ (by simp)).setSending p _
    · exact h.setSending p _
  · exact h

theorem HasUnsendable.sendRunsOut (h : Has s before r after r.number) : HasUnsendable before after r.number (sendRunsOut s r) := by
  rw [h.sendRunsOut]
  exact Effects.foldl_induction (fun u p hu => hu.offerSummary p) _ ⟨unsendable r, ⟨rfl, rfl, h.others⟩, rfl⟩

theorem dueBefore_of_later {ms : Nat} (h : ∀ m, r.send = some m → ms < m) : r.dueBefore k ms = false := by
  cases hs : r.send with
  | none => simp [Record.dueBefore, hs]
  | some m => simp [Record.dueBefore, hs, h m hs]

/-- The record with these sending states. -/
def withSending (x : PoolId → Option Sending) (r : Record) : Record :=
  { r with send := none, pools := Four.ofFn (fun p => { r.pools.get p with sending := x p }) }

theorem onPools_two {ps qs : List PoolId} (h : ps.Disjoint qs) (a b : Sending) (r : Record) :
    onPools qs (sendingMark b) (onPools ps (sendingMark a) (unsendable r)) =
      withSending (fun p => if p ∈ ps then some a else if p ∈ qs then some b else (r.pools.get p).sending) r := by
  refine (Record.mk.injEq ..).mpr ⟨rfl, rfl, rfl, rfl, rfl, rfl, rfl, rfl, rfl, rfl, rfl, four_ext fun p => ?_, rfl⟩
  by_cases hq : p ∈ qs
  · have hp : p ∉ ps := fun hp => h hp hq
    simp [onPools, eachPool, hp, hq, sendingMark, unsendable]
  · by_cases hp : p ∈ ps <;> simp [onPools, eachPool, hp, hq, sendingMark, unsendable]

theorem onPools_one (ps : List PoolId) (a : Sending) (r : Record) :
    onPools ps (sendingMark a) (unsendable r) = withSending (fun p => if p ∈ ps then some a else (r.pools.get p).sending) r := by
  refine (Record.mk.injEq ..).mpr ⟨rfl, rfl, rfl, rfl, rfl, rfl, rfl, rfl, rfl, rfl, rfl, four_ext fun p => ?_, rfl⟩
  by_cases hp : p ∈ ps <;> simp [hp, sendingMark, unsendable]

end

/-- Settles O42: the summaries enter while there is room and are listed then; an older record that is due goes first. -/
theorem sendTimeExpiryOffersTheSummary : Obligations.SendTimeExpiryOffersTheSummary := by
  refine ⟨?_, ?_⟩
  · intro k ms r before after s hf hrec hne hk hsend holder due body entering listed ring
    subst hk
    have h : Has s before r after r.number := ⟨hrec, rfl, hne⟩
    have hnodup : due.Nodup := List.Nodup.filter _ (List.Nodup.filter _ (by decide))
    have hfirst : s.ring.records.filter (Record.dueBefore r.number ms) = [] := by
      rw [List.filter_eq_nil_iff, hrec]
      intro x hx
      have hnumber : x.number < r.number → x ∈ before ++ after := fun hlt => by
        simpa [show x ≠ r from fun he => by simp [he] at hlt] using hx
      cases hxsend : x.send with
      | none => simp [Record.dueBefore, hxsend]
      | some m => simpa [Record.dueBefore, hxsend] using fun hlt => holder x (hnumber hlt) hlt m hxsend
    have hexec := exec_sendTimeExpiry hf h.find hsend
    rw [hfirst, List.nil_append, List.foldl_cons, List.foldl_nil, h.sendRunsOut] at hexec
    have hHas : Has (withRecords (before ++ unsendable r :: after) s) before (unsendable r) after r.number := ⟨rfl, rfl, hne⟩
    refine ⟨fun hm => ?_, fun hm => ?_⟩
    · intro queue line
      have hfold : s.image.nodePools.foldl (offerSummary r) (withRecords (before ++ unsendable r :: after) s) =
          listed.foldl (listSummary s r) (entering.foldl (offerIn r.number (sendingMark .queued) (summaryOf s r))
            (withRecords (before ++ unsendable r :: after) s)) :=
        foldl_offers (P := Sends s .member) (wants := fun p => decide ((r.pools.get p).sending = some .waiting))
          (fun _ => rfl) (fun t p _ hp => offerSummary_skip (by simpa using hp))
          (fun t p ht hp => offerSummary_room ht (by simpa using hp))
          (fun t p ht hp => offerSummary_full ht (by simpa using hp))
          (fun t p ht => ht.offered _ _ _ p) (fun t p ht => ht.listed p) (fun t p => rfl) s.image.nodePools ⟨hm, rfl⟩
      rw [hHas.foldl_offerIn _ (hnodup.sublist (List.take_sublist _ _)),
        Has.foldl_listSummary (s := s) (r := r) (x := onPools entering (sendingMark .queued) (unsendable r)) ⟨rfl, rfl, hne⟩
          (hnodup.sublist (List.drop_sublist _ _)), onPools_two (List.disjoint_take_drop hnodup le_rfl)] at hfold
      simp only [lineOf_refused, lineOf_offers] at hfold
      rw [lineOf_map] at hfold
      rw [hexec, hfold]
      rfl
    · have hfold : s.image.nodePools.foldl (offerSummary r) (withRecords (before ++ unsendable r :: after) s) =
          due.foldl (fun u p => updateRecord r.number (Record.onPool p (sendingMark .notSent)) u)
            (withRecords (before ++ unsendable r :: after) s) :=
        foldl_notSent _ ⟨hm, rfl⟩
      rw [hHas.foldl_update _ hnodup, onPools_one] at hfold
      rw [hexec, hfold]
      rfl
  · intro k j m ms r x s hf hord hr hsend hx hxsend hjk hms hearlier
    obtain ⟨hxmem, rfl⟩ := RingOrder.findRecord_mem hx
    obtain ⟨-, rfl⟩ := RingOrder.findRecord_mem hr
    obtain ⟨before, after, hrec⟩ := List.append_of_mem hxmem
    have hsorted := hord
    rw [hrec, List.map_append, List.map_cons, List.pairwise_append, List.pairwise_cons] at hsorted
    obtain ⟨-, ⟨hafter, -⟩, hbefore⟩ := hsorted
    have hbelow : ∀ y ∈ before, y.number < x.number := fun y hy => hbefore _ (List.mem_map_of_mem hy) _ (by simp)
    have habove : ∀ y ∈ after, x.number < y.number := fun y hy => hafter _ (List.mem_map_of_mem hy)
    have h : Has s before x after x.number := ⟨hrec, rfl, fun y hy => by
      obtain hy | hy := List.mem_append.mp hy
      · exact (hbelow y hy).ne
      · exact (habove y hy).ne'⟩
    have hlate : ∀ y ∈ before, ∀ n, y.send = some n → ms < n := fun y hy => hearlier y (by simp [hrec, hy]) (hbelow y hy)
    have hnone : ∀ (i n : Nat), n ≤ ms → before.filter (Record.dueBefore i n) = [] := fun i n hn =>
      List.filter_eq_nil_iff.mpr fun y hy => by
        simp [dueBefore_of_later (k := i) (ms := n) fun l hl => hn.trans_lt (hlate y hy l hl)]
    have hfirst : exec (.sendTimeExpiry x.number) s = .next (sendRunsOut s x) := by
      have hrest : (x :: after).filter (Record.dueBefore x.number m) = [] := by
        refine List.filter_eq_nil_iff.mpr fun y hy => ?_
        have hge : x.number ≤ y.number := by
          obtain rfl | hy := List.mem_cons.mp hy
          · exact le_rfl
          · exact (habove y hy).le
        simp [Record.dueBefore, Nat.not_lt.mpr hge]
      rw [exec_sendTimeExpiry hf hx hxsend, hrec, List.filter_append, hnone _ m hms, hrest]
      rfl
    obtain ⟨z, hz, hzsend⟩ := HasUnsendable.sendRunsOut h
    have hfollowing : (sendRunsOut s x).following = true := by simpa [State.following, State.powered] using hf
    have hfound : findRecord r.number (sendRunsOut s x) = some r := by
      rw [← hr, findRecord, findRecord, hz.records, hrec]
      simp [List.find?_append, hz.number, hjk.ne]
    have hdue : x.dueBefore r.number ms = true := by simp [Record.dueBefore, hxsend, hjk, hms]
    refine ⟨_, hfirst, ?_⟩
    rw [exec_sendTimeExpiry hf hr hsend, exec_sendTimeExpiry hfollowing hfound hsend, hrec, hz.records, List.filter_append,
      List.filter_append, hnone _ ms le_rfl, List.filter_cons_of_pos hdue,
      List.filter_cons_of_neg (by simp [Record.dueBefore, hzsend])]
    rfl

end Sys2Proof.RingUnit

namespace Sys2Proof.CrossChecks

open Sys2Proof Sys2Proof.Machine Sys2Proof.Notices Sys2Proof.ShareLine Sys2Proof.Reception Sys2Proof.RingUnit

/-! ## A digest handed to the cross-check unit (R174 to R179) -/

/-- The unit with one pool's counts replaced. -/
def counted (c : CrossCheck) (p : PoolId) (x : CheckCounts) : CrossCheck := { c with counts := c.counts.set p x }

/-- The unit after a mismatch of a pool's digest against the history entry of interval m, with this run. -/
def mismatch (c : CrossCheck) (p : PoolId) (m station : Nat) (own received : Digest) (run runInterval : Nat) : CrossCheck :=
  { counted c p { c.counts.get p with mismatched := bump (c.counts.get p).mismatched } with
    run := run
    runInterval := runInterval
    capture := match c.capture with
      | none => some ⟨m, p, station, own, received⟩
      | some x => some x }

section
variable {s : State} {k station : Nat} {p : PoolId}

theorem settledEntry_eq_none (h : k ≤ 3 ∨ ∀ x ∈ s.ring.history, x.number ≠ k - 3) :
    (if k ≤ 3 then none else s.settledEntry (k - 3)) = none := by
  obtain h | h := h
  · exact if_pos h
  · have hnone : s.settledEntry (k - 3) = none := by simpa [State.settledEntry] using h
    rw [hnone, ite_self]

theorem handDigest_unheld (hmask : s.image.checkMask.has p = false) (h : k ≤ 3 ∨ ∀ x ∈ s.ring.history, x.number ≠ k - 3)
    (d : Option Digest) : handDigest k p station d s = { s with
      check := counted s.check p { s.check.counts.get p with unheld := bump (s.check.counts.get p).unheld } } := by
  rw [handDigest, if_neg (by simp [hmask]), settledEntry_eq_none h]
  rfl

section
variable {e : HistoryEntry}

theorem handDigest_absent (hmask : s.image.checkMask.has p = false) (hk : 3 < k) (he : s.settledEntry (k - 3) = some e) :
    handDigest k p station none s = { s with
      check := counted s.check p { s.check.counts.get p with absent := bump (s.check.counts.get p).absent } } := by
  rw [handDigest, if_neg (by simp [hmask]), if_neg (by omega), he]
  rfl

theorem handDigest_compared (hmask : s.image.checkMask.has p = false) (hk : 3 < k) (he : s.settledEntry (k - 3) = some e) :
    handDigest k p station (some (e.digests.get p)) s = { s with
      check := counted s.check p { s.check.counts.get p with compared := bump (s.check.counts.get p).compared } } := by
  rw [handDigest, if_neg (by simp [hmask]), if_neg (by omega), he]
  exact if_pos rfl

/-- The unit as a mismatch leaves it before the run is judged. -/
def mismatched (c : CrossCheck) (p : PoolId) (m station : Nat) (own received : Digest) : CrossCheck :=
  mismatch c p m station own received c.run c.runInterval

theorem handDigest_mismatched (hmask : s.image.checkMask.has p = false) (hk : 3 < k) (he : s.settledEntry (k - 3) = some e)
    {d : Digest} (hd : d ≠ e.digests.get p) : handDigest k p station (some d) s =
      advanceRun (k - 3) p station { s with check := mismatched s.check p (k - 3) station (e.digests.get p) d } := by
  rw [handDigest, if_neg (by simp [hmask]), if_neg (by omega), he]
  exact if_neg hd

end

/-! ## The run (R178, R179) -/

section
variable {m : Nat}

theorem advanceRun_latched (h : s.check.latch = true) : advanceRun m p station s = s := by
  rw [advanceRun, if_pos h]

theorem advanceRun_below {run runInterval : Nat} (h : s.check.latch = false)
    (hnext : nextRun s.ring.history s.check.run s.check.runInterval m = (run, runInterval)) (hrun : run < 4) :
    advanceRun m p station s = { s with check := { s.check with run := run, runInterval := runInterval } } := by
  rw [advanceRun, if_neg (by simp [h])]
  simp only [hnext]
  rw [if_neg (by omega)]
  rfl

theorem advanceRun_four {run runInterval : Nat} (h : s.check.latch = false)
    (hnext : nextRun s.ring.history s.check.run s.check.runInterval m = (run, runInterval)) (hrun : 4 ≤ run) :
    advanceRun m p station s = raiseFault .disagreement (station * 256 + p.val)
      { s with check := { s.check with run := run, runInterval := runInterval, latch := true } } := by
  rw [advanceRun, if_neg (by simp [h])]
  simp only [hnext]
  rw [if_pos hrun]
  rfl

end

section
variable {h : List HistoryEntry} {run runInterval m : Nat}

theorem nextRun_first (hr : runInterval = 0) : nextRun h run runInterval m = (1, m) := if_pos hr

theorem nextRun_again (hr : runInterval ≠ 0) (hm : m ≤ runInterval) : nextRun h run runInterval m = (run, runInterval) := by
  rw [nextRun, if_neg hr, if_pos hm]

theorem nextRun_restarts (hr : runInterval ≠ 0) (hm : runInterval < m)
    (hgap : (∃ x ∈ h, runInterval < x.number ∧ x.number < m) ∨ ∀ x ∈ h, x.number ≠ runInterval) :
    nextRun h run runInterval m = (1, m) := by
  have hno : follows h runInterval m = false := by
    obtain ⟨x, hx, hlow, hhigh⟩ | hnone := hgap
    · have hany : h.any (fun e => decide (runInterval < e.number ∧ e.number < m)) = true :=
        List.any_eq_true.mpr ⟨x, hx, by simp [hlow, hhigh]⟩
      simp only [follows, hany, Bool.not_true, Bool.and_false]
    · have hany : h.any (fun e => e.number == runInterval) = false := by simpa using hnone
      simp only [follows, hany, Bool.false_and]
  rw [nextRun, if_neg hr, if_neg (by omega), if_neg (by simp [hno])]

theorem nextRun_continues (hr : runInterval ≠ 0) (hm : runInterval < m) (hmem : ∃ x ∈ h, x.number = m)
    (hgap : ¬ ∃ x ∈ h, runInterval < x.number ∧ x.number < m) (hlast : ∃ x ∈ h, x.number = runInterval) :
    nextRun h run runInterval m = (run + 1, m) := by
  have hyes : follows h runInterval m = true := by
    simp only [follows, Bool.and_eq_true, Bool.not_eq_true', List.any_eq_true, List.any_eq_false, decide_eq_true_eq, beq_iff_eq]
    exact ⟨⟨⟨hlast, hmem⟩, hm⟩, fun x hx hb => hgap ⟨x, hx, hb⟩⟩
  rw [nextRun, if_neg hr, if_neg (by omega), if_pos hyes]

/-- Below three the run does not reach four. -/
theorem nextRun_le (hrun : run < 3) : (nextRun h run runInterval m).1 < 4 := by
  unfold nextRun
  split
  · show 1 < 4
    omega
  · split
    · show run < 4
      omega
    · split
      · show run + 1 < 4
        omega
      · show 1 < 4
        omega

end

/-! ## A mismatch and its run -/

section
variable {e : HistoryEntry} {d : Digest}

theorem handDigest_latched (hmask : s.image.checkMask.has p = false) (hk : 3 < k) (he : s.settledEntry (k - 3) = some e)
    (hd : d ≠ e.digests.get p) (h : s.check.latch = true) : handDigest k p station (some d) s = { s with
      check := mismatch s.check p (k - 3) station (e.digests.get p) d s.check.run s.check.runInterval } := by
  rw [handDigest_mismatched hmask hk he hd, advanceRun_latched (by exact h)]
  rfl

theorem handDigest_run {run runInterval : Nat} (hmask : s.image.checkMask.has p = false) (hk : 3 < k)
    (he : s.settledEntry (k - 3) = some e) (hd : d ≠ e.digests.get p) (h : s.check.latch = false)
    (hnext : nextRun s.ring.history s.check.run s.check.runInterval (k - 3) = (run, runInterval)) (hrun : run < 4) :
    handDigest k p station (some d) s = { s with
      check := mismatch s.check p (k - 3) station (e.digests.get p) d run runInterval } := by
  rw [handDigest_mismatched hmask hk he hd, advanceRun_below (by exact h) (by exact hnext) hrun]
  rfl

theorem handDigest_four {run runInterval : Nat} (hmask : s.image.checkMask.has p = false) (hk : 3 < k)
    (he : s.settledEntry (k - 3) = some e) (hd : d ≠ e.digests.get p) (h : s.check.latch = false)
    (hnext : nextRun s.ring.history s.check.run s.check.runInterval (k - 3) = (run, runInterval)) (hrun : 4 ≤ run) :
    handDigest k p station (some d) s = raiseFault .disagreement (station * 256 + p.val) { s with
      check := { mismatch s.check p (k - 3) station (e.digests.get p) d run runInterval with latch := true } } := by
  rw [handDigest_mismatched hmask hk he hd, advanceRun_four (by exact h) (by exact hnext) hrun]
  rfl

theorem exists_number_of_settledEntry (he : s.settledEntry k = some e) : ∃ x ∈ s.ring.history, x.number = k :=
  ⟨e, List.mem_of_find?_eq_some he, by simpa using List.find?_some he⟩

end

/-- The state after the fourth mismatch in a row, in a node that has no fault. -/
def disagreed (s : State) (p : PoolId) (station : Nat) : CondUnit := { s.cond with
  seq := s.nextSeq
  record := some ⟨⟨s.nextSeq, .disagreement, station * 256 + p.val, s.interval.openNumber, .unsent⟩, none, none⟩
  counters := { s.cond.counters with faultsRaised := bump s.cond.counters.faultsRaised } }

theorem raiseDisagreement_first (hm : s.interval.membership ≠ .unconfigured) (hrec : s.cond.record = none) (c : CrossCheck) :
    raiseFault .disagreement (station * 256 + p.val) { s with check := c } =
      { s with check := c, cond := disagreed s p station } := by
  rw [raiseFault_of_configured (by exact hm), placeFault_first (by exact hrec)]
  rfl

/-- Whatever a handed digest brings, short of a fault. -/
theorem handDigest_cases (s : State) (k : Nat) (p : PoolId) (station : Nat) (d : Option Digest) :
    (∃ c, handDigest k p station d s = { s with check := c }) ∨ (s.image.checkMask.has p = false ∧ s.check.latch = false ∧
      3 ≤ s.check.run ∧ ∃ c, handDigest k p station d s = raiseFault .disagreement (station * 256 + p.val) { s with check := c }) := by
  cases hmask : s.image.checkMask.has p
  case true => exact .inl ⟨s.check, handDigest_of_checkMask hmask⟩
  case false =>
  by_cases hheld : k ≤ 3 ∨ ∀ x ∈ s.ring.history, x.number ≠ k - 3
  · exact .inl ⟨_, handDigest_unheld hmask hheld d⟩
  · obtain ⟨hk, hex⟩ : 3 < k ∧ ∃ x ∈ s.ring.history, x.number = k - 3 := by simpa [not_or] using hheld
    obtain ⟨e, he⟩ : ∃ e, s.settledEntry (k - 3) = some e := by
      obtain ⟨x, hx, hnum⟩ := hex
      exact Option.isSome_iff_exists.mp (List.find?_isSome.mpr ⟨x, hx, by simpa using hnum⟩)
    cases d with
    | none => exact .inl ⟨_, handDigest_absent hmask hk he⟩
    | some d =>
      by_cases hd : d = e.digests.get p
      · subst hd
        exact .inl ⟨_, handDigest_compared hmask hk he⟩
      · cases hlatch : s.check.latch
        case true => exact .inl ⟨_, handDigest_latched hmask hk he hd hlatch⟩
        case false =>
        by_cases hrun : (nextRun s.ring.history s.check.run s.check.runInterval (k - 3)).1 < 4
        · exact .inl ⟨_, handDigest_run hmask hk he hd hlatch rfl hrun⟩
        · refine .inr ⟨rfl, rfl, ?_, _, handDigest_four hmask hk he hd hlatch rfl (Nat.not_lt.mp hrun)⟩
          exact Nat.not_lt.mp fun h => hrun (nextRun_le h)

/-- A quiet digest is compared and changes nothing else. -/
theorem handDigest_quiet (h : s.image.checkMask.has p = true ∨ s.check.latch = true ∨ s.check.run < 3) (d : Option Digest) :
    ∃ c, handDigest k p station d s = { s with check := c } := by
  obtain hcheck | ⟨hmask, hlatch, hrun, -⟩ := handDigest_cases s k p station d
  · exact hcheck
  · obtain h | h | h := h
    · simp [hmask] at h
    · simp [hlatch] at h
    · omega

end

/-- A digest handed is judged by R175's table and the run of R178 and R179. -/
theorem handDigest_judged {s : State} {source : Nat} {b : SummaryBody} (hm : s.interval.membership ≠ .unconfigured)
    (hmask : s.image.checkMask.has b.pool = false) :
    s.digestJudged (handDigest b.interval b.pool source b.digest s) source b := by
  refine ⟨fun h => congrArg State.check (handDigest_unheld hmask h b.digest), fun e hk he => ⟨fun hd => ?_, fun hd => ?_, fun d hd hne => ?_⟩⟩
  · rw [hd]
    exact congrArg State.check (handDigest_absent hmask hk he)
  · rw [hd]
    exact congrArg State.check (handDigest_compared hmask hk he)
  rw [hd]
  refine ⟨fun hlatch => congrArg State.check (handDigest_latched hmask hk he hne hlatch), fun hlatch hr => ?_, fun hlatch hr hm4 hrun => ?_,
    fun hlatch hr hlt hgap => ?_, fun hlatch hr hlt hgap hlast => ?_⟩
  · exact congrArg State.check (handDigest_run hmask hk he hne hlatch (nextRun_first hr) (by omega))
  · exact congrArg State.check (handDigest_run hmask hk he hne hlatch (nextRun_again hr hm4) hrun)
  · exact congrArg State.check (handDigest_run hmask hk he hne hlatch (nextRun_restarts hr hlt hgap) (by omega))
  · have hnext := nextRun_continues (run := s.check.run) hr hlt (exists_number_of_settledEntry he) hgap hlast
    refine ⟨fun hrun => congrArg State.check (handDigest_run hmask hk he hne hlatch hnext (by omega)), fun hrun => ?_⟩
    rw [hrun] at hnext
    have hfour := handDigest_four (station := source) hmask hk he hne hlatch (by rw [hrun, hnext]) le_rfl
    refine ⟨?_, fun hrec => ?_⟩
    · rw [hfour, (raiseFault_keeps _ _ _).2.2.2.2.2.2.2.2.1]
      rfl
    · rw [hfour, raiseDisagreement_first hm hrec]
      exact ⟨_, rfl⟩

/-- What is judged depends on the unit, the history and whether a fault is held. -/
theorem digestJudged_congr {s u t : State} {source : Nat} {b : SummaryBody} (hcheck : u.check = s.check)
    (hhistory : u.ring.history = s.ring.history) (hrec : u.cond.record = s.cond.record) (h : u.digestJudged t source b) :
    s.digestJudged t source b := by
  unfold State.digestJudged at h ⊢
  rw [hcheck, hhistory, hrec] at h
  exact h

end Sys2Proof.CrossChecks

namespace Sys2Proof.RingUnit

open Sys2Proof Sys2Proof.Machine Sys2Proof.Notices Sys2Proof.ShareLine Sys2Proof.Reception Sys2Proof.CrossChecks

/-! ## Contributor lists (R4, R14, R20) -/

theorem sumEntries_eq (es : List Entry) : sumEntries es =
    ⟨(es.map (fun e => e.values.e)).sum, (es.map (fun e => e.values.c)).sum, (es.map (fun e => e.values.u)).sum,
      (es.map (fun e => e.values.m)).sum, (es.map (fun e => e.values.a)).sum⟩ := by
  have hfold : ∀ t : Totals, es.foldl (fun t e => t.add e.values) t = t.add
      ⟨(es.map (fun e => e.values.e)).sum, (es.map (fun e => e.values.c)).sum, (es.map (fun e => e.values.u)).sum,
        (es.map (fun e => e.values.m)).sum, (es.map (fun e => e.values.a)).sum⟩ := by
    induction es with
    | nil => exact fun t => rfl
    | cons e es ih =>
      intro t
      rw [List.foldl_cons, ih]
      simp [Totals.add, Nat.add_assoc]
  simpa [sumEntries, Totals.add, Totals.zero] using hfold Totals.zero

/-- The pool part with these contributors, everything that follows the list with it. -/
def listing (all : List Entry) (x : PoolPart) : PoolPart :=
  { x with
    contributors := all
    totals := ⟨(all.map (fun z => z.values.e)).sum, (all.map (fun z => z.values.c)).sum, (all.map (fun z => z.values.u)).sum,
      (all.map (fun z => z.values.m)).sum, (all.map (fun z => z.values.a)).sum⟩
    estimated := all.any (fun z => z.estimated)
    tampered := all.any (fun z => z.tampered) }

theorem refresh_eq (x : PoolPart) (all : List Entry) : PoolPart.refresh { x with contributors := all } = listing all x := by
  rw [PoolPart.refresh, sumEntries_eq]
  rfl

theorem entry_isSome (x : PoolPart) (st : Nat) : (x.entry st).isSome = x.contributors.any (fun e => e.station == st) := by
  rw [PoolPart.entry, Bool.eq_iff_iff, List.find?_isSome, List.any_eq_true]

theorem evaluate_eq (x : PoolPart) : x.evaluate =
    { x with complete := x.complete || x.expected.all (fun st => x.contributors.any (fun e => e.station == st)) } := by
  simp only [PoolPart.evaluate, entry_isSome]

theorem mem_pools {mask : PoolMask} {p : PoolId} : p ∈ mask.pools ↔ mask.has p = true := by
  have hall : p ∈ ([0, 1, 2, 3] : List PoolId) := by fin_cases p <;> decide
  simp only [PoolMask.pools, List.mem_filter, hall, true_and]

theorem allComplete_iff {mask : PoolMask} {r : Record} :
    r.allComplete mask = true ↔ ∀ p, mask.has p = true → (r.pools.get p).complete = true := by
  simp only [Record.allComplete, List.all_eq_true, mem_pools]

/-- The part of a pool in a record of this state, with a new entry at its place (R18, R20). -/
theorem addPeer_eq {st : RecordState} {source : Nat} {b : SummaryBody} {x : PoolPart} {all : List Entry}
    (hall : insertEntry ⟨source, b.values, b.estimated, b.tampered, st == .provisional,
      st != .opened && !x.expected.contains source, false⟩ x.contributors = all) :
    PoolPart.addPeer st source b x = { listing all x with
      complete := x.complete || (st != .opened && x.expected.all (fun n => all.any (fun z => z.station == n))) } := by
  simp only [PoolPart.addPeer, hall, refresh_eq, evaluate_eq]
  by_cases hst : st = .opened
  · subst hst
    simp [listing]
  · have hno : (st == .opened) = false := by simpa using hst
    simp [hno, bne, listing]

theorem markConflict_eq (source : Nat) (x : PoolPart) : x.markConflict source =
    { x with contributors := x.contributors.map (fun z => if z.station = source then { z with conflict := true } else z) } := by
  simp [PoolPart.markConflict]

/-! ## Intake (R17 to R21) -/

section
variable {s u : State} {source : Nat} {b : SummaryBody} {r : Record} {before after : List Record}

theorem placeSummary_intake (hr : findRecord b.interval u = some r)
    (h : r.state = .gathering ∨ r.state = .provisional ∨ r.state = .opened ∧ u.interval.held ≠ none) :
    placeSummary source b u = setPoolMode (intakeInto source b r u) := by
  have hin : intake source b u = setPoolMode (intakeInto source b r u) := by simp only [intake, hr]
  rw [← hin]
  obtain h | h | ⟨h, hheld⟩ := h
  · simp only [placeSummary, hr, h]
  · simp only [placeSummary, hr, h]
  · simp only [placeSummary, hr, h]
    rw [if_pos (by simpa [Option.isSome_iff_ne_none] using hheld)]

theorem refusedAtIntake_of_peer {x : Peer} (hx : u.peer source = some x) : u.refusedAtIntake source = true ↔
    x.role = .reader ∨ x.state = .quarantined ∨ x.plan = .mismatch := by
  simp [State.refusedAtIntake, hx, or_assoc]

theorem intakeInto_refused (h : u.refusedAtIntake source = true) : intakeInto source b r u =
    onRingCounters (fun c => { c with sumRefused := bump c.sumRefused }) u := if_pos h

theorem intakeInto_repeated (h : u.refusedAtIntake source = false) {y : Entry} (hy : (r.pools.get b.pool).entry source = some y) :
    intakeInto source b r u = handDigest b.interval b.pool source b.digest (repeatedSummary source y b u) := by
  rw [intakeInto, if_neg (by simp [h])]
  simp only [hy]

theorem intakeInto_new (h : u.refusedAtIntake source = false) (hy : (r.pools.get b.pool).entry source = none) :
    intakeInto source b r u = handDigest b.interval b.pool source b.digest (newSummary source r b u) := by
  rw [intakeInto, if_neg (by simp [h])]
  simp only [hy]

/-- What an intake leaves as it was. -/
structure Enters (u v : State) : Prop where
  blocks : v = { u with ring := v.ring, engine := v.engine, cond := v.cond, channels := v.channels }
  record : v.cond.record = u.cond.record

theorem raiseNotice_record (c : Cause) (p : Nat) (u : State) : (raiseNotice c p u).cond.record = u.cond.record := by
  have hdisplace : (displaceNotice u).cond.record = u.cond.record := by
    unfold displaceNotice releaseLatch
    (repeat' split) <;> rfl
  unfold raiseNotice raiseNoticeAt
  split
  · rfl
  · exact hdisplace

theorem repeatedSummary_enters (source : Nat) (y : Entry) (b : SummaryBody) (u : State) :
    Enters u (repeatedSummary source y b u) := by
  refine ⟨by rw [state_eq_iff]; simp, ?_⟩
  unfold repeatedSummary
  split
  · rfl
  · dsimp only
    split
    · rfl
    · exact raiseNotice_record ..

theorem newSummary_enters (source : Nat) (r : Record) (b : SummaryBody) (u : State) : Enters u (newSummary source r b u) :=
  ⟨by rw [state_eq_iff]; simp, by simp⟩

/-- A handed digest changes the unit, and the fault record of a node that has no fault. -/
theorem handDigest_calm {k : Nat} {p : PoolId} (hm : u.interval.membership ≠ .unconfigured)
    (h : u.image.checkMask.has p = true ∨ u.check.latch = true ∨ u.check.run < 3 ∨ u.cond.record = none) (d : Option Digest) :
    ∃ c x, handDigest k p source d u = { u with check := c, cond := x } ∧ x.notices = u.cond.notices
      ∧ (u.image.checkMask.has p = true → c = u.check)
      ∧ (u.image.checkMask.has p = true ∨ u.check.latch = true ∨ u.check.run < 3 → x = u.cond) := by
  cases hmask : u.image.checkMask.has p
  case true => exact ⟨u.check, u.cond, handDigest_of_checkMask hmask, rfl, fun _ => rfl, fun _ => rfl⟩
  case false =>
  obtain ⟨c, hc⟩ | ⟨-, hlatch, hrun, c, hc⟩ := handDigest_cases u k p source d
  · exact ⟨c, u.cond, hc, rfl, by simp, fun _ => rfl⟩
  · have hrec : u.cond.record = none := by
      obtain h | h | h | h := h
      · simp [hmask] at h
      · simp [hlatch] at h
      · omega
      · exact h
    refine ⟨c, disagreed u p source, hc.trans (raiseDisagreement_first hm hrec c), rfl, by simp, fun hq => ?_⟩
    obtain h | h | h := hq
    · simp at h
    · simp [hlatch] at h
    · omega

/-! ## What an intake makes of the record -/

/-- The record with a new entry in one pool's list (R20). -/
def filled (r : Record) (b : SummaryBody) (all : List Entry) : Record :=
  { r with
    pools := r.pools.set b.pool { listing all (r.pools.get b.pool) with
      complete := (r.pools.get b.pool).complete
        || (r.state != .opened && (r.pools.get b.pool).expected.all (fun st => all.any (fun z => z.station == st))) }
    compute := if r.state = .provisional ∧ r.compute = .computed then .stale else r.compute }

/-- The entry that a new summary brings (R18, R20). -/
def newEntry (r : Record) (source : Nat) (b : SummaryBody) : Entry :=
  ⟨source, b.values, b.estimated, b.tampered, decide (r.state = .provisional),
    r.state != .opened && !(r.pools.get b.pool).expected.contains source, false⟩

theorem addPeer_record {all : List Entry}
    (hall : insertEntry (newEntry r source b) (r.pools.get b.pool).contributors = all) :
    r.addPeer source b = filled r b all := by
  rw [Record.addPeer, Four.modify, addPeer_eq (all := all) (by exact hall)]
  simp [filled]

/-- The entry joins, and the gather or the compute goes on from there (R15, R20, R40). -/
theorem newSummary_eq (h : Has u before r after b.interval) {all : List Entry}
    (hall : insertEntry (newEntry r source b) (r.pools.get b.pool).contributors = all) :
    newSummary source r b u = if r.state = .provisional then
        requestRecompute b.interval (withRecords (before ++ filled r b all :: after) u)
      else checkGather b.interval (withRecords (before ++ filled r b all :: after) u) := by
  rw [newSummary, h.update, addPeer_record hall]
  simp only [beq_iff_eq]

theorem checkGather_of_state {t : State} {k : Nat} (h : Has t before r after k) (hst : r.state ≠ .gathering) :
    checkGather k t = t := by
  simp only [checkGather, h.find]
  rw [if_neg (by simp [hst])]

theorem checkGather_incomplete {t : State} {k : Nat} (h : Has t before r after k)
    (hno : ¬ ∀ p, t.image.mask.has p = true → (r.pools.get p).complete = true) : checkGather k t = t := by
  simp only [checkGather, h.find]
  rw [if_neg (by rw [Bool.and_eq_true, allComplete_iff]; exact fun hb => hno hb.2)]

theorem checkGather_complete {t : State} {k : Nat} (h : Has t before r after k) (hst : r.state = .gathering)
    (hall : ∀ p, t.image.mask.has p = true → (r.pools.get p).complete = true) : checkGather k t =
      { withRecords (before ++ gathered r :: after) t with engine := { t.engine with jobs := t.engine.jobs ++ [⟨.compute, k⟩] } } := by
  simp only [checkGather, h.find]
  rw [if_pos (by rw [Bool.and_eq_true, allComplete_iff]; exact ⟨by simp [hst], hall⟩), h.finishGather]

/-! ## A RECOMPUTE is requested (R40) -/

/-- The compute job in flight for this record is overtaken. -/
def overtaking (k : Nat) (e : Engine) : Engine :=
  match e.flight with
  | some (.compute j) => if j.interval = k then { e with flight := some (.compute { j with overtaken := true }) } else e
  | _ => e

theorem overtaking_keeps (k : Nat) (e : Engine) : (overtaking k e).jobs = e.jobs ∧ (overtaking k e).counters = e.counters := by
  unfold overtaking
  split
  · split <;> exact ⟨rfl, rfl⟩
  · exact ⟨rfl, rfl⟩

theorem requestRecompute_engine (k : Nat) (u : State) : (requestRecompute k u).engine =
    if u.engine.jobs.any (fun j => j.interval == k && j.kind != .settle) then
      { overtaking k u.engine with counters := { u.engine.counters with
        recomputeCoalesced := bump u.engine.counters.recomputeCoalesced } }
    else { overtaking k u.engine with jobs := u.engine.jobs ++ [⟨.recompute, k⟩] } := by
  obtain ⟨hjobs, hcounters⟩ := overtaking_keeps k u.engine
  have hdef : requestRecompute k u = if u.engine.jobs.any (fun j => j.interval == k && j.kind != .settle) then
      onEngineCounters (fun c => { c with recomputeCoalesced := bump c.recomputeCoalesced }) (u.onEngine (overtaking k))
    else appendJob .recompute k (u.onEngine (overtaking k)) := rfl
  rw [hdef]
  split
  · simp [onEngineCounters, hcounters]
  · simp [appendJob, hjobs]

theorem requestRecompute_appended {k : Nat} (h : ∀ j ∈ u.engine.jobs, j.interval ≠ k ∨ j.kind = .settle) :
    (requestRecompute k u).engine.jobs = u.engine.jobs ++ [⟨.recompute, k⟩] := by
  have hno : u.engine.jobs.any (fun j => j.interval == k && j.kind != .settle) = false := by
    simpa [List.any_eq_false, imp_iff_not_or] using h
  rw [requestRecompute_engine, if_neg (by simp [hno])]

theorem requestRecompute_coalesced {k : Nat} (h : ∃ j ∈ u.engine.jobs, j.interval = k ∧ j.kind ≠ .settle) :
    (requestRecompute k u).engine.jobs = u.engine.jobs
      ∧ (requestRecompute k u).engine.counters.recomputeCoalesced = bump u.engine.counters.recomputeCoalesced := by
  have hyes : u.engine.jobs.any (fun j => j.interval == k && j.kind != .settle) = true := by
    simpa [List.any_eq_true] using h
  rw [requestRecompute_engine, if_pos hyes]
  exact ⟨(overtaking_keeps k u.engine).1, rfl⟩

theorem requestRecompute_overtakes {k : Nat} {j : ComputeJob} (hj : u.engine.flight = some (.compute j)) (hk : j.interval = k) :
    (requestRecompute k u).engine.flight = some (.compute { j with overtaken := true }) := by
  have hflight : (overtaking k u.engine).flight = some (.compute { j with overtaken := true }) := by
    simp only [overtaking, hj, hk, if_true]
  rw [requestRecompute_engine]
  split <;> exact hflight

end

end Sys2Proof.RingUnit

namespace Sys2Proof.RingUnit

open Sys2Proof Sys2Proof.Machine Sys2Proof.Notices Sys2Proof.ShareLine Sys2Proof.Reception Sys2Proof.CrossChecks

section
variable {u : State} {source : Nat} {b : SummaryBody} {r : Record} {before after : List Record}

/-- An intake whose digest meets no held fault: what the record's branch leaves, and then the unit's comparison. -/
theorem intakeInto_calm (hm : u.interval.membership ≠ .unconfigured)
    (h : u.image.checkMask.has b.pool = true ∨ u.check.latch = true ∨ u.check.run < 3 ∨ u.cond.record = none) :
    ∃ v c d, intakeInto source b r u = { v with check := c, cond := d } ∧ Enters u v ∧ d.notices = v.cond.notices
      ∧ (u.image.checkMask.has b.pool = true → c = u.check)
      ∧ (u.image.checkMask.has b.pool = true ∨ u.check.latch = true ∨ u.check.run < 3 → d = v.cond)
      ∧ (u.refusedAtIntake source = true → v = onRingCounters (fun k => { k with sumRefused := bump k.sumRefused }) u
          ∧ d = v.cond)
      ∧ (u.refusedAtIntake source = false → ∀ y, (r.pools.get b.pool).entry source = some y → v = repeatedSummary source y b u)
      ∧ (u.refusedAtIntake source = false → (r.pools.get b.pool).entry source = none → v = newSummary source r b u) := by
  cases hrefused : u.refusedAtIntake source
  case true =>
    exact ⟨onRingCounters (fun k => { k with sumRefused := bump k.sumRefused }) u, u.check, u.cond, intakeInto_refused hrefused, ⟨rfl, rfl⟩, rfl, fun _ => rfl, fun _ => rfl, fun _ => ⟨rfl, rfl⟩,
      by simp, by simp⟩
  case false =>
    have handed : ∀ v, Enters u v → intakeInto source b r u = handDigest b.interval b.pool source b.digest v →
        ∃ c d, intakeInto source b r u = { v with check := c, cond := d } ∧ d.notices = v.cond.notices
          ∧ (u.image.checkMask.has b.pool = true → c = u.check)
          ∧ (u.image.checkMask.has b.pool = true ∨ u.check.latch = true ∨ u.check.run < 3 → d = v.cond) := by
      intro v hv hin
      have hblocks := state_eq_iff.mp hv.blocks
      have himage : v.image = u.image := hblocks.2.2.1
      have hinterval : v.interval = u.interval := hblocks.2.2.2.1
      have hcheck : v.check = u.check := hblocks.2.2.2.2.2.2.2.2.2.2.2.2.1
      obtain ⟨c, d, hd, hnotices, hmask, hquiet⟩ := handDigest_calm (u := v) (source := source) (k := b.interval) (p := b.pool)
        (by rw [hinterval]; exact hm) (by rw [himage, hcheck, hv.record]; exact h) b.digest
      rw [himage, hcheck] at hmask hquiet
      exact ⟨c, d, hin.trans hd, hnotices, hmask, hquiet⟩
    cases hy : (r.pools.get b.pool).entry source with
    | some y =>
      have hv := repeatedSummary_enters source y b u
      obtain ⟨c, d, hin, hnotices, hmask, hquiet⟩ := handed _ hv (intakeInto_repeated hrefused hy)
      exact ⟨_, c, d, hin, hv, hnotices, hmask, hquiet, by simp, fun _ z hz => by rw [Option.some.inj hz], by simp⟩
    | none =>
      have hv := newSummary_enters source r b u
      obtain ⟨c, d, hin, hnotices, hmask, hquiet⟩ := handed _ hv (intakeInto_new hrefused hy)
      exact ⟨_, c, d, hin, hv, hnotices, hmask, hquiet, by simp, by simp, fun _ _ => rfl⟩

/-! ## A repeat (R21) -/

theorem repeatedSummary_same {y : Entry} (h : y.values = b.values ∧ y.estimated = b.estimated ∧ y.tampered = b.tampered) :
    repeatedSummary source y b u = onRingCounters (fun c => { c with sumDuplicate := bump c.sumDuplicate }) u := by
  obtain ⟨hv, he, ht⟩ := h
  exact if_pos (by simp [Entry.sameAs, hv, he, ht])

/-- The ring with the entry's CONFLICT marked. -/
def conflicted (before : List Record) (r : Record) (after : List Record) (source : Nat) (b : SummaryBody) (g : Ring) : Ring :=
  { g with
    counters := { g.counters with sumConflict := bump g.counters.sumConflict }
    records := before ++ { r with
      pools := r.pools.set b.pool { r.pools.get b.pool with
        contributors := (r.pools.get b.pool).contributors.map (fun z =>
          if z.station = source then { z with conflict := true } else z) } } :: after }

theorem repeatedSummary_other {y : Entry} (h : Has u before r after b.interval)
    (hne : ¬ (y.values = b.values ∧ y.estimated = b.estimated ∧ y.tampered = b.tampered)) :
    repeatedSummary source y b u = if y.conflict then { u with ring := conflicted before r after source b u.ring }
      else raiseNotice .summaryConflict (source * 256 + b.pool.val)
        { u with ring := conflicted before r after source b u.ring } := by
  have hno : ¬ y.sameAs b = true := by simpa [Entry.sameAs, and_assoc] using hne
  have hHas : Has (onRingCounters (fun c => { c with sumConflict := bump c.sumConflict }) u) before r after b.interval :=
    ⟨h.records, h.number, h.others⟩
  have hmark : updateRecord b.interval (Record.onPool b.pool (PoolPart.markConflict source))
      (onRingCounters (fun c => { c with sumConflict := bump c.sumConflict }) u) =
      { u with ring := conflicted before r after source b u.ring } := by
    rw [hHas.update, Record.onPool, Four.modify, markConflict_eq]
    rfl
  rw [repeatedSummary, if_neg hno, hmark]

theorem entry_eq_none {x : PoolPart} {lower higher : List Entry} (hc : x.contributors = lower ++ higher)
    (hl : ∀ z ∈ lower, z.station < source) (hh : ∀ z ∈ higher, source < z.station) : x.entry source = none := by
  rw [PoolPart.entry, List.find?_eq_none, hc]
  intro z hz
  obtain hz | hz := List.mem_append.mp hz
  · simpa using (hl z hz).ne
  · simpa using (hh z hz).ne'

end

/-- Settles O44: the record's branch of the intake, and the comparison behind it. -/
theorem summaryIntakeAddsRepeatsOrRefuses : Obligations.SummaryIntakeAddsRepeatsOrRefuses := by
  intro cls e b r x before after s hf he hb hrec hne hk hst hx hcalm quiet source part
  let u : State := { s with rx := s.rx.without e }
  have h : Has u before r after b.interval := ⟨hrec, hk, hne⟩
  have hrefusal := refusedAtIntake_of_peer (u := u) (source := source) hx
  obtain ⟨v, c, d, hin, hv, hnotices, hmask, hquiet, hrefused, hrepeated, hnew⟩ :=
    intakeInto_calm (source := source) (r := r) (live_configured (live_of_following hf) : u.interval.membership ≠ _) hcalm
  obtain ⟨hpending, hcontrol, himage, hinterval, -, -, htable, hstore, -, hroster, hline, hrx, -, -, hresp⟩ :=
    state_eq_iff.mp hv.blocks
  have hexec := (exec_takeSummary hf he hb).trans (congrArg Host.Outcome.next (placeSummary_intake (u := u) h.find hst))
  rw [hin] at hexec
  have htring : (setPoolMode { v with check := c, cond := d }).ring = v.ring := by simp
  have htengine : (setPoolMode { v with check := c, cond := d }).engine = v.engine := by simp
  refine ⟨_, hexec, ?_, ?_, fun hm => ?_, fun hbad => ?_, fun hnode hstate hplan => ?_⟩
  · rw [state_eq_iff]
    simp [hpending, hcontrol, himage, hinterval, htable, hstore, hroster, hline, hresp, u]
  · simp [hrx, u]
  · simpa [u] using hmask hm
  · obtain ⟨hv', hd⟩ := hrefused (hrefusal.mpr hbad)
    simp [hd, hv', onRingCounters, u]
  · have hgood : u.refusedAtIntake source = false := by
      rw [← Bool.not_eq_true, hrefusal]
      simp [hnode, hstate, hplan]
    refine ⟨fun y hy => ?_, fun lower higher hlist hlower hhigher => ?_⟩
    · have hv' := hrepeated hgood y hy
      refine ⟨fun hsame => ?_, fun hother => ?_⟩
      · rw [repeatedSummary_same hsame] at hv'
        refine ⟨by simp [hv', onRingCounters, u], by simp [hv', onRingCounters, u], fun hq => ?_⟩
        simp [hquiet hq, hv', onRingCounters, u]
      · rw [repeatedSummary_other h hother] at hv'
        refine ⟨?_, ?_, fun hconf hq => ?_, fun hconf => ?_⟩
        · have hring : v.ring = conflicted before r after source b u.ring := by rw [hv']; split <;> simp
          exact htring.trans hring
        · have hengine : v.engine = u.engine := by rw [hv']; split <;> simp
          exact htengine.trans hengine
        · rw [if_pos hconf] at hv'
          simp [hquiet hq, hv', u]
        · rw [if_neg (by simp [hconf])] at hv'
          obtain ⟨n, hn⟩ := raiseNotice_notices (s := { u with ring := conflicted before r after source b u.ring })
            (live_configured (live_of_following hf)) .summaryConflict (source * 256 + b.pool.val)
          refine ⟨n, ?_⟩
          simp [hnotices, hv', hn, u]
    · intro entry all filled' ring complete
      have hall : insertEntry (newEntry r source b) (r.pools.get b.pool).contributors = all := by
        rw [show (r.pools.get b.pool).contributors = _ from hlist]
        exact insertEntry_between _ lower higher hlower hhigher
      let w : State := withRecords (before ++ filled r b all :: after) u
      have hw : Has w before (filled r b all) after b.interval := ⟨rfl, hk, hne⟩
      have hv' := hnew hgood (entry_eq_none hlist hlower hhigher)
      rw [newSummary_eq h hall] at hv'
      refine ⟨fun hq => ?_, fun hopen => ?_, fun hgath hno => ?_, fun hgath hyes => ?_, fun hprov => ?_⟩
      · have hcond : v.cond = u.cond := by rw [hv']; split <;> simp [withRecords]
        simp [hquiet hq, hcond, u]
      · rw [if_neg (by simp [hopen]), checkGather_of_state hw (by simp [filled, hopen])] at hv'
        exact ⟨htring.trans (congrArg State.ring hv'), htengine.trans (congrArg State.engine hv' :)⟩
      · rw [if_neg (by simp [hgath]), checkGather_incomplete hw (by exact hno)] at hv'
        exact ⟨htring.trans (congrArg State.ring hv'), htengine.trans (congrArg State.engine hv' :)⟩
      · rw [if_neg (by simp [hgath]), checkGather_complete hw (by exact hgath) (by exact hyes)] at hv'
        refine ⟨htring.trans (congrArg State.ring hv'), htengine.trans (congrArg State.engine hv'), fun hother => ?_⟩
        have hrecords : v.ring.records = before ++ gathered (filled r b all) :: after := by
          rw [hv']
          rfl
        have hmode : ¬ ∃ z ∈ before ++ after, z.state = .gathering := fun ⟨z, hz, hg⟩ => hother z hz hg
        rw [setPoolMode_of_gathered (by exact hrecords), moded, if_neg hmode]
      · rw [if_pos hprov] at hv'
        have hring : v.ring = w.ring := by rw [hv']; simp [w]
        have hengine := htengine.trans (congrArg State.engine hv')
        refine ⟨htring.trans hring, fun hj => ?_, fun hj => ?_, fun j hj hjk => ?_⟩
        · rw [hengine]
          exact requestRecompute_appended (u := w) hj
        · rw [hengine]
          exact requestRecompute_coalesced (u := w) hj
        · rw [hengine]
          exact requestRecompute_overtakes (u := w) hj hjk

end Sys2Proof.RingUnit

namespace Sys2Proof.EngineUnit

open Sys2Proof Sys2Proof.Machine Sys2Proof.Notices Sys2Proof.ShareLine Sys2Proof.Reception Sys2Proof.RingUnit

/-! ## The division (R31 to R35) -/

/-- Parts rounded down one by one add up to no more than the whole rounded down. -/
theorem sum_div_le {α : Type} (n d : Nat) (f : α → Nat) (l : List α) :
    (l.map (fun i => n * f i / d)).sum ≤ n * (l.map f).sum / d := by
  induction l with
  | nil => simp
  | cons x l ih =>
    simp only [List.map_cons, List.sum_cons, Nat.mul_add]
    exact (Nat.add_le_add_left ih _).trans Nat.div_add_div_le_add_div

theorem sum_div_le_of_le {α : Type} {n d : Nat} {f : α → Nat} {l : List α} (h : (l.map f).sum ≤ d) :
    (l.map (fun i => n * f i / d)).sum ≤ n := by
  refine (sum_div_le n d f l).trans ?_
  obtain rfl | hd := Nat.eq_zero_or_pos d
  · simp
  · exact Nat.div_le_of_le_mul (by rw [Nat.mul_comm d]; exact Nat.mul_le_mul_left n h)

/-- The shares of accounts whose areas and energies lie within the divisors add up to no more than the cost. -/
theorem sum_share_le {b divisor : Nat} {t : Totals} {area energy : AccountId → Nat} {l : List AccountId} (hb : b ≤ 100)
    (harea : (l.map area).sum ≤ t.a) (henergy : (l.map energy).sum ≤ divisor) :
    (l.map (fun i => share b t divisor (area i) (energy i))).sum ≤ t.c := by
  have hbase := CostSplit.basePart_le t.c hb
  have hareas := sum_div_le_of_le (n := basePart t.c b) harea
  have hrest : (l.map (fun i => if 0 < divisor then (t.c - basePart t.c b) * energy i / divisor
      else (t.c - basePart t.c b) * area i / t.a)).sum ≤ t.c - basePart t.c b := by
    split
    · exact sum_div_le_of_le henergy
    · exact sum_div_le_of_le harea
  simp only [share, List.sum_map_add]
  omega

theorem posting_le_share (img : Image) (observer : Bool) (j : ComputeJob) (r : Record) (i : AccountId) (p : PoolId) :
    posting img observer j r i p ≤ share (img.pools.get p).base (j.copy.get p) (max (j.copy.get p).m (localWeighted img r p))
      (img.accounts.get i).area (((r.accounts.get i).pools.get p).weighted.getD 0) := by
  unfold posting
  dsimp only
  split
  · exact Nat.zero_le _
  · exact le_rfl

/-- Settles O57: every posting is at most its share, and the shares add up to at most C. -/
theorem postingsNeverExceedTheCost : Obligations.PostingsNeverExceedTheCost := by
  intro img observer j r p hb harea
  exact (List.sum_le_sum fun i _ => posting_le_share img observer j r i p).trans
    (sum_share_le hb harea (le_max_right _ _))

end Sys2Proof.EngineUnit

namespace Sys2Proof.EngineUnit

open Sys2Proof Sys2Proof.Machine Sys2Proof.Notices Sys2Proof.ShareLine Sys2Proof.Reception Sys2Proof.RingUnit

/-! ## Notices raised one after another (R187) -/

/-- Notices of these causes and parameters are raised in turn. -/
def raiseAll (l : List (Cause × Nat)) (s : State) : State := l.foldl (fun t x => raiseNotice x.1 x.2 t) s

theorem raiseAll_append (l m : List (Cause × Nat)) (s : State) : raiseAll (l ++ m) s = raiseAll m (raiseAll l s) :=
  List.foldl_append

@[simp] theorem raiseAll_keeps (l : List (Cause × Nat)) (s : State) :
    (raiseAll l s).pending = s.pending ∧ (raiseAll l s).control = s.control ∧ (raiseAll l s).image = s.image ∧
      (raiseAll l s).interval = s.interval ∧ (raiseAll l s).ring = s.ring ∧ (raiseAll l s).engine = s.engine ∧
      (raiseAll l s).table = s.table ∧ (raiseAll l s).store = s.store ∧ (raiseAll l s).roster = s.roster ∧
      (raiseAll l s).line = s.line ∧ (raiseAll l s).rx = s.rx ∧ (raiseAll l s).check = s.check ∧
      (raiseAll l s).resp = s.resp := by
  induction l generalizing s with
  | nil => simp [raiseAll]
  | cons x l ih => simpa [raiseAll] using ih (raiseNotice x.1 x.2 s)

theorem raiseNotice_withRecords (c : Cause) (p : Nat) (rs : List Record) (s : State) :
    raiseNotice c p (withRecords rs s) = withRecords rs (raiseNotice c p s) := by
  have hrelease : ∀ (x : Condition) (t : State), releaseLatch x (withRecords rs t) = withRecords rs (releaseLatch x t) := by
    intro x t
    unfold releaseLatch
    (repeat' split) <;> rfl
  have honCond : ∀ f, (withRecords rs s).onCond f = withRecords rs (s.onCond f) := fun _ => rfl
  have hdisplace : displaceNotice (withRecords rs s) = withRecords rs (displaceNotice s) := by
    have hcond : (withRecords rs s).cond = s.cond := rfl
    unfold displaceNotice
    rw [hcond]
    split
    · split
      · rw [honCond, hrelease]
      · rfl
    · rfl
  unfold raiseNotice raiseNoticeAt
  rw [hdisplace]
  by_cases hm : (s.interval.membership == .unconfigured) = true
  · rw [if_pos (by exact hm), if_pos hm]
  · rw [if_neg (by exact hm), if_neg hm]
    rfl

/-- What shows of a condition: all but its number. -/
def shown (y : Condition) : Cause × Nat × Nat × CondSending := (y.cause, y.param, y.interval, y.sending)

/-- While there is room the notices join in order, and nothing is displaced. -/
theorem raiseAll_of_room {l : List (Cause × Nat)} {s : State} (hm : s.interval.membership ≠ .unconfigured)
    (h : s.cond.notices.length + l.length ≤ 8) :
    (raiseAll l s).cond.notices.map shown =
        s.cond.notices.map shown ++ l.map (fun x => (x.1, x.2, s.interval.openNumber, CondSending.unsent))
      ∧ (raiseAll l s).cond.record = s.cond.record ∧ (raiseAll l s).channels = s.channels := by
  induction l generalizing s with
  | nil => simp [raiseAll]
  | cons x l ih =>
    have hroom : s.cond.notices.length < 8 := by simp only [List.length_cons] at h; omega
    have hnext := ih (s := raiseNotice x.1 x.2 s) (by simpa using hm) (by
      rw [raiseNotice_of_room hm hroom]
      simp only [List.length_append, List.length_cons, List.length_nil] at h ⊢
      omega)
    have hdef : raiseAll (x :: l) s = raiseAll l (raiseNotice x.1 x.2 s) := rfl
    rw [hdef]
    rw [raiseNotice_of_room hm hroom] at hnext ⊢
    simpa [shown] using hnext

/-! ## The checks of a compute (R35, R36, R44) -/

def orphanPart (c : Totals) (x : PoolPart) : PoolPart :=
  { x with
    orphan := decide (c.a = 0)
    orphanNotice := x.orphanNotice || (decide (c.a = 0) && decide (0 < c.c)) }

def imbalancePart (c : Totals) (x : PoolPart) : PoolPart :=
  { x with imbalance := x.imbalance || (decide (0 < c.e) && decide (c.e + c.e / 16 < c.u)) }

/-- The notice of an orphaned cost, once a record and pool. -/
def orphanNotices (c : Totals) (p : PoolId) (x : PoolPart) : List (Cause × Nat) :=
  if c.a = 0 ∧ 0 < c.c ∧ x.orphanNotice = false then [(.orphanCost, p.val)] else []

/-- The notice of a meter imbalance, once a record and pool. -/
def imbalanceNotices (c : Totals) (p : PoolId) (x : PoolPart) : List (Cause × Nat) :=
  if 0 < c.e ∧ c.e + c.e / 16 < c.u ∧ x.imbalance = false then [(.meterImbalance, p.val)] else []

theorem onPool_congr {p : PoolId} {f g : PoolPart → PoolPart} {x : Record} (h : f (x.pools.get p) = g (x.pools.get p)) :
    Record.onPool p f x = Record.onPool p g x := by
  simp only [Record.onPool, Four.modify, h]

theorem onPool_id (p : PoolId) (x : Record) : Record.onPool p (fun y => y) x = x := by
  refine (Record.mk.injEq ..).mpr ⟨rfl, rfl, rfl, rfl, rfl, rfl, rfl, rfl, rfl, rfl, rfl, four_ext fun q => ?_, rfl⟩
  simp [Four.get_modify]

theorem onPool_onPool (p : PoolId) (f g : PoolPart → PoolPart) (x : Record) :
    Record.onPool p g (Record.onPool p f x) = Record.onPool p (fun y => g (f y)) x := by
  refine (Record.mk.injEq ..).mpr ⟨rfl, rfl, rfl, rfl, rfl, rfl, rfl, rfl, rfl, rfl, rfl, four_ext fun q => ?_, rfl⟩
  by_cases hq : p = q <;> simp [Record.onPool, Four.get_modify, hq]

section
variable {t : State} {before after : List Record} {x : Record} {k : Nat}

theorem orphanCheck_eq (h : Has t before x after k) (c : Totals) (p : PoolId) : orphanCheck k c p t =
    withRecords (before ++ Record.onPool p (orphanPart c) x :: after) (raiseAll (orphanNotices c p (x.pools.get p)) t) := by
  have hupdate : ∀ (y : Record) (f : PoolPart → PoolPart), y.number = k →
      updateRecord k (Record.onPool p f) (withRecords (before ++ y :: after) t) =
        withRecords (before ++ Record.onPool p f y :: after) t := fun y f hy =>
    Has.update_pool (s := withRecords (before ++ y :: after) t) ⟨rfl, hy, h.others⟩ f p
  unfold orphanCheck
  by_cases ha : c.a = 0
  · simp only [ha, if_true, h.find, h.update_pool, hupdate _ _ (show (Record.onPool p _ x).number = k from h.number), onPool_onPool]
    by_cases hraise : 0 < c.c ∧ (x.pools.get p).orphanNotice = false
    · obtain ⟨hc, hmark⟩ := hraise
      have hnotices : orphanNotices c p (x.pools.get p) = [(.orphanCost, p.val)] := if_pos ⟨ha, hc, hmark⟩
      rw [hnotices, if_pos (by simp [hc, hmark]), raiseNotice_withRecords,
        onPool_congr (g := orphanPart c) (by simp [orphanPart, ha, hc])]
      rfl
    · have hpart : (x.pools.get p).orphanNotice = ((x.pools.get p).orphanNotice || decide (0 < c.c)) := by
        cases hmark : (x.pools.get p).orphanNotice
        · simpa [hmark] using hraise
        · rfl
      have hnotices : orphanNotices c p (x.pools.get p) = [] := if_neg fun hb => hraise hb.2
      rw [hnotices, if_neg (by simpa using hraise),
        onPool_congr (g := orphanPart c) (by simp [orphanPart, ha, ← hpart])]
      rfl
  · rw [if_neg ha, h.update_pool, orphanNotices, if_neg (fun hb => ha hb.1),
      onPool_congr (g := orphanPart c) (by simp [orphanPart, ha])]
    rfl

theorem imbalanceCheck_eq (h : Has t before x after k) (c : Totals) (p : PoolId) : imbalanceCheck k c p t =
    withRecords (before ++ Record.onPool p (imbalancePart c) x :: after) (raiseAll (imbalanceNotices c p (x.pools.get p)) t) := by
  simp only [imbalanceCheck, h.find, h.update_pool]
  by_cases hraise : 0 < c.e ∧ c.e + c.e / 16 < c.u ∧ (x.pools.get p).imbalance = false
  · obtain ⟨he, hu, hmark⟩ := hraise
    have hnotices : imbalanceNotices c p (x.pools.get p) = [(.meterImbalance, p.val)] := if_pos ⟨he, hu, hmark⟩
    rw [hnotices, if_pos (by simp [he, hu, hmark]), raiseNotice_withRecords,
      onPool_congr (g := imbalancePart c) (by simp [imbalancePart, he, hu])]
    rfl
  · have hpart : imbalancePart c (x.pools.get p) = x.pools.get p := by
      have hmark : ((x.pools.get p).imbalance || (decide (0 < c.e) && decide (c.e + c.e / 16 < c.u))) = (x.pools.get p).imbalance := by
        cases hi : (x.pools.get p).imbalance
        · simpa [hi] using hraise
        · rfl
      rw [imbalancePart, hmark]
    have hnotices : imbalanceNotices c p (x.pools.get p) = [] := if_neg hraise
    rw [hnotices, if_neg (by simpa [and_assoc] using hraise), onPool_congr (g := fun y => y) hpart, onPool_id]
    exact (withRecords_self h.records).symm

/-- A pool part after both checks. -/
def checkedPart (c : Totals) (x : PoolPart) : PoolPart := imbalancePart c (orphanPart c x)

/-- The notices of both checks of a pool, ORPHAN_COST first. -/
def poolNotices (c : Totals) (p : PoolId) (x : PoolPart) : List (Cause × Nat) := orphanNotices c p x ++ imbalanceNotices c p x

theorem raiseAll_withRecords (l : List (Cause × Nat)) (rs : List Record) (t : State) :
    raiseAll l (withRecords rs t) = withRecords rs (raiseAll l t) := by
  induction l generalizing t with
  | nil => rfl
  | cons y l ih => exact (congrArg (raiseAll l) (raiseNotice_withRecords y.1 y.2 rs t)).trans (ih _)

theorem checkPool_eq (h : Has t before x after k) (c : Totals) (p : PoolId) : imbalanceCheck k c p (orphanCheck k c p t) =
    withRecords (before ++ Record.onPool p (checkedPart c) x :: after) (raiseAll (poolNotices c p (x.pools.get p)) t) := by
  have hHas : Has (orphanCheck k c p t) before (Record.onPool p (orphanPart c) x) after k := by
    rw [orphanCheck_eq h]
    exact ⟨rfl, h.number, h.others⟩
  have hsame : imbalanceNotices c p ((Record.onPool p (orphanPart c) x).pools.get p) = imbalanceNotices c p (x.pools.get p) := by
    simp only [Record.onPool, Four.get_modify, if_true]
    rfl
  rw [imbalanceCheck_eq hHas, hsame, orphanCheck_eq h, onPool_onPool, raiseAll_withRecords, poolNotices, raiseAll_append]
  rfl

/-- Pool by pool, the parts are checked and the notices raised in order. -/
theorem foldl_checkPool (h : Has t before x after k) (copy : PoolId → Totals) {ps : List PoolId} (hps : ps.Nodup) :
    ps.foldl (fun u p => imbalanceCheck k (copy p) p (orphanCheck k (copy p) p u)) t =
      withRecords (before ++ eachPool ps (fun p => checkedPart (copy p)) x :: after)
        (raiseAll (ps.flatMap (fun p => poolNotices (copy p) p (x.pools.get p))) t) := by
  induction ps generalizing t x with
  | nil =>
    rw [eachPool_nil]
    exact (withRecords_self h.records).symm
  | cons p ps ih =>
    obtain ⟨hp, hps⟩ := List.nodup_cons.mp hps
    have hHas : Has (withRecords (before ++ Record.onPool p (checkedPart (copy p)) x :: after)
        (raiseAll (poolNotices (copy p) p (x.pools.get p)) t)) before (Record.onPool p (checkedPart (copy p)) x) after k :=
      ⟨rfl, h.number, h.others⟩
    have hrest : ps.flatMap (fun q => poolNotices (copy q) q ((Record.onPool p (checkedPart (copy p)) x).pools.get q)) =
        ps.flatMap (fun q => poolNotices (copy q) q (x.pools.get q)) :=
      List.flatMap_congr fun q hq => by
        have hne : p ≠ q := fun he => hp (he ▸ hq)
        simp only [Record.onPool, Four.get_modify, if_neg hne]
    rw [List.foldl_cons, checkPool_eq h, ih hHas hps, eachPool_cons hp, hrest, raiseAll_withRecords, List.flatMap_cons,
      raiseAll_append]
    rfl

/-! ## A compute job completes (R44) -/

/-- The record with the postings and the compute state of the job (R44, step 1). -/
def computed (s : State) (j : ComputeJob) (r : Record) : Record :=
  { r.posted s.image (s.interval.membership == .observer) j with compute := if j.overtaken then .stale else .computed }

/-- The notices of a compute, pool by pool. -/
def computeNotices (s : State) (j : ComputeJob) (r : Record) : List (Cause × Nat) :=
  s.image.nodePools.flatMap (fun p => poolNotices (j.copy.get p) p (r.pools.get p))

theorem completeCompute_eq {s : State} {j : ComputeJob} {r : Record} {before after : List Record}
    (h : Has s before r after j.interval) : completeCompute j s =
      { withRecords (before ++ eachPool s.image.nodePools (fun p => checkedPart (j.copy.get p)) (computed s j r) :: after)
          (raiseAll (computeNotices s j r) s) with
        engine := { s.engine with
          flight := none
          counters := { s.engine.counters with
            mSubstituted := bumpBy (s.image.nodePools.filter (substitutesM s.image (s.interval.membership == .observer) j r)).length
              s.engine.counters.mSubstituted
            staleResults := if j.overtaken then bump s.engine.counters.staleResults else s.engine.counters.staleResults } } } := by
  have hnodup : s.image.nodePools.Nodup := List.Nodup.filter _ (by decide)
  have hHas : Has (withRecords (before ++ computed s j r :: after) s) before (computed s j r) after j.interval :=
    ⟨rfl, h.number, h.others⟩
  have hfold := foldl_checkPool hHas (fun p => j.copy.get p) hnodup
  rw [raiseAll_withRecords] at hfold
  have hstart : completeCompute j s = (s.image.nodePools.foldl
      (fun u p => imbalanceCheck j.interval (j.copy.get p) p (orphanCheck j.interval (j.copy.get p) p u))
      (withRecords (before ++ computed s j r :: after) s)).onEngine (fun e => { e with
        flight := none
        counters := { e.counters with
          mSubstituted := bumpBy (s.image.nodePools.filter (substitutesM s.image (s.interval.membership == .observer) j r)).length
            e.counters.mSubstituted
          staleResults := if j.overtaken then bump e.counters.staleResults else e.counters.staleResults } }) := by
    simp only [completeCompute, h.find, h.update]
    rfl
  have hengine : (raiseAll (computeNotices s j r) s).engine = s.engine := by simp
  rw [hstart, hfold, ← hengine]
  rfl

/-! ## The postings (R32 to R37) -/

theorem get_posted (img : Image) (observer : Bool) (j : ComputeJob) (r : Record) (i : AccountId) (p : PoolId) :
    ((r.posted img observer j).accounts.get i).tenancy = (r.accounts.get i).tenancy
      ∧ ((r.posted img observer j).accounts.get i).pools.get p = { (r.accounts.get i).pools.get p with
        posting := if img.takesPart i p then some (posting img observer j r i p) else ((r.accounts.get i).pools.get p).posting } := by
  simp only [Record.posted, Table.get_ofFn, Four.get_ofFn, true_and]
  split <;> rfl

theorem share_eq (b divisor a m : Nat) (t : Totals) : share b t divisor a m =
    t.c * b / 100 * a / t.a + (if divisor = 0 then (t.c - t.c * b / 100) * a / t.a else (t.c - t.c * b / 100) * m / divisor) := by
  obtain rfl | hd := Nat.eq_zero_or_pos divisor
  · simp [share, basePart]
  · simp [share, basePart, hd, hd.ne']

theorem posting_zero {img : Image} {observer : Bool} {j : ComputeJob} {r : Record} {i : AccountId} {p : PoolId}
    (h : observer = true ∨ (j.copy.get p).a = 0 ∨ j.damaged.get i = true) : posting img observer j r i p = 0 :=
  if_pos (by simpa [or_assoc] using h)

theorem posting_share {img : Image} {observer : Bool} {j : ComputeJob} {r : Record} {i : AccountId} {p : PoolId}
    (h : ¬ (observer = true ∨ (j.copy.get p).a = 0 ∨ j.damaged.get i = true)) : posting img observer j r i p =
      share (img.pools.get p).base (j.copy.get p) (max (j.copy.get p).m (localWeighted img r p)) (img.accounts.get i).area
        (((r.accounts.get i).pools.get p).weighted.getD 0) :=
  if_neg (by simpa [or_assoc] using h)

end

/-- Settles O55: the postings, the checks and the notices of the one record of the job. -/
theorem computeJobPostsTheShares : Obligations.ComputeJobPostsTheShares := by
  intro j r before after s hp hs hflight hrec hk hne
  have h : Has s before r after j.interval := ⟨hrec, hk, hne⟩
  have hexec : exec .computeJobComplete s = .next (completeCompute j s) := by
    show execComputeJobComplete s = _
    simp only [execComputeJobComplete, Control.powered_iff.mpr hp, hflight]
  have hring : s.hasRing := RingOrder.hasRing_of_mem hs (r := r) (by simp [hrec])
  have hm : s.interval.membership ≠ .unconfigured := by
    obtain hm | hm := hring <;> simp [hm]
  rw [completeCompute_eq h] at hexec
  refine ⟨_, eachPool s.image.nodePools (fun p => checkedPart (j.copy.get p)) (computed s j r), hexec, ?_, ?_, rfl, rfl, rfl, rfl, ?_, ?_,
    fun i p => ?_, fun p => ?_, ?_⟩
  · rw [state_eq_iff]
    simp [withRecords]
  · simp [withRecords]
  · rfl
  · rfl
  · intro c m taking divisor base area
    obtain ⟨htenancy, hpool⟩ := get_posted s.image (s.interval.membership == .observer) j r i p
    refine ⟨htenancy, hpool.trans ?_⟩
    have htaking : taking i = s.image.takesPart i p := rfl
    by_cases htake : s.image.takesPart i p = true
    · rw [if_pos htake, if_neg (by rw [htaking, htake]; simp)]
      by_cases hzero : s.interval.membership = .observer ∨ c.a = 0 ∨ j.damaged.get i = true
      · rw [if_pos hzero, posting_zero (by simpa using hzero)]
      · rw [if_neg hzero, posting_share (by simpa using hzero), share_eq]
        rfl
    · rw [if_neg htake, if_pos (by rw [htaking]; simpa using htake)]
  · intro c part
    simp only [eachPool, Four.get_ofFn, Image.nodePools, mem_pools]
    rfl
  · intro orphaned unbalanced notice shown' raised
    have hraised : raised = (computeNotices s j r).map (fun x => ⟨0, x.1, x.2, s.interval.openNumber, .unsent⟩) := by
      rw [computeNotices, List.map_flatMap]
      refine List.flatMap_congr fun p _ => ?_
      rw [poolNotices, List.map_append, orphanNotices, imbalanceNotices, apply_ite (List.map _), apply_ite (List.map _)]
      rfl
    have hnil : raised = [] → computeNotices s j r = [] := fun hno => List.map_eq_nil_iff.mp (hraised ▸ hno)
    have honly : ∀ p, s.image.mask.pools = [p] → computeNotices s j r = poolNotices (j.copy.get p) p (r.pools.get p) := by
      intro p hpools
      rw [computeNotices, show s.image.nodePools = [p] from hpools, List.flatMap_singleton]
    refine ⟨fun hno => ?_, fun hroom => ?_, fun hroom p hpools => ⟨fun ho hu => ?_, fun ho hu => ?_⟩⟩
    · rw [hnil hno]
      exact ⟨rfl, rfl⟩
    · rw [hraised, List.length_map] at hroom
      obtain ⟨hshown, hrecord, hchannels⟩ := raiseAll_of_room hm hroom
      refine ⟨?_, hrecord, hchannels⟩
      rw [hraised, List.map_map]
      exact hshown
    · have hone : computeNotices s j r = [(.orphanCost, p.val)] := by
        rw [honly p hpools, poolNotices, orphanNotices, if_pos (by exact ho), imbalanceNotices, if_neg (by exact hu)]
        rfl
      rw [hone]
      exact congrArg State.cond (raiseNotice_of_room hm hroom .orphanCost p.val)
    · have hone : computeNotices s j r = [(.meterImbalance, p.val)] := by
        rw [honly p hpools, poolNotices, orphanNotices, if_neg (by exact ho), imbalanceNotices, if_pos (by exact hu)]
        rfl
      rw [hone]
      exact congrArg State.cond (raiseNotice_of_room hm hroom .meterImbalance p.val)

end Sys2Proof.EngineUnit

namespace Sys2Proof.EngineUnit

open Sys2Proof Sys2Proof.Machine Sys2Proof.Notices Sys2Proof.ShareLine Sys2Proof.Reception Sys2Proof.RingUnit Sys2Proof.Requests

/-! ## The SETTLE job's writes (R48, R49) -/

/-- The job as it waits for a write that it has requested. -/
def awaiting (j : SettleJob) (w : SettleWrite) : SettleJob := { j with waiting := some w, absorbed := false, heldByWarning := false }

section
variable {s : State} {j : SettleJob}

theorem requested_awaited (w : StoreWrite) (q : List StoreRequest) :
    requested w true q = q.filter (fun x => x.write.recordNumber != w.recordNumber) ++ [⟨w, true⟩] := rfl

theorem awaitWrite_of_no_warn (h : s.control.supplyWarn = false) (w : SettleWrite) : awaitWrite j w s = { s with
    store := { s.store with queue := requested (s.settleContents j.interval w) true s.store.queue }
    engine := { s.engine with flight := some (.settle (awaiting j w)) } } := by
  rw [awaitWrite, if_neg (by simp [h]), requestWrite_eq]
  simp only [setFlight, State.onEngine, h, Bool.false_eq_true, if_false]
  rfl

theorem settleFinals_nil (h : s.control.supplyWarn = false) : settleFinals j s [] = { s with
    store := { s.store with queue := requested (.node j.interval) true s.store.queue }
    engine := { s.engine with flight := some (.settle (awaiting { j with accountsLeft := [], finalsLeft := [] } .node)) } } :=
  awaitWrite_of_no_warn h .node

theorem settleFinals_cons (h : s.control.supplyWarn = false) (i : AccountId) (left : List AccountId) :
    settleFinals j s (i :: left) = { s with
      store := { s.store with
        queue := requested (.statement i ((s.table.slots.get i).map (fun st => { st with final := true }))) true s.store.queue }
      engine := { s.engine with
        flight := some (.settle (awaiting { j with accountsLeft := [], finalsLeft := left } (.final i))) } } :=
  awaitWrite_of_no_warn h (.final i)

end

/-! ## A completed write -/

section
variable {s : State} {q : StoreRequest}

/-- The state with the write in the store. -/
def committed (q : StoreRequest) (s : State) : State :=
  { s with store := ⟨s.store.contents.commit q.write, none, s.store.queue⟩ }

theorem exec_storeWriteComplete (hl : s.live = true) (hw : s.store.writing = some q) :
    exec .storeWriteComplete s = .next (afterWrite q (committed q s)) := by
  show execStoreWriteComplete s = _
  simp only [execStoreWriteComplete, live_powered hl, hw]
  rfl

theorem exec_awaitedWrite (hl : s.live = true) (hw : s.store.writing = some q) (ha : q.awaited = true)
    (hr : s.control.resetLatched = false) : exec .storeWriteComplete s = .next (settleWriteDone (committed q s)) := by
  rw [exec_storeWriteComplete hl hw, afterWrite, if_neg (by exact (Bool.not_eq_true _).mpr hr), if_pos ha]

end

section
variable {s : State} {j : SettleJob}

/-- With no account left the job goes on to the statements that become FINAL, whether its record is still held or not. -/
theorem settleWriteDone_step {i : AccountId} {onStatement : Bool} {x : Settled} (hf : s.engine.flight = some (.settle j))
    (hw : j.waiting = some (.step i onStatement x)) (hleft : j.accountsLeft = []) :
    settleWriteDone s = settleFinals j (takeSettled j (.step i onStatement x) s)
      ((takeSettled j (.step i onStatement x) s).finalsOf j.interval) := by
  simp only [settleWriteDone, hf, hw, hleft]
  split <;> rfl

theorem settleWriteDone_final {i : AccountId} (hf : s.engine.flight = some (.settle j)) (hw : j.waiting = some (.final i)) :
    settleWriteDone s = settleFinals j (takeSettled j (.final i) s) j.finalsLeft := by
  simp only [settleWriteDone, hf, hw]

theorem settleWriteDone_node (hf : s.engine.flight = some (.settle j)) (hw : j.waiting = some .node) :
    settleWriteDone s = setFlight (some (.settle { j with waiting := none })) (takeSettled j .node s) := by
  simp only [settleWriteDone, hf, hw]

/-- The table as a step's write gives it its figures (R48). -/
def stepTable (i : AccountId) (onStatement : Bool) (x : Settled) (t : AccountTable) : AccountTable :=
  if onStatement then { t with slots := t.slots.set i ((t.slots.get i).map (fun st => { st with settled := x })) }
  else { t with accounts := t.accounts.set i { t.accounts.get i with settled := x } }

theorem takeSettled_step (habs : j.absorbed = false) (i : AccountId) (onStatement : Bool) (x : Settled) :
    takeSettled j (.step i onStatement x) s = { s with table := stepTable i onStatement x s.table } := by
  cases onStatement
  · rw [takeSettled, if_neg (by simp [habs])]
    rfl
  · rfl

/-- A step changes no statement's cut interval. -/
theorem finalsOf_step (k : Nat) (i : AccountId) (onStatement : Bool) (x : Settled) :
    State.finalsOf { s with table := stepTable i onStatement x s.table } k = s.finalsOf k := by
  refine List.filter_congr fun h _ => ?_
  cases onStatement
  · rfl
  · by_cases he : i = h
    · subst he
      simp only [stepTable, if_true, Table.get_set_self]
      cases s.table.slots.get i <;> rfl
    · simp only [stepTable, if_true, Table.get_set, if_neg he]

end

/-- Settles O59: the start, the completion, and what the SETTLE job does with it. -/
theorem storeWritesStartAndComplete : Obligations.StoreWritesStartAndComplete := by
  intro q s hl
  refine ⟨fun rest hq hw => ⟨fun hwarn hr => ?_, fun hwarn => ?_⟩, fun hw ha hr => ?_, fun hw hr => ?_, ?_,
    fun i ch k c => ⟨fun _ => rfl, fun _ => rfl, fun _ => rfl, rfl⟩⟩
  · show execStoreWriteStart s = _
    simp only [execStoreWriteStart, hl, hwarn, hr, hw, hq, Bool.not_false, Bool.and_self]
    rfl
  · show execStoreWriteStart s = _
    simp only [execStoreWriteStart, hwarn, Bool.not_true, Bool.and_false, Bool.false_and]
  · rw [exec_storeWriteComplete hl hw, afterWrite, if_neg (by exact (Bool.not_eq_true _).mpr hr), if_neg (by simp [ha])]
    rfl
  · rw [exec_storeWriteComplete hl hw, afterWrite, if_pos (by exact hr), Control.resetNode_eq]
    rfl
  · intro j hw ha hr hf table goesOn final
    have hexec := exec_awaitedWrite hl hw ha hr
    refine ⟨fun hj => ?_, fun i onStatement x hj habs hleft hwarn => ?_, fun i hj hwarn => ?_⟩
    · rw [hexec, settleWriteDone_node (by exact hf) hj]
      rfl
    · have hstep := settleWriteDone_step (s := committed q s) hf hj hleft
      rw [takeSettled_step habs, finalsOf_step] at hstep
      have htable : stepTable i onStatement x (committed q s).table = table i (.step i onStatement x) := by
        cases onStatement <;> rfl
      rw [htable] at hstep
      intro t ending
      refine ⟨fun hnil => ?_, fun h left hcons => ?_⟩
      · have hending : (committed q s).finalsOf j.interval = [] := hnil
        rw [hending, settleFinals_nil (by exact hwarn)] at hstep
        exact hexec.trans (congrArg Host.Outcome.next hstep)
      · have hending : (committed q s).finalsOf j.interval = h :: left := hcons
        rw [hending, settleFinals_cons (by exact hwarn)] at hstep
        exact hexec.trans (congrArg Host.Outcome.next hstep)
    · have hstep := settleWriteDone_final (s := committed q s) hf hj
      intro t
      refine ⟨fun hnil => ?_, fun h left hcons => ?_⟩
      · rw [hnil, settleFinals_nil (by exact hwarn)] at hstep
        exact hexec.trans (congrArg Host.Outcome.next hstep)
      · rw [hcons, settleFinals_cons (by exact hwarn)] at hstep
        exact hexec.trans (congrArg Host.Outcome.next hstep)

end Sys2Proof.EngineUnit

namespace Sys2Proof.EngineUnit

open Sys2Proof Sys2Proof.Machine Sys2Proof.Notices Sys2Proof.ShareLine Sys2Proof.Reception Sys2Proof.RingUnit Sys2Proof.Requests

/-! ## One settled addition (R75) -/

theorem addSettled_value {max v : Nat} (h : v ≤ max) (amount : Nat) : (addSettled max v amount).value = min (v + amount) max := by
  unfold addSettled
  split
  · next hzero => simp only [hzero, Nat.add_zero]; omega
  · split
    · next hfull => simp only []; omega
    · rfl

theorem addSettled_limit (max v amount : Nat) :
    (addSettled max v amount).limit = (decide (v < max) && decide (max ≤ v + amount)) := by
  unfold addSettled
  split
  · next hzero => simp only [hzero, Nat.add_zero]; by_cases hv : v < max <;> simp [hv, Nat.not_le.mpr]
  · split
    · next hfull => simp [Nat.not_lt.mpr hfull]
    · next hfull => simp [Nat.not_le.mp hfull]

theorem addSettled_saturated (max v amount : Nat) :
    (addSettled max v amount).saturated = (decide (0 < amount) && decide (max ≤ v)) := by
  unfold addSettled
  split
  · next hzero => simp [hzero]
  · next hzero => split <;> next hfull => simp [Nat.pos_of_ne_zero hzero, hfull]

/-! ## The additions of one pool (R46) -/

/-- The highest value of each figure. -/
def mostOf : Four Nat := ⟨1099511627775, 281474976710655, 65535, 65535⟩

/-- The four figures that are held. -/
def heldOf (f : Figure) : Four Nat := ⟨f.energy, f.cost, f.estimated, f.tampered⟩

/-- The four amounts that an account part adds. -/
def addedOf (x : AccountPool) : Four Nat := ⟨x.raw.getD 0, x.posting.getD 0, x.estimated.toNat, x.tampered.toNat⟩

theorem addPool_get (f : Figure) (x : AccountPool) (k : Fin 4) :
    (addPool f x).get k = addSettled (mostOf.get k) ((heldOf f).get k) ((addedOf x).get k) := by
  fin_cases k <;> rfl

/-- The figure that the four additions give. -/
def sumFigure (a : Four Added) : Figure := ⟨a.p0.value, a.p1.value, a.p2.value, a.p3.value⟩

theorem heldOf_sumFigure (a : Four Added) (k : Fin 4) : (heldOf (sumFigure a)).get k = (a.get k).value := by
  fin_cases k <;> rfl

/-! ## The additions of an account part, pool by pool -/

/-- The additions of a pool under a band. -/
def poolAdditions (band : Band) (x : AccountPart) (figures : Figures) (p : PoolId) : Four Added :=
  addPool ((figures.get p).get band) (x.pools.get p)

/-- The faults of a pool's additions, by figure number. -/
def poolLimits (target : Nat) (band : Band) (a : Four Added) (p : PoolId) : List Nat :=
  (([0, 1, 2, 3] : List (Fin 4)).filter (fun k => (a.get k).limit)).map (limitParam target p band)

/-- The additions of a pool that found their figure at its maximum. -/
def poolSaturated (a : Four Added) : Nat := ([0, 1, 2, 3] : List (Fin 4)).countP (fun k => (a.get k).saturated)

theorem saturated_toList (a : Four Added) : (a.toList.filter (·.saturated)).length = poolSaturated a := by
  obtain ⟨a0, a1, a2, a3⟩ := a
  have hmap : (Four.mk a0 a1 a2 a3).toList = ([0, 1, 2, 3] : List (Fin 4)).map (Four.mk a0 a1 a2 a3).get := rfl
  rw [hmap, ← List.countP_eq_length_filter, List.countP_map]
  rfl

/-- The figures with the sums of these pools in place. -/
def addedFigures (band : Band) (pools : List PoolId) (x : AccountPart) (figures : Figures) : Figures :=
  Four.ofFn (fun p =>
    if p ∈ pools then (figures.get p).set band (sumFigure (poolAdditions band x figures p)) else figures.get p)

theorem Adding.pool_eq (target : Nat) (band : Band) (x : AccountPart) (a : Adding) (p : PoolId) :
    Adding.pool target band x a p =
      ⟨a.figures.modify p (fun f => f.set band (sumFigure (poolAdditions band x a.figures p))),
        a.limits ++ poolLimits target band (poolAdditions band x a.figures p) p,
        a.saturated + poolSaturated (poolAdditions band x a.figures p)⟩ := by
  rw [← saturated_toList]
  rfl

theorem foldl_pool (target : Nat) (band : Band) (x : AccountPart) {pools : List PoolId} (h : pools.Nodup) (a : Adding) :
    pools.foldl (Adding.pool target band x) a =
      ⟨addedFigures band pools x a.figures,
        a.limits ++ pools.flatMap (fun p => poolLimits target band (poolAdditions band x a.figures p) p),
        a.saturated + (pools.map (fun p => poolSaturated (poolAdditions band x a.figures p))).sum⟩ := by
  induction pools generalizing a with
  | nil =>
    have hsame : addedFigures band [] x a.figures = a.figures := four_ext fun p => by simp [addedFigures]
    simp [hsame]
  | cons p pools ih =>
    obtain ⟨hp, hpools⟩ := List.nodup_cons.mp h
    have hother : ∀ q ∈ pools, poolAdditions band x (Adding.pool target band x a p).figures q = poolAdditions band x a.figures q := by
      intro q hq
      have hne : p ≠ q := fun he => hp (he ▸ hq)
      simp only [poolAdditions, Adding.pool_eq, Four.get_modify, if_neg hne]
    have hfigures : addedFigures band pools x (Adding.pool target band x a p).figures = addedFigures band (p :: pools) x a.figures := by
      refine four_ext fun q => ?_
      by_cases he : p = q
      · subst he
        simp [addedFigures, hp, Adding.pool_eq, Four.get_modify]
      · by_cases hq : q ∈ pools
        · have hget : (Adding.pool target band x a p).figures.get q = a.figures.get q := by
            simp only [Adding.pool_eq, Four.get_modify, if_neg he]
          simp only [addedFigures, Four.get_ofFn, if_pos hq, if_pos (List.mem_cons_of_mem p hq), hother q hq, hget]
        · simp [addedFigures, hq, Ne.symm he, Adding.pool_eq, Four.get_modify, he]
    rw [List.foldl_cons, ih hpools, hfigures,
      List.flatMap_congr fun q hq => congrArg (poolLimits target band · q) (hother q hq),
      List.map_congr_left fun q hq => congrArg poolSaturated (hother q hq), Adding.pool_eq]
    simp only [List.append_assoc, Nat.add_assoc, List.flatMap_cons, List.map_cons, List.sum_cons]

theorem addParts_eq (target : Nat) (band : Band) {pools : List PoolId} (h : pools.Nodup) (x : AccountPart) (figures : Figures) :
    addParts target band pools x figures =
      ⟨addedFigures band pools x figures,
        pools.flatMap (fun p => poolLimits target band (poolAdditions band x figures p) p),
        (pools.map (fun p => poolSaturated (poolAdditions band x figures p))).sum⟩ := by
  rw [addParts, foldl_pool target band x h, List.nil_append, Nat.zero_add]

/-- Each sum is held at its maximum; the other figures stay. -/
theorem heldOf_addedFigures (band : Band) (pools : List PoolId) (x : AccountPart) (figures : Figures) (p : PoolId) (b : Band) (f : Fin 4)
    (h : (heldOf ((figures.get p).get b)).get f ≤ mostOf.get f) :
    (heldOf (((addedFigures band pools x figures).get p).get b)).get f =
      if p ∈ pools ∧ b = band then
        min ((heldOf ((figures.get p).get b)).get f + (addedOf (x.pools.get p)).get f) (mostOf.get f)
      else (heldOf ((figures.get p).get b)).get f := by
  by_cases hp : p ∈ pools
  · by_cases hb : b = band
    · subst hb
      rw [if_pos ⟨hp, rfl⟩, addedFigures, Four.get_ofFn, if_pos hp, Four.get_set_self, heldOf_sumFigure, poolAdditions, addPool_get,
        addSettled_value h]
    · rw [if_neg (fun hand => hb hand.2), addedFigures, Four.get_ofFn, if_pos hp, Four.get_set, if_neg (Ne.symm hb)]
  · rw [if_neg (fun hand => hp hand.1), addedFigures, Four.get_ofFn, if_neg hp]

theorem poolLimits_nil {target : Nat} {band : Band} {a : Four Added} {p : PoolId} (h : ∀ f, (a.get f).limit = false) :
    poolLimits target band a p = [] := by
  rw [poolLimits, List.filter_eq_nil_iff.mpr fun f _ => by simp [h f], List.map_nil]

theorem poolLimits_single {target : Nat} {band : Band} {a : Four Added} {p : PoolId} {f : Fin 4} (hf : (a.get f).limit = true)
    (h : ∀ g, (a.get g).limit = true → g = f) : poolLimits target band a p = [limitParam target p band f] := by
  have hlimit : (fun g => (a.get g).limit) = fun g => decide (g = f) := funext fun g => by
    by_cases hg : g = f
    · simp [hg, hf]
    · simpa [hg] using fun ht => hg (h g ht)
  have hone : ∀ f : Fin 4, ([0, 1, 2, 3] : List (Fin 4)).filter (fun g => decide (g = f)) = [f] := by decide
  rw [poolLimits, hlimit, hone, List.map_singleton]

/-- Where one element alone gives anything, the whole gives what it gives. -/
theorem flatMap_of_only {α β : Type} {l : List α} {g : α → List β} {x : α} (hl : l.Nodup) (hx : x ∈ l)
    (h : ∀ y ∈ l, y ≠ x → g y = []) : l.flatMap g = g x := by
  induction l with
  | nil => cases hx
  | cons y l ih =>
    obtain ⟨hy, hl⟩ := List.nodup_cons.mp hl
    rw [List.flatMap_cons]
    obtain rfl | hx := List.mem_cons.mp hx
    · have hrest : l.flatMap g = [] := List.flatMap_eq_nil_iff.mpr fun z hz =>
        h z (List.mem_cons_of_mem _ hz) (fun he => hy (he ▸ hz))
      rw [hrest, List.append_nil]
    · rw [h y (List.mem_cons_self ..) (fun he => hy (he ▸ hx)), List.nil_append,
        ih hl hx fun z hz => h z (List.mem_cons_of_mem _ hz)]

/-! ## The faults of an account step -/

/-- The ring and the interval unit are as before, or a fault has taken the node out of the membership. -/
def Stays (s u : State) : Prop :=
  (u.interval = s.interval ∧ u.ring = s.ring) ∨ (s.interval.membership = .member ∧ u.interval.membership = .observer)

theorem Stays.refl (s : State) : Stays s s := .inl ⟨rfl, rfl⟩

theorem Stays.trans {s t u : State} (h : Stays s t) (h' : Stays t u) : Stays s u := by
  obtain ⟨hi, hr⟩ | ⟨hm, ho⟩ := h
  · obtain ⟨hi', hr'⟩ | ⟨hm', ho'⟩ := h'
    · exact .inl ⟨hi'.trans hi, hr'.trans hr⟩
    · exact .inr ⟨hi ▸ hm', ho'⟩
  · obtain ⟨hi', -⟩ | ⟨-, ho'⟩ := h'
    · exact .inr ⟨hm, hi' ▸ ho⟩
    · exact .inr ⟨hm, ho'⟩

theorem raiseFault_stays (c : Cause) (p : Nat) (s : State) : Stays s (raiseFault c p s) := by
  unfold raiseFault
  split
  · exact .refl s
  · unfold placeFault
    split
    · exact .inl ⟨rfl, rfl⟩
    · split
      · next hcompound =>
        have hm : s.interval.membership = .member := by
          simp only [Bool.and_eq_true, beq_iff_eq] at hcompound
          exact hcompound.2
        exact .inr ⟨hm, (enterObserver_interval _).1⟩
      · split <;> exact .inl ⟨rfl, rfl⟩

theorem foldl_raiseFault_keeps (c : Cause) (l : List Nat) (s : State) :
    let u := l.foldl (fun t param => raiseFault c param t) s
    u.control = s.control ∧ u.image = s.image ∧ u.engine = s.engine ∧ u.store = s.store ∧ u.table = s.table := by
  induction l generalizing s with
  | nil => exact ⟨rfl, rfl, rfl, rfl, rfl⟩
  | cons p l ih => simpa using ih (raiseFault c p s)

theorem raiseLimits_keeps (a : Adding) (s : State) :
    (raiseLimits a s).control = s.control ∧ (raiseLimits a s).image = s.image ∧ (raiseLimits a s).engine = s.engine ∧
      (raiseLimits a s).store = s.store ∧ (raiseLimits a s).table = { s.table with
        counters := { s.table.counters with saturatedAdds := bumpBy a.saturated s.table.counters.saturatedAdds } } :=
  foldl_raiseFault_keeps ..

theorem raiseLimits_stays (a : Adding) (s : State) : Stays s (raiseLimits a s) :=
  Effects.foldl_induction (P := Stays s) (fun _ _ ht => ht.trans (raiseFault_stays ..)) a.limits (.inl ⟨rfl, rfl⟩)

end Sys2Proof.EngineUnit

namespace Sys2Proof.EngineUnit

open Sys2Proof Sys2Proof.Machine Sys2Proof.Notices Sys2Proof.ShareLine Sys2Proof.Reception Sys2Proof.RingUnit Sys2Proof.Requests

/-! ## The accounts that the SETTLE job passes over (R46, R47, R64) -/

/-- The account is still of the tenancy of the part. -/
def owns (s : State) (x : AccountPart) (i : AccountId) : Bool :=
  match x.tenancy with
  | some t => t.number == (s.table.accounts.get i).tenancy
  | none => false

/-- The statement that stands for the tenancy of the part. -/
def closing (s : State) (x : AccountPart) (i : AccountId) : Option Statement :=
  match x.tenancy, s.table.slots.get i with
  | some t, some st => if t.number = st.tenancy ∧ owns s x i = false then some st else none
  | _, _ => none

theorem settleTarget_eq (s : State) (x : AccountPart) (i : AccountId) : s.settleTarget i x =
    if owns s x i then some (false, (s.table.accounts.get i).settled)
    else (closing s x i).map (fun st => (true, st.settled)) := by
  unfold State.settleTarget closing owns
  cases x.tenancy with
  | none => rfl
  | some t =>
    dsimp only
    by_cases ht : t.number = (s.table.accounts.get i).tenancy
    · rw [if_pos ht, if_pos (beq_iff_eq.mpr ht)]
    · have howns : (t.number == (s.table.accounts.get i).tenancy) = false := beq_eq_false_iff_ne.mpr ht
      cases hslot : s.table.slots.get i with
      | none => simp [ht]
      | some st =>
        simp only [howns, if_neg ht, Bool.false_eq_true, if_false, and_true]
        split <;> rfl

/-- The part's tenancy stands nowhere in the table. -/
def targetLost (s : State) (x : AccountPart) (i : AccountId) : Bool :=
  !(s.table.accounts.get i).damaged && !owns s x i && (closing s x i).isNone

/-- The target has this interval already. -/
def targetGuarded (s : State) (k : Nat) (x : AccountPart) (i : AccountId) : Bool :=
  !(s.table.accounts.get i).damaged
    && (if owns s x i then decide (k ≤ (s.table.accounts.get i).settled.last)
      else match closing s x i with | some st => decide (k ≤ st.settled.last) | none => false)

/-- The job makes no addition for the account. -/
def targetPassed (s : State) (k : Nat) (x : AccountPart) (i : AccountId) : Bool :=
  (s.table.accounts.get i).damaged || targetLost s x i || targetGuarded s k x i

/-- The state with so many accounts counted as lost and as guarded. -/
def skipped (lost guarded : Nat) (s : State) : State := { s with
  table := { s.table with counters := { s.table.counters with noTarget := bumpBy lost s.table.counters.noTarget } }
  engine := { s.engine with
    counters := { s.engine.counters with settleSkipped := bumpBy guarded s.engine.counters.settleSkipped } } }

/-- An account that takes the addition has one target. -/
theorem settleTarget_of_not_passed {s : State} {k : Nat} {x : AccountPart} {i : AccountId} (h : targetPassed s k x i = false) :
    (s.table.accounts.get i).damaged = false ∧
      ((owns s x i = true ∧ closing s x i = none ∧ ¬ k ≤ (s.table.accounts.get i).settled.last) ∨
        (owns s x i = false ∧ ∃ st, closing s x i = some st ∧ ¬ k ≤ st.settled.last)) := by
  have hdamaged : (s.table.accounts.get i).damaged = false := by
    simp only [targetPassed, Bool.or_eq_false_iff] at h
    exact h.1.1
  refine ⟨hdamaged, ?_⟩
  cases howns : owns s x i with
  | true =>
    refine .inl ⟨rfl, ?_, ?_⟩
    · unfold closing
      rw [howns]
      split <;> simp
    · simpa [targetPassed, targetLost, targetGuarded, hdamaged, howns] using h
  | false =>
    cases hclosing : closing s x i with
    | none => simp [targetPassed, targetLost, hdamaged, howns, hclosing] at h
    | some st => exact .inr ⟨rfl, st, rfl, by simpa [targetPassed, targetLost, targetGuarded, hdamaged, howns, hclosing] using h⟩

section
variable {r : Record} {j : SettleJob}

theorem settleAccounts_passed {s : State} {i : AccountId} (rest : List AccountId)
    (h : targetPassed s j.interval (r.accounts.get i) i = true) : settleAccounts r j (i :: rest) s =
      settleAccounts r j rest (skipped (if targetLost s (r.accounts.get i) i then 1 else 0)
        (if targetGuarded s j.interval (r.accounts.get i) i then 1 else 0) s) := by
  rw [settleAccounts]
  cases hdamaged : (s.table.accounts.get i).damaged with
  | true =>
    have hlost : targetLost s (r.accounts.get i) i = false := by simp [targetLost, hdamaged]
    have hguarded : targetGuarded s j.interval (r.accounts.get i) i = false := by simp [targetGuarded, hdamaged]
    rw [hlost, hguarded]
    rfl
  | false =>
    simp only [Bool.false_eq_true, if_false, settleTarget_eq]
    cases howns : owns s (r.accounts.get i) i with
    | true =>
      have hlast : j.interval ≤ (s.table.accounts.get i).settled.last := by
        simpa [targetPassed, targetLost, targetGuarded, hdamaged, howns] using h
      have hlost : targetLost s (r.accounts.get i) i = false := by simp [targetLost, howns]
      have hguarded : targetGuarded s j.interval (r.accounts.get i) i = true := by simp [targetGuarded, hdamaged, howns, hlast]
      rw [hlost, hguarded]
      simp only [if_true, if_pos hlast]
      rfl
    | false =>
      cases hclosing : closing s (r.accounts.get i) i with
      | none =>
        have hlost : targetLost s (r.accounts.get i) i = true := by simp [targetLost, hdamaged, howns, hclosing]
        have hguarded : targetGuarded s j.interval (r.accounts.get i) i = false := by simp [targetGuarded, howns, hclosing]
        rw [hlost, hguarded]
        rfl
      | some st =>
        have hlast : j.interval ≤ st.settled.last := by
          simpa [targetPassed, targetLost, targetGuarded, hdamaged, howns, hclosing] using h
        have hlost : targetLost s (r.accounts.get i) i = false := by simp [targetLost, hclosing]
        have hguarded : targetGuarded s j.interval (r.accounts.get i) i = true := by
          simp [targetGuarded, hdamaged, howns, hclosing, hlast]
        rw [hlost, hguarded]
        simp only [Bool.false_eq_true, if_false, Option.map_some, if_pos hlast]
        rfl

theorem bumpBy_countP {α : Type} (p : α → Bool) (x : α) (l : List α) (n : Nat) :
    bumpBy (l.countP p) (bumpBy (if p x then 1 else 0) n) = bumpBy ((x :: l).countP p) n := by
  rw [List.countP_cons]
  split <;> rfl

theorem skipped_cons {α : Type} (lost guarded : α → Bool) (x : α) (l : List α) (s : State) :
    skipped (l.countP lost) (l.countP guarded) (skipped (if lost x then 1 else 0) (if guarded x then 1 else 0) s) =
      skipped ((x :: l).countP lost) ((x :: l).countP guarded) s := by
  simp only [skipped, bumpBy_countP]

/-- The accounts passed over are counted, and the job comes to the next one. -/
theorem settleAccounts_append {s : State} {before : List AccountId} (l : List AccountId)
    (h : ∀ i ∈ before, targetPassed s j.interval (r.accounts.get i) i = true) : settleAccounts r j (before ++ l) s =
      settleAccounts r j l (skipped (before.countP (fun i => targetLost s (r.accounts.get i) i))
        (before.countP (fun i => targetGuarded s j.interval (r.accounts.get i) i)) s) := by
  induction before generalizing s with
  | nil => rfl
  | cons i before ih =>
    rw [List.cons_append, settleAccounts_passed _ (h i (List.mem_cons_self ..)), ← skipped_cons]
    exact ih fun i' hi' => h i' (List.mem_cons_of_mem i hi')

/-- The figures that the step gives, with the faults and the count of its additions. -/
def stepAdding (s : State) (r : Record) (i : AccountId) (onStatement : Bool) (x : Settled) : Adding :=
  addParts (if onStatement then 16 + i.val else i.val) r.band (s.image.accountPools i) (r.accounts.get i) x.figures

theorem settleAccounts_step {s : State} {i : AccountId} {onStatement : Bool} {x : Settled} (rest : List AccountId)
    (hdamaged : (s.table.accounts.get i).damaged = false)
    (htarget : s.settleTarget i (r.accounts.get i) = some (onStatement, x)) (hlast : ¬ j.interval ≤ x.last) :
    settleAccounts r j (i :: rest) s =
      awaitWrite { j with accountsLeft := rest } (.step i onStatement ⟨j.interval, (stepAdding s r i onStatement x).figures⟩)
        (raiseLimits (stepAdding s r i onStatement x) s) := by
  rw [settleAccounts]
  simp only [hdamaged, Bool.false_eq_true, if_false, htarget, if_neg hlast]
  rfl

end

/-! ## The start of the job (R37, R45, R46) -/

/-- The record as the job reads it: an OBSERVER zeroes its postings first. -/
def atStart (s : State) (r : Record) : Record := if s.interval.membership = .observer then r.zeroed else r

/-- The state that the job starts in. -/
def started (k : Nat) (rest : List Job) (r : Record) (s : State) : State := { s with
  ring := if s.interval.membership = .observer then
      { s.ring with records := s.ring.records.map (fun x => if x.number = k then x.zeroed else x) } else s.ring
  engine := { s.engine with
    jobs := rest
    counters := { s.engine.counters with settleUncomputed :=
        if r.compute = .none then (bump s.engine.counters.settleUncomputed) else s.engine.counters.settleUncomputed } } }

/-- The job as it starts. -/
def settleJobOf (s : State) (r : Record) : SettleJob := ⟨r.number, (atStart s r).poolDigests s.image, [], [], none, false, false⟩

theorem atStart_unchanged (s : State) (r : Record) : (atStart s r).number = r.number ∧ (atStart s r).band = r.band ∧
    (atStart s r).pools = r.pools ∧ ∀ i, ((atStart s r).accounts.get i).tenancy = (r.accounts.get i).tenancy := by
  unfold atStart
  split
  · exact ⟨rfl, rfl, rfl, fun i => by simp [Record.zeroed]⟩
  · exact ⟨rfl, rfl, rfl, fun i => rfl⟩

theorem addedOf_atStart (s : State) (r : Record) (i : AccountId) (p : PoolId) :
    addedOf (((atStart s r).accounts.get i).pools.get p) =
      ⟨((r.accounts.get i).pools.get p).raw.getD 0,
        if s.interval.membership = .observer then 0 else ((r.accounts.get i).pools.get p).posting.getD 0,
        ((r.accounts.get i).pools.get p).estimated.toNat, ((r.accounts.get i).pools.get p).tampered.toNat⟩ := by
  unfold atStart
  split
  · simp only [Record.zeroed, Table.get_map, Four.get_map, addedOf]
    cases ((r.accounts.get i).pools.get p).posting <;> rfl
  · rfl

theorem countUncomputed_eq (r : Record) (s : State) : countUncomputed r s = { s with engine := { s.engine with
    counters := { s.engine.counters with settleUncomputed :=
        if r.compute = .none then (bump s.engine.counters.settleUncomputed) else s.engine.counters.settleUncomputed } } } := by
  unfold countUncomputed
  by_cases h : r.compute = .none
  · rw [if_pos (beq_iff_eq.mpr h), if_pos h]
    rfl
  · rw [if_neg (fun hb => h (beq_iff_eq.mp hb)), if_neg h]

theorem startSettle_eq {s : State} {k : Nat} {r : Record} (rest : List Job) (hfind : findRecord k s = some r) (hk : r.number = k) :
    startSettle r rest s =
      settleAccounts (atStart s r) (settleJobOf s r) s.image.settleAccountList (started k rest r s) := by
  subst hk
  unfold startSettle settleJobOf
  dsimp only
  by_cases hm : s.interval.membership = .observer
  · have hstarted : updateRecord r.number Record.zeroed (countUncomputed r (s.onEngine (fun e => { e with jobs := rest }))) =
        started r.number rest r s := by
      rw [updateRecord_eq, countUncomputed_eq, started, if_pos hm]
      rfl
    have hmember : (countUncomputed r (s.onEngine (fun e => { e with jobs := rest }))).interval.membership = .observer := by
      rw [countUncomputed_eq]; exact hm
    have hfound : findRecord r.number (started r.number rest r s) = some (atStart s r) := by
      have hmap : findRecord r.number (started r.number rest r s) =
          (s.ring.records.find? (·.number == r.number)).map (fun x => if x.number = r.number then x.zeroed else x) := by
        simp only [findRecord, started, if_pos hm, List.find?_map]
        congr 2
        refine funext fun x => ?_
        simp only [Function.comp]
        split <;> rfl
      rw [hmap, show s.ring.records.find? (·.number == r.number) = some r from hfind, Option.map_some, if_pos rfl, atStart, if_pos hm]
    rw [if_pos (beq_iff_eq.mpr hmember), hstarted, hfound]
    rfl
  · have hstarted : countUncomputed r (s.onEngine (fun e => { e with jobs := rest })) = started r.number rest r s := by
      rw [countUncomputed_eq, started, if_neg hm]
      rfl
    have hmember : (started r.number rest r s).interval.membership ≠ .observer := hm
    have hfound : findRecord r.number (started r.number rest r s) = some r := by
      rw [findRecord, started, if_neg hm]
      exact hfind
    rw [hstarted, if_neg (fun hb => hmember (beq_iff_eq.mp hb)), hfound, atStart, if_neg hm]
    rfl

theorem exec_settleJobStart {s : State} {k : Nat} {rest : List Job} {r : Record} (hf : s.following = true)
    (hflight : s.engine.flight = none) (hjobs : s.engine.jobs = ⟨.settle, k⟩ :: rest) (hfind : findRecord k s = some r) :
    exec .settleJobStart s = .next (startSettle r rest s) := by
  show execSettleJobStart s = _
  simp only [execSettleJobStart, hf, hflight, hjobs, hfind]

/-! ## The end of the job (R25, R26, R49) -/

theorem pushHistory_of_room {h : List HistoryEntry} {e : HistoryEntry} (hlen : h.length ≤ 4) : pushHistory h e =
    (if (h.filter (fun x => x.number != e.number)).length = 4 then (h.filter (fun x => x.number != e.number)).tail
      else h.filter (fun x => x.number != e.number)) ++ [e] := by
  have hle : (h.filter (fun x => x.number != e.number)).length ≤ 4 := (List.length_filter_le ..).trans hlen
  unfold pushHistory
  dsimp only
  by_cases hfull : (h.filter (fun x => x.number != e.number)).length = 4
  · rw [if_pos hfull.ge, if_pos hfull, hfull, ← List.drop_one]
  · rw [if_neg (by omega), if_neg hfull]

theorem completeSettle_eq {s : State} {j : SettleJob} {r : Record} {before after : List Record} (h : Has s before r after j.interval)
    (hlen : s.ring.history.length ≤ 4) :
    let others := s.ring.history.filter (fun e => e.number != r.number)
    completeSettle j r s = { s with
      ring := { s.ring with
        records := before ++ after
        history := (if others.length = 4 then others.tail else others) ++ [⟨r.number, r.band, j.digests⟩]
        view := some r.view }
      engine := { s.engine with
        flight := none
        counters := { s.engine.counters with settleRuns := bump s.engine.counters.settleRuns } } } := by
  intro others
  have hrecords : s.ring.records.filter (fun x => x.number != r.number) = before ++ after := by
    rw [h.number]; exact h.filter
  have hhistory := pushHistory_of_room (e := ⟨r.number, r.band, j.digests⟩) hlen
  simp only [completeSettle, State.onRing, hrecords, hhistory]
  rfl

end Sys2Proof.EngineUnit

namespace Sys2Proof.EngineUnit

open Sys2Proof Sys2Proof.Machine Sys2Proof.Notices Sys2Proof.ShareLine Sys2Proof.Reception Sys2Proof.RingUnit Sys2Proof.Requests

/-! ## What the start leaves as it was -/

/-- The table's accounts, the store and the rest of the engine as the job's start leaves them. -/
structure Begun (k : Nat) (rest : List Job) (r : Record) (s v : State) : Prop where
  control : v.control = s.control
  image : v.image = s.image
  store : v.store = s.store
  accounts : v.table.accounts = s.table.accounts
  slots : v.table.slots = s.table.slots
  jobs : v.engine.jobs = rest
  uncomputed : v.engine.counters.settleUncomputed = (started k rest r s).engine.counters.settleUncomputed
  stays : Stays (started k rest r s) v

/-- The state in which the job waits for a write that it has requested. -/
def waitsFor (j : SettleJob) (w : SettleWrite) (v : State) : State := { v with
  store := { v.store with queue := requested (v.settleContents j.interval w) true v.store.queue }
  engine := { v.engine with flight := some (.settle (awaiting j w)) } }

theorem awaitWrite_begun {k : Nat} {rest : List Job} {r : Record} {s v : State} (h : Begun k rest r s v)
    (hwarn : s.control.supplyWarn = false) (j : SettleJob) (w : SettleWrite) : awaitWrite j w v = waitsFor j w v :=
  awaitWrite_of_no_warn (by rw [h.control]; exact hwarn) w

theorem started_begun (k : Nat) (rest : List Job) (r : Record) (s : State) : Begun k rest r s (started k rest r s) where
  control := rfl
  image := rfl
  store := rfl
  accounts := rfl
  slots := rfl
  jobs := rfl
  uncomputed := rfl
  stays := .refl _

section
variable {k : Nat} {rest : List Job} {r : Record} {s v : State}

theorem Begun.skipped (h : Begun k rest r s v) (lost guarded : Nat) : Begun k rest r s (skipped lost guarded v) where
  control := h.control
  image := h.image
  store := h.store
  accounts := h.accounts
  slots := h.slots
  jobs := h.jobs
  uncomputed := h.uncomputed
  stays := h.stays.trans (.inl ⟨rfl, rfl⟩)

theorem Begun.raiseLimits (h : Begun k rest r s v) (a : Adding) : Begun k rest r s (raiseLimits a v) := by
  obtain ⟨hcontrol, himage, hengine, hstore, htable⟩ := raiseLimits_keeps a v
  exact ⟨hcontrol.trans h.control, himage.trans h.image, hstore.trans h.store, (congrArg AccountTable.accounts htable).trans h.accounts,
    (congrArg AccountTable.slots htable).trans h.slots, (congrArg Engine.jobs hengine).trans h.jobs,
    (congrArg (fun e : Engine => e.counters.settleUncomputed) hengine).trans h.uncomputed, h.stays.trans (raiseLimits_stays a v)⟩

theorem Begun.owns (h : Begun k rest r s v) {x y : AccountPart} (hxy : y.tenancy = x.tenancy) (i : AccountId) :
    owns v y i = owns s x i := by
  rw [EngineUnit.owns, EngineUnit.owns, hxy, h.accounts]

theorem Begun.closing (h : Begun k rest r s v) {x y : AccountPart} (hxy : y.tenancy = x.tenancy) (i : AccountId) :
    closing v y i = closing s x i := by
  rw [EngineUnit.closing, EngineUnit.closing, h.owns hxy, hxy, h.slots]

theorem Begun.lost (h : Begun k rest r s v) {x y : AccountPart} (hxy : y.tenancy = x.tenancy) (i : AccountId) :
    targetLost v y i = targetLost s x i := by
  rw [targetLost, targetLost, h.owns hxy, h.closing hxy, h.accounts]

theorem Begun.guarded (h : Begun k rest r s v) {x y : AccountPart} (hxy : y.tenancy = x.tenancy) (i : AccountId) :
    targetGuarded v k y i = targetGuarded s k x i := by
  rw [targetGuarded, targetGuarded, h.owns hxy, h.closing hxy, h.accounts]

theorem Begun.passed (h : Begun k rest r s v) {x y : AccountPart} (hxy : y.tenancy = x.tenancy) (i : AccountId) :
    targetPassed v k y i = targetPassed s k x i := by
  rw [targetPassed, targetPassed, h.lost hxy, h.guarded hxy, h.accounts]

end

/-! ## Where the start comes to -/

section
variable {s : State} {k : Nat} {r : Record} (rest : List Job)

/-- The state after these accounts have been passed over. -/
def afterPassing (k : Nat) (rest : List Job) (r : Record) (s : State) (before : List AccountId) : State :=
  skipped (before.countP (fun i => targetLost s (r.accounts.get i) i))
    (before.countP (fun i => targetGuarded s k (r.accounts.get i) i)) (started k rest r s)

theorem afterPassing_begun (before : List AccountId) : Begun k rest r s (afterPassing k rest r s before) :=
  (started_begun k rest r s).skipped ..

theorem startSettle_passes (hfind : findRecord k s = some r) (hk : r.number = k) {before l : List AccountId}
    (hl : s.image.settleAccountList = before ++ l) (hbefore : ∀ i ∈ before, targetPassed s k (r.accounts.get i) i = true) :
    startSettle r rest s = settleAccounts (atStart s r) (settleJobOf s r) l (afterPassing k rest r s before) := by
  have hbegun := started_begun k rest r s
  have htenancy := (atStart_unchanged s r).2.2.2
  have hinterval : (settleJobOf s r).interval = k := hk
  rw [startSettle_eq rest hfind hk, hl, settleAccounts_append l fun i hi => by
    rw [hinterval, hbegun.passed (htenancy i)]; exact hbefore i hi]
  simp only [hinterval, hbegun.lost (htenancy _), hbegun.guarded (htenancy _)]
  rfl

/-- All accounts passed over, the job comes to the statements of its interval, then to the node record. -/
theorem startSettle_all_passed (hfind : findRecord k s = some r) (hk : r.number = k)
    (hall : ∀ i ∈ s.image.settleAccountList, targetPassed s k (r.accounts.get i) i = true) :
    startSettle r rest s = settleFinals (settleJobOf s r) (afterPassing k rest r s s.image.settleAccountList) (s.finalsOf k) := by
  subst hk
  exact startSettle_passes rest hfind rfl (List.append_nil _).symm hall

/-- The first account that takes the addition: the job waits for its write. -/
theorem startSettle_step (hfind : findRecord k s = some r) (hk : r.number = k) (hwarn : s.control.supplyWarn = false)
    {before others : List AccountId} {i : AccountId} (hl : s.image.settleAccountList = before ++ i :: others)
    (hbefore : ∀ i ∈ before, targetPassed s k (r.accounts.get i) i = true) {onStatement : Bool} {x : Settled}
    (hdamaged : (s.table.accounts.get i).damaged = false) (htarget : s.settleTarget i (r.accounts.get i) = some (onStatement, x))
    (hlast : ¬ k ≤ x.last) :
    let a := stepAdding s (atStart s r) i onStatement x
    startSettle r rest s = waitsFor { settleJobOf s r with accountsLeft := others } (.step i onStatement ⟨k, a.figures⟩)
      (raiseLimits a (afterPassing k rest r s before)) := by
  subst hk
  intro a
  have hbegun := afterPassing_begun (k := r.number) (r := r) (s := s) rest before
  have htenancy := (atStart_unchanged s r).2.2.2 i
  have htarget' : (afterPassing r.number rest r s before).settleTarget i ((atStart s r).accounts.get i) = some (onStatement, x) := by
    rw [settleTarget_eq, hbegun.owns htenancy, hbegun.closing htenancy, hbegun.accounts, ← settleTarget_eq]
    exact htarget
  rw [startSettle_passes rest hfind rfl hl hbefore,
    settleAccounts_step others (by rw [hbegun.accounts]; exact hdamaged) htarget' hlast,
    awaitWrite_begun (hbegun.raiseLimits _) hwarn]
  rfl

end

/-! ## The additions of the step -/

section
variable {s : State} {r : Record} {i : AccountId}

theorem accountPools_nodup (img : Image) (i : AccountId) : (img.accountPools i).Nodup := List.Nodup.filter _ (by decide)

theorem mem_accountPools {img : Image} {p : PoolId} : p ∈ img.accountPools i ↔ img.takesPart i p = true := by
  have hall : p ∈ allPools := by fin_cases p <;> decide
  simp only [Image.accountPools, List.mem_filter, hall, true_and]

/-- The addition reaches the figure's maximum. -/
def reachesMost (s : State) (r : Record) (i : AccountId) (x : Settled) (p : PoolId) (f : Fin 4) : Bool :=
  s.image.takesPart i p
    && decide ((heldOf ((x.figures.get p).get r.band)).get f < mostOf.get f)
    && decide (mostOf.get f ≤ (heldOf ((x.figures.get p).get r.band)).get f + (addedOf ((r.accounts.get i).pools.get p)).get f)

theorem poolAdditions_limit (x : Settled) {p : PoolId} (hp : s.image.takesPart i p = true) (f : Fin 4) :
    ((poolAdditions r.band (r.accounts.get i) x.figures p).get f).limit = reachesMost s r i x p f := by
  rw [poolAdditions, addPool_get, addSettled_limit, reachesMost, hp, Bool.true_and]

theorem stepAdding_limits_nil {onStatement : Bool} {x : Settled} (h : ∀ p f, reachesMost s r i x p f = false) :
    (stepAdding s r i onStatement x).limits = [] := by
  rw [stepAdding, addParts_eq _ _ (accountPools_nodup ..)]
  refine List.flatMap_eq_nil_iff.mpr fun p hp => poolLimits_nil fun f => ?_
  rw [poolAdditions_limit x (mem_accountPools.mp hp)]
  exact h p f

theorem stepAdding_limits_single {onStatement : Bool} {x : Settled} {p : PoolId} {f : Fin 4} (hpf : reachesMost s r i x p f = true)
    (honly : ∀ q g, reachesMost s r i x q g = true → q = p ∧ g = f) : (stepAdding s r i onStatement x).limits =
      [limitParam (if onStatement then 16 + i.val else i.val) p r.band f] := by
  have hp : s.image.takesPart i p = true := by
    simp only [reachesMost, Bool.and_eq_true] at hpf
    exact hpf.1.1
  rw [stepAdding, addParts_eq _ _ (accountPools_nodup ..)]
  refine (flatMap_of_only (accountPools_nodup ..) (mem_accountPools.mpr hp) fun q hq hne => poolLimits_nil fun g => ?_).trans
    (poolLimits_single ?_ fun g hg => ?_)
  · rw [poolAdditions_limit x (mem_accountPools.mp hq)]
    exact Bool.eq_false_iff.mpr fun hqg => hne (honly q g hqg).1
  · rw [poolAdditions_limit x hp]; exact hpf
  · rw [poolAdditions_limit x hp] at hg
    exact (honly p g hg).2

/-- Each sum is held at its maximum, under the record's band; the other figures stay. -/
theorem heldOf_stepAdding {onStatement : Bool} {x : Settled} {p : PoolId} {b : Band} {f : Fin 4}
    (h : (heldOf ((x.figures.get p).get b)).get f ≤ mostOf.get f) :
    (heldOf (((stepAdding s r i onStatement x).figures.get p).get b)).get f =
      if s.image.takesPart i p = true ∧ b = r.band then
        min ((heldOf ((x.figures.get p).get b)).get f + (addedOf ((r.accounts.get i).pools.get p)).get f) (mostOf.get f)
      else (heldOf ((x.figures.get p).get b)).get f := by
  simp only [stepAdding, addParts_eq _ _ (accountPools_nodup ..), heldOf_addedFigures _ _ _ _ p b f h, mem_accountPools]

theorem stepAdding_saturated {onStatement : Bool} {x : Settled} : (stepAdding s r i onStatement x).saturated =
    ((s.image.accountPools i).map (fun p => ([0, 1, 2, 3] : List (Fin 4)).countP (fun f =>
      decide (0 < (addedOf ((r.accounts.get i).pools.get p)).get f)
        && decide (mostOf.get f ≤ (heldOf ((x.figures.get p).get r.band)).get f)))).sum := by
  simp only [stepAdding, addParts_eq _ _ (accountPools_nodup ..), poolSaturated, poolAdditions, addPool_get, addSettled_saturated]

theorem raiseLimits_nil {a : Adding} (h : a.limits = []) (s : State) : (raiseLimits a s).cond = s.cond ∧ (raiseLimits a s).interval = s.interval := by
  rw [raiseLimits, h]
  exact ⟨rfl, rfl⟩

theorem raiseLimits_single {a : Adding} {param : Nat} (h : a.limits = [param]) (hm : s.interval.membership ≠ .unconfigured)
    (hrecord : s.cond.record = none) : (raiseLimits a s).cond = { s.cond with
      seq := s.nextSeq
      record := some ⟨⟨s.nextSeq, .accumulatorLimit, param, s.interval.openNumber, .unsent⟩, none, none⟩
      counters := { s.cond.counters with faultsRaised := bump s.cond.counters.faultsRaised } } := by
  rw [raiseLimits, h, List.foldl_cons, List.foldl_nil, raiseFault_of_configured (by exact hm), placeFault_first (by exact hrecord)]
  rfl

end

/-! ## The obligation -/

section
variable {s : State} {k : Nat} {r : Record} {rest : List Job}

theorem targetOf_not_passed {i : AccountId} {x : AccountPart} (h : targetPassed s k x i = false) :
    (s.table.accounts.get i).damaged = false ∧ ∃ onStatement y, s.settleTarget i x = some (onStatement, y) ∧ ¬ k ≤ y.last
      ∧ onStatement = !owns s x i ∧ (owns s x i = true → y = (s.table.accounts.get i).settled)
      ∧ ∀ st, closing s x i = some st → owns s x i = false ∧ y = st.settled := by
  obtain ⟨hdamaged, ⟨howns, hclosing, hlast⟩ | ⟨howns, st, hclosing, hlast⟩⟩ := settleTarget_of_not_passed h
  · exact ⟨hdamaged, false, _, by rw [settleTarget_eq, howns]; rfl, hlast, by rw [howns]; rfl, fun _ => rfl,
      fun st' hst' => by rw [hclosing] at hst'; cases hst'⟩
  · refine ⟨hdamaged, true, _, by rw [settleTarget_eq, howns, hclosing]; rfl, hlast, by rw [howns]; rfl,
      fun hb => by rw [howns] at hb; (cases hb), fun st' hst' => ⟨howns, ?_⟩⟩
    rw [hclosing] at hst'
    exact congrArg Statement.settled (Option.some.inj hst')

theorem Begun.settleContents {v : State} (h : Begun k rest r s v) (n : Nat) (w : SettleWrite) :
    v.settleContents n w = s.settleContents n w := by
  have hrecord : ∀ i, v.accountRecord i = s.accountRecord i := fun i => by
    rw [State.accountRecord, State.accountRecord, h.accounts, h.image]
  cases w with
  | step i onStatement x => cases onStatement <;> simp only [State.settleContents, hrecord, h.slots]
  | final i => simp only [State.settleContents, h.slots]
  | node => rfl

theorem Begun.waitsFor_queue {v : State} (h : Begun k rest r s v) (j : SettleJob) (w : SettleWrite) :
    (waitsFor j w v).store.queue = requested (s.settleContents j.interval w) true s.store.queue := by
  rw [waitsFor, h.settleContents, h.store]

theorem settleFinals_begun {v : State} (h : Begun k rest r s v) (hwarn : s.control.supplyWarn = false) (j : SettleJob)
    (l : List AccountId) : ∃ j' w, settleFinals j v l = waitsFor j' w v ∧ j'.interval = j.interval ∧ j'.digests = j.digests := by
  cases l with
  | nil => exact ⟨_, .node, awaitWrite_begun h hwarn _ _, rfl, rfl⟩
  | cons i left => exact ⟨_, .final i, awaitWrite_begun h hwarn _ _, rfl, rfl⟩

theorem slot_of_closing {x : AccountPart} {i : AccountId} {st : Statement} (h : closing s x i = some st) :
    s.table.slots.get i = some st := by
  unfold closing at h
  split at h
  · next ht hslot =>
    split at h
    · exact hslot.trans h
    · cases h
  · cases h

/-- Whatever accounts the job finds, it starts and waits for a write. -/
theorem startSettle_waits (rest : List Job) (hfind : findRecord k s = some r) (hk : r.number = k) (hwarn : s.control.supplyWarn = false) :
    ∃ v j w, Begun k rest r s v ∧ startSettle r rest s = waitsFor j w v ∧ j.interval = k
      ∧ j.digests = (atStart s r).poolDigests s.image := by
  cases hnext : s.image.settleAccountList.find? (fun i => !targetPassed s k (r.accounts.get i) i) with
  | none =>
    have hall : ∀ i ∈ s.image.settleAccountList, targetPassed s k (r.accounts.get i) i = true := by
      simpa [List.find?_eq_none] using hnext
    have hbegun := afterPassing_begun (k := k) (r := r) (s := s) rest s.image.settleAccountList
    obtain ⟨j, w, hfinals, hj, hdigests⟩ := settleFinals_begun hbegun hwarn (settleJobOf s r) (s.finalsOf k)
    exact ⟨_, j, w, hbegun, (startSettle_all_passed rest hfind hk hall).trans hfinals, hj.trans hk, hdigests⟩
  | some i =>
    obtain ⟨hi, before, others, hl, hbefore⟩ := List.find?_eq_some_iff_append.mp hnext
    obtain ⟨hdamaged, onStatement, x, htarget, hlast, -⟩ := targetOf_not_passed (by simpa using hi)
    exact ⟨_, _, _, (afterPassing_begun rest before).raiseLimits _, startSettle_step rest hfind hk hwarn hl (by simpa using hbefore)
      hdamaged htarget hlast, hk, rfl⟩

end

theorem waitsFor_inj {j j' : SettleJob} {w w' : SettleWrite} {v v' : State} (h : waitsFor j w v = waitsFor j' w' v') :
    awaiting j w = awaiting j' w' :=
  Flight.settle.inj (Option.some.inj (congrArg (fun t : State => t.engine.flight) h))

/-- Settles O58: the start's additions and write, and the slot that the completion frees. -/
theorem settleJobAddsWritesAndFreesTheSlot : Obligations.SettleJobAddsWritesAndFreesTheSlot := by
  refine ⟨?_, fun j r before after s hp hflight hwaiting hrec hk hne hsettling hlen => ?_⟩
  · intro k rest r s hf hflight hjobs hfind hk hwarn account mine statement lost guarded passed most held added takes sums full reaches
    obtain ⟨v, j, w, hbegun, hstart, hj, hdigests⟩ := startSettle_waits rest hfind hk hwarn
    have hm : s.interval.membership ≠ .unconfigured := live_configured (live_of_following hf)
    obtain ⟨-, hband, hpools, -⟩ := atStart_unchanged s r
    have hguarded : guarded = fun i => targetGuarded s k (r.accounts.get i) i := funext fun i => by
      simp only [guarded, targetGuarded, show statement i = closing s (r.accounts.get i) i from rfl]
      rfl
    refine ⟨startSettle r rest s, awaiting j w, exec_settleJobStart hf hflight hjobs hfind, by rw [hstart]; rfl, hj,
      by rw [hstart]; exact hbegun.jobs, by rw [hstart]; exact hbegun.accounts, by rw [hstart]; exact hbegun.slots,
      by rw [hstart]; exact (congrArg Store.contents hbegun.store :), by rw [hstart]; exact (congrArg Store.writing hbegun.store :),
      fun hmember hmember' => ?_, fun hobserver => ?_, fun p hp => ?_, ?_, fun before i others hl hbefore hi => ?_, fun hall => ?_⟩
    · rw [hstart] at hmember' ⊢
      obtain ⟨-, hring⟩ | ⟨-, hobserver⟩ := hbegun.stays
      · exact hring.trans (if_neg (by rw [hmember]; decide))
      · exact absurd (hmember'.symm.trans hobserver) (by decide)
    · rw [hstart]
      obtain ⟨-, hring⟩ | ⟨hmember, -⟩ := hbegun.stays
      · exact hring.trans (if_pos hobserver)
      · exact absurd (hobserver.symm.trans hmember) (by decide)
    · have hdigest : (awaiting j w).digests = (atStart s r).poolDigests s.image := hdigests
      rw [hdigest, Record.poolDigests, Four.get_ofFn, if_pos hp, hband, hpools, (atStart_unchanged s r).1, hk]
    · rw [hstart]
      exact hbegun.uncomputed
    · obtain ⟨hdamaged, onStatement, x, htarget, hlast, hside, hmine, hstatement⟩ := targetOf_not_passed (by exact hi)
      have hstep := startSettle_step rest hfind hk hwarn hl hbefore hdamaged htarget hlast
      have hjob := waitsFor_inj (hstart.symm.trans hstep)
      have hpassing := afterPassing_begun (k := k) (r := r) (s := s) rest before
      rw [hjob, hstep]
      have hbegun' := hpassing.raiseLimits (stepAdding s (atStart s r) i onStatement x)
      obtain ⟨-, -, hengine, hstore, htable⟩ := raiseLimits_keeps (stepAdding s (atStart s r) i onStatement x)
        (afterPassing k rest r s before)
      have hreaches : ∀ p f, reaches x i p f = reachesMost s (atStart s r) i x p f := fun p f => by
        rw [reachesMost, addedOf_atStart, hband]
        rfl
      have hqueue := hbegun'.waitsFor_queue { settleJobOf s r with accountsLeft := others }
        (.step i onStatement ⟨k, (stepAdding s (atStart s r) i onStatement x).figures⟩)
      refine ⟨⟨?_, ?_⟩, rfl, x, ⟨k, (stepAdding s (atStart s r) i onStatement x).figures⟩, ⟨rfl, fun p band f hle => ?_⟩,
        fun hown => ⟨hmine hown, ?_, ?_⟩, fun st hst => ⟨(hstatement st hst).2, ?_, ?_⟩, ?_, fun hnone => ?_,
        fun p f hpf honly hrecord => ?_⟩
      · exact (congrArg (fun t : AccountTable => t.counters.noTarget) htable :)
      · rw [hguarded]
        exact (congrArg (fun e : Engine => e.counters.settleSkipped) hengine :)
      · refine (heldOf_stepAdding (by exact hle)).trans ?_
        rw [addedOf_atStart, hband]
        rfl
      · rw [show onStatement = false from hside.trans (congrArg (!·) hown)]
        rfl
      · rw [show onStatement = false from hside.trans (congrArg (!·) hown)] at hqueue ⊢
        exact hqueue
      · rw [show onStatement = true from hside.trans (congrArg (!·) (hstatement st hst).1)]
        rfl
      · rw [show onStatement = true from hside.trans (congrArg (!·) (hstatement st hst).1)] at hqueue ⊢
        rw [State.settleContents, slot_of_closing (by exact hst)] at hqueue
        exact hqueue
      · refine (congrArg (fun t : AccountTable => t.counters.saturatedAdds) htable).trans ?_
        rw [stepAdding_saturated]
        simp only [addedOf_atStart, hband]
        rfl
      · have hnil := stepAdding_limits_nil (s := s) (r := atStart s r) (i := i) (onStatement := onStatement) (x := x)
          fun p f => (hreaches p f).symm.trans (hnone p f)
        obtain ⟨hcond, hinterval⟩ := raiseLimits_nil hnil (afterPassing k rest r s before)
        exact ⟨hcond, hinterval⟩
      · have hsingle := stepAdding_limits_single (onStatement := onStatement) ((hreaches p f).symm.trans hpf) fun q g hqg =>
          honly q g ((hreaches q g).trans hqg)
        have hcond := raiseLimits_single (s := afterPassing k rest r s before) hsingle hm hrecord
        refine ⟨(congrArg (fun c : CondUnit => c.counters.faultsRaised) hcond :), (congrArg CondUnit.record hcond).trans ?_⟩
        have htarget : (if onStatement then 16 + i.val else i.val) = if mine i then i.val else 16 + i.val := by
          rw [hside, show owns s (r.accounts.get i) i = mine i from rfl]
          cases mine i <;> rfl
        rw [htarget, hband]
        rfl
    · have hfinals := startSettle_all_passed rest hfind hk hall
      have hpassing := afterPassing_begun (k := k) (r := r) (s := s) rest s.image.settleAccountList
      obtain ⟨j', w', hwaits, -⟩ := settleFinals_begun hpassing hwarn (settleJobOf s r) (s.finalsOf k)
      refine ⟨?_, fun hcut => ?_⟩
      · rw [hfinals, hwaits]
        exact ⟨rfl, by rw [hguarded]; rfl⟩
      · have hnil : s.finalsOf k = [] := List.filter_eq_nil_iff.mpr fun i _ => by
          cases hslot : s.table.slots.get i with
          | none => simp
          | some st => simpa using hcut i st hslot
        rw [hnil] at hfinals
        have hnode : startSettle r rest s = waitsFor { settleJobOf s r with accountsLeft := [], finalsLeft := [] } .node
            (afterPassing k rest r s s.image.settleAccountList) := hfinals.trans (awaitWrite_begun hpassing hwarn _ _)
        rw [waitsFor_inj (hstart.symm.trans hnode), hnode]
        subst hk
        exact ⟨rfl, rfl⟩
  · have h : Has s before r after j.interval := ⟨hrec, hk, hne⟩
    show execSettleJobComplete s = _
    simp only [execSettleJobComplete, Control.powered_iff.mpr hp, hflight, hwaiting, h.find, hsettling, beq_self_eq_true, if_true,
      completeSettle_eq h hlen]
    rfl

end Sys2Proof.EngineUnit

namespace Sys2Proof.IntervalUnit

open Sys2Proof Sys2Proof.Machine Sys2Proof.Notices Sys2Proof.ShareLine Sys2Proof.Reception Sys2Proof.RingUnit

/-! ## The node's own CLOSE in the queue (R108, R110, R147) -/

theorem ownCloseQueued_eq_false {s : State} (h : ∀ f ∈ s.line.queue, f.body.kind ≠ 1) : s.ownCloseQueued = false := by
  simpa [State.ownCloseQueued, isClose_eq_kind] using h

theorem withdrawOwnClose_of_none {s : State} (h : ∀ f ∈ s.line.queue, f.body.kind ≠ 1) : withdrawOwnClose s = s := by
  rw [withdrawOwnClose, if_neg (by simp [ownCloseQueued_eq_false h])]

/-- The line after its one CLOSE has been withdrawn, cut off if it was on the line. -/
def lineWithout (l : Line) (f : TxFrame) (rest : List TxFrame) : Line := { l with
  queue := rest
  monitor := if f.sending then .gap else l.monitor
  recessive := if f.sending then 0 else l.recessive
  dominant := if f.sending then 0 else l.dominant
  counters := { l.counters with
    rxBadForm := if f.sending then bump l.counters.rxBadForm else l.counters.rxBadForm
    txWithdrawn := bump l.counters.txWithdrawn
    txCutOff := if f.sending then bump l.counters.txCutOff else l.counters.txCutOff } }

section
variable {s : State} {f : TxFrame} {before after : List TxFrame}

theorem withdraw_one {p : FrameBody → Bool} (hq : s.line.queue = before ++ f :: after) (hf : p f.body = true)
    (h : ∀ g ∈ before ++ after, p g.body = false) : withdraw p s = { s with line := lineWithout s.line f (before ++ after) } := by
  have hbefore : ∀ g ∈ before, p g.body = false := fun g hg => h g (List.mem_append_left _ hg)
  have hafter : ∀ g ∈ after, p g.body = false := fun g hg => h g (List.mem_append_right _ hg)
  have hgone : s.line.queue.filter (fun g => p g.body) = [f] := by
    rw [hq, List.filter_append, List.filter_cons, if_pos hf, List.filter_eq_nil_iff.mpr (by simpa using hbefore),
      List.filter_eq_nil_iff.mpr (by simpa using hafter), List.nil_append]
  have hkept : s.line.queue.filter (fun g => !p g.body) = before ++ after := by
    rw [hq, List.filter_append, List.filter_cons, if_neg (by simp [hf]), List.filter_eq_self.mpr (by simpa using hbefore),
      List.filter_eq_self.mpr (by simpa using hafter)]
  cases hsending : f.sending <;> simp [withdraw, hgone, hkept, hsending, State.onLine, lineWithout]

theorem withdrawOwnClose_one (hq : s.line.queue = before ++ f :: after) (hf : f.body.kind = 1)
    (h : ∀ g ∈ before ++ after, g.body.kind ≠ 1) : withdrawOwnClose s = { s with
      interval := { s.interval with
        timer := .running s.image.lengthMs
        counters := { s.interval.counters with closeWithdrawn := bump s.interval.counters.closeWithdrawn } }
      line := lineWithout s.line f (before ++ after) } := by
  have hqueued : s.ownCloseQueued = true := by simp [State.ownCloseQueued, isClose_eq_kind, hq, hf]
  rw [withdrawOwnClose, if_pos hqueued,
    withdraw_one hq (by simpa [isClose_eq_kind] using hf) fun g hg => by simpa [isClose_eq_kind] using h g hg]
  rfl

end

/-! ## TAKE_CLOSE in a following node (R109) -/

section
variable {s : State} {e : RxEntry} {j : Nat} {band : Band}

theorem exec_takeClose (hf : s.following = true) (he : s.rxHead .current = some e) (hb : e.frame.body = .close j band) :
    exec .takeClose s = .next (foreignClose j band e.frame.source { s with rx := s.rx.without e }) := by
  have hm := not_listening hf
  obtain ⟨⟨source, body⟩, cls, ord, na⟩ := e
  obtain rfl : body = .close j band := hb
  show execTakeClose s = _
  simp only [execTakeClose, live_of_following hf, he, takeHead_eq he]
  rw [if_neg (by simpa using hm)]

theorem ownCloseOf_iff : s.ownCloseOf j = true ↔ ∃ f ∈ s.line.queue, ∃ own, f.body = .close j own := by
  simp only [State.ownCloseOf, List.any_eq_true]
  refine exists_congr fun f => and_congr_right fun _ => ?_
  cases f.body <;> simp

theorem ownCloseOf_eq_false (h : ∀ f ∈ s.line.queue, ∀ own, f.body ≠ .close j own) : s.ownCloseOf j = false := by
  refine Bool.eq_false_iff.mpr fun hown => ?_
  obtain ⟨f, hf, own, hbody⟩ := ownCloseOf_iff.mp hown
  exact h f hf own hbody

theorem no_close_of_kind {q : List TxFrame} (h : ∀ f ∈ q, f.body.kind ≠ 1) (j : Nat) : ∀ f ∈ q, ∀ own, f.body ≠ .close j own := by
  intro f hf own hbody
  exact h f hf (by rw [hbody]; rfl)

end

/-- Settles O37: the limit, the own CLOSE, a duplicate, and one behind. -/
theorem foreignCloseThatClosesNothing : Obligations.ForeignCloseThatClosesNothing := by
  intro e j band s hf he hb counted k
  rw [exec_takeClose hf he hb]
  refine ⟨fun hj => ?_, fun f own before after hj hq hown hothers => ?_, fun hlt hj hnone hheld => ?_, fun hlt hj hnone hheld => ?_⟩
  · rw [foreignClose, if_pos (by exact hj)]
    rfl
  · have hownClose : State.ownCloseOf { s with rx := s.rx.without e } j = true :=
      ownCloseOf_iff.mpr ⟨f, by simp [hq], own, hown⟩
    rw [foreignClose, if_neg (by exact hj), if_pos hownClose, withdrawOwnClose_one (by exact hq) (by rw [hown]; rfl) hothers,
      replaceOpenBand, updateRecord_eq]
    rfl
  · have hfound : (findRecord j { s with rx := s.rx.without e }).isSome = true := by
      simpa [findRecord] using hheld
    rw [foreignClose, if_neg (by exact hj), if_neg (by simp [ownCloseOf_eq_false (s := { s with rx := s.rx.without e }) (no_close_of_kind hnone j)]),
      if_neg (by exact hlt.ne), if_neg (by exact hlt.le.not_gt), if_pos hfound]
    rfl
  · have hfound : findRecord j { s with rx := s.rx.without e } = none := findRecord_eq_none hheld
    rw [foreignClose, if_neg (by exact hj), if_neg (by simp [ownCloseOf_eq_false (s := { s with rx := s.rx.without e }) (no_close_of_kind hnone j)]),
      if_neg (by exact hlt.ne), if_neg (by exact hlt.le.not_gt), hfound]
    rfl

end Sys2Proof.IntervalUnit

namespace Sys2Proof.IntervalUnit

open Sys2Proof Sys2Proof.Machine Sys2Proof.Notices Sys2Proof.ShareLine Sys2Proof.Reception Sys2Proof.RingUnit Sys2Proof.EngineUnit
open Sys2Proof.RingOrder Sys2Proof.Effects

/-! ## The evaluation of an entry (R132) -/

section
variable {limit : Nat} {e : Peer}

theorem evaluate_unquarantined (h : e.state ≠ .quarantined) : e.evaluate limit =
    if limit < e.frames then if 2 ≤ e.noisy then { e with noisy := 3, state := .quarantined } else { e with noisy := e.noisy + 1 }
    else { e with noisy := 0 } := by
  rw [Peer.evaluate, if_neg (by simpa using h)]
  simp only [show (3 ≤ e.noisy + 1) = (2 ≤ e.noisy) from propext (by omega)]

theorem evaluate_quarantined (h : e.state = .quarantined) : e.evaluate limit =
    if limit < e.frames then { e with noisy := min (e.noisy + 1) 3 }
    else if limit / 2 < e.frames then { e with noisy := 0 }
    else { e with state := .active, missed := 0, noisy := 0 } := by
  rw [Peer.evaluate, if_pos (by simpa using h)]

/-- The entry becomes QUARANTINED at the boundary. -/
theorem enters_iff : (e.state != .quarantined && (e.evaluate limit).state == .quarantined) =
    (e.state != .quarantined && decide (limit < e.frames) && decide (2 ≤ e.noisy)) := by
  by_cases h : e.state = .quarantined
  · simp [h]
  · rw [evaluate_unquarantined h]
    by_cases hframes : limit < e.frames
    · by_cases hnoisy : 2 ≤ e.noisy <;> simp [h, hframes, hnoisy]
    · simp [h, hframes]

/-- The entry is released at the boundary. -/
theorem released_iff : (e.state == .quarantined && (e.evaluate limit).state != .quarantined) =
    (e.state == .quarantined && decide (e.frames ≤ limit / 2)) := by
  by_cases h : e.state = .quarantined
  · rw [evaluate_quarantined h]
    by_cases hframes : limit < e.frames
    · have hhalf : ¬ e.frames ≤ limit / 2 := by omega
      simp [h, hframes, hhalf]
    · by_cases hhalf : limit / 2 < e.frames
      · simp [h, hframes, hhalf]
      · simp [h, hframes, hhalf, Nat.not_lt.mp hhalf]
  · rw [beq_eq_false_iff_ne.mpr h, Bool.false_and, Bool.false_and]

end

/-! ## The boundary of a count period (R131, R132) -/

/-- The entries that become QUARANTINED. -/
def entering (r : Roster) (limit : Nat) : List Peer :=
  r.entries.filter (fun e => e.state != .quarantined && decide (limit < e.frames) && decide (2 ≤ e.noisy))

theorem newlyQuarantined_eq (r : Roster) (limit : Nat) : r.newlyQuarantined limit = (entering r limit).map (·.station) := by
  simp only [Roster.newlyQuarantined, entering, enters_iff]

theorem released_eq (r : Roster) (limit : Nat) :
    r.released limit = r.entries.countP (fun e => e.state == .quarantined && decide (e.frames ≤ limit / 2)) := by
  simp only [Roster.released, released_iff]

/-- The roster after the boundary. -/
def boundaryRoster (r : Roster) (limit : Nat) : Roster := { r with
  entries := r.entries.map (fun e => { e.evaluate limit with frames := 0 })
  fullMark := false
  counters := { r.counters with
    quarantines := bumpBy (entering r limit).length r.counters.quarantines
    quarantineReleases := bumpBy (r.released limit) r.counters.quarantineReleases } }

/-- The state after the boundary, its notices yet to be raised. -/
def atBoundary (s : State) : State := { s with
  roster := boundaryRoster s.roster s.image.rateLimit
  line := { s.line with stuckMark := false, dupMark := false }
  rx := { s.rx with dropCurrent := false, dropLate := false, dropService := false } }

theorem countBoundary_eq (s : State) : countBoundary s =
    raiseAll ((entering s.roster s.image.rateLimit).map (fun e => (.noisyPeer, e.station))) (atBoundary s) := by
  simp only [countBoundary, newlyQuarantined_eq, List.foldl_map, raiseAll, List.length_map]
  rfl

theorem entering_of_quiet {r : Roster} {limit : Nat} (h : ∀ e ∈ r.entries, e.frames ≤ limit) : entering r limit = [] :=
  List.filter_eq_nil_iff.mpr fun e he => by simp [Nat.not_lt.mpr (h e he)]

theorem countBoundary_of_quiet {s : State} (h : ∀ e ∈ s.roster.entries, e.frames ≤ s.image.rateLimit) :
    countBoundary s = atBoundary s := by
  rw [countBoundary_eq, entering_of_quiet h]
  rfl

theorem countBoundary_cond {s : State} (hm : s.interval.membership ≠ .unconfigured)
    (hroom : s.cond.notices.length + (entering s.roster s.image.rateLimit).length ≤ 8) :
    (countBoundary s).cond.notices.map shown = s.cond.notices.map shown
      ++ (entering s.roster s.image.rateLimit).map (fun e => (.noisyPeer, e.station, s.interval.openNumber, .unsent)) := by
  rw [countBoundary_eq]
  obtain ⟨hnotices, -⟩ := raiseAll_of_room (s := atBoundary s) (l := (entering s.roster s.image.rateLimit).map (fun e =>
    (.noisyPeer, e.station))) hm (by simpa [atBoundary] using hroom)
  rw [hnotices, List.map_map]
  rfl

/-! ## A close that is held (R113, R114) -/

/-- The interval unit with a request held or merged, the timer loaded. -/
def holding (q : HeldClose) (lengthMs : Nat) (u : IntervalUnit) : IntervalUnit :=
  match u.held with
  | none => { u with
      timer := .running lengthMs, held := some q, counters := { u.counters with closesHeld := bump u.counters.closesHeld } }
  | some h => { u with
      timer := .running lengthMs
      held := some (h.merge q)
      counters := { u.counters with heldMerged := bump u.counters.heldMerged } }

theorem holdClose_of_none {s : State} (hq : ∀ f ∈ s.line.queue, f.body.kind ≠ 1) (q : HeldClose) :
    holdClose q s = countBoundary { s with interval := holding q s.image.lengthMs s.interval } := by
  unfold holdClose
  dsimp only
  rw [withdrawOwnClose_of_none (by exact hq)]
  congr 1
  unfold holding loadTimer
  cases hheld : s.interval.held <;> simp only [State.onInterval, hheld]

/-! ## The own expiry (R103, R107, R113) -/

theorem exec_ownExpiry {s : State} {ms : Nat} (hf : s.following = true) (ht : s.interval.timer = .running ms) :
    exec .ownExpiry s = .next (ownExpiry s) := by
  show execOwnExpiry s = _
  simp only [execOwnExpiry, hf, ht]

theorem takesNow_eq_false {s : State} (h : s.interval.held ≠ none ∨ s.interval.drain = true ∨ 4 ≤ s.ring.records.length) :
    s.takesNow = false := by
  refine Bool.eq_false_iff.mpr fun ht => ?_
  obtain ⟨⟨hroom, hdrain⟩, hheld⟩ := takesNow_iff.mp ht
  obtain h | h | h := h
  · exact h hheld
  · simp [h] at hdrain
  · omega

/-- Settles O34: the limit, the close held or merged with the boundary of the count period, and R132's table. -/
theorem ownExpiryAtTheLimitOrHeld : Obligations.OwnExpiryAtTheLimitOrHeld := by
  intro ms s hf ht
  have hexec := exec_ownExpiry hf ht
  refine ⟨fun hmax => ?_, fun hmax hbusy hq => ?_, fun limit e => ⟨fun h => ⟨fun hlt hn => ?_, fun hlt hn => ?_, fun hle => ?_⟩,
    fun h => ⟨fun hlt => ?_, fun hlt hle => ?_, fun hle => ?_⟩⟩⟩
  · rw [hexec, ownExpiry, if_pos (by exact hmax)]
    rfl
  · have hm : s.interval.membership ≠ .unconfigured := live_configured (live_of_following hf)
    let u : State := { s with interval := holding ⟨s.interval.openNumber, .own, none, .schedule⟩ s.image.lengthMs s.interval }
    have hmembership : u.interval.membership ≠ .unconfigured ∧ u.interval.openNumber = s.interval.openNumber := by
      simp only [u, holding]
      split <;> exact ⟨hm, rfl⟩
    have hhold : ownExpiry s = countBoundary u := by
      rw [ownExpiry, if_neg (by exact hmax), if_neg (by simp [takesNow_eq_false hbusy]), holdClose_of_none hq]
    have hroster : (countBoundary u).roster = boundaryRoster s.roster s.image.rateLimit := by
      rw [countBoundary_roster, boundaryRoster, newlyQuarantined_eq, List.length_map]
    refine ⟨countBoundary u, by rw [hexec, hhold], ?_, fun hnone => ?_, fun h hheld => ?_, by rw [hroster]; rfl, by rw [hroster]; rfl,
      by simp [u], by simp [u], by rw [hroster, boundaryRoster, released_eq]; rfl, fun hroom => ?_⟩
    · rw [state_eq_iff]
      simp [u]
    · simp only [countBoundary_keeps, u, holding, hnone]
    · simp only [countBoundary_keeps, u, holding, hheld]
      rfl
    · have hcond := countBoundary_cond (s := u) hmembership.1 (by exact hroom)
      rw [hmembership.2] at hcond
      exact hcond
  · rw [evaluate_unquarantined h, if_pos hlt, if_pos hn]
  · rw [evaluate_unquarantined h, if_pos hlt, if_neg (by omega)]
  · rw [evaluate_unquarantined h, if_neg (by omega)]
  · rw [evaluate_quarantined h, if_pos hlt]
  · rw [evaluate_quarantined h, if_neg (by omega), if_pos hlt]
  · rw [evaluate_quarantined h, if_neg (by omega), if_neg (by omega)]

end Sys2Proof.IntervalUnit

namespace Sys2Proof.IntervalUnit

open Sys2Proof Sys2Proof.Machine Sys2Proof.Notices Sys2Proof.ShareLine Sys2Proof.Reception Sys2Proof.RingUnit Sys2Proof.EngineUnit
open Sys2Proof.RingOrder Sys2Proof.Effects

/-! ## The own ANNOUNCE falls due (R128) -/

theorem announceDue_queued {s : State} (hm : s.interval.membership = .member) (hnone : s.roster.announce = .none)
    (hroom : classFill .peer s.line.queue < 8) : announceDue s = { s with
      roster := { s.roster with announce := .queued }
      line := s.lineWith (queued s.announceBody s.line.queue) } := by
  have hpeer : s.hasRoom .peer = true := decide_eq_true hroom
  rw [announceDue, if_pos (by simp [hm, hnone]), if_pos hpeer, enqueue_eq]
  rfl

/-! ## The node becomes MEMBER (R118, R119) -/

/-- The state with its first record open. -/
def joined (x : State) (n : Nat) (band : Band) : State := { x with
  ring := { x.ring with records := x.ring.records ++ [Record.atOpen n band true] }
  interval := { x.interval with
    membership := .member, openNumber := n, timer := .running x.image.lengthMs, listen := none } }

theorem enterMember_eq (n : Nat) (band : Band) (x : State) : enterMember n band x = announceDue (countBoundary (joined x n band)) := rfl

theorem lineWith_atBoundary (x : State) (q : List TxFrame) :
    (atBoundary x).lineWith q = { x.lineWith q with stuckMark := false, dupMark := false } := by
  have hholds : (atBoundary x).holdsStart q = x.holdsStart q := rfl
  unfold State.lineWith
  rw [hholds]
  split <;> rfl

theorem lineWith_joined {x : State} (hm : x.interval.membership = .listening) (n : Nat) (band : Band) (q : List TxFrame) :
    (joined x n band).lineWith q = x.lineWith q := by
  have hlive : (joined x n band).live = x.live := by simp [State.live, joined, State.powered, hm]
  have hholds : (joined x n band).holdsStart q = x.holdsStart q := by
    rw [State.holdsStart, hlive]
    rfl
  unfold State.lineWith
  rw [hholds]
  rfl

/-- The state with the first record open, the boundary past and the ANNOUNCE queued. -/
def opens (x : State) (n : Nat) (band : Band) (c : IntervalCounters) : State := { x with
  ring := { x.ring with records := [Record.atOpen n band true] }
  interval := { x.interval with
    membership := .member, openNumber := n, timer := .running x.image.lengthMs, listen := none, counters := c }
  roster := { x.roster with
    entries := x.roster.entries.map (fun e => { e.evaluate x.image.rateLimit with frames := 0 })
    fullMark := false
    announce := .queued
    counters := { x.roster.counters with
      quarantineReleases := bumpBy (x.roster.released x.image.rateLimit) x.roster.counters.quarantineReleases } }
  line := { x.lineWith (queued (.announce .node (some .member) x.image.mask x.roster.planDigest n
      (some ⟨.running x.image.lengthMs, x.interval.held⟩)) x.line.queue) with
    stuckMark := false, dupMark := false }
  rx := { x.rx with dropCurrent := false, dropLate := false, dropService := false } }

/-- A node that can join: LISTENING with an empty ring, no ANNOUNCE under way, room for one, and no entry above its rate. -/
structure CanJoin (x : State) : Prop where
  listening : x.interval.membership = .listening
  empty : x.ring.records = []
  announce : x.roster.announce = .none
  room : classFill .peer x.line.queue < 8
  quiet : ∀ e ∈ x.roster.entries, e.frames ≤ x.image.rateLimit

/-- The state with these counters of the interval unit. -/
def withCounters (c : IntervalCounters) (x : State) : State := { x with interval := { x.interval with counters := c } }

theorem enterMember_opens {x : State} (h : CanJoin x) (n : Nat) (band : Band) (c : IntervalCounters) :
    enterMember n band (withCounters c x) = opens x n band c := by
  have hline : ∀ q, (atBoundary (joined (withCounters c x) n band)).lineWith q =
      { x.lineWith q with stuckMark := false, dupMark := false } := fun q => by
    rw [lineWith_atBoundary, lineWith_joined (by exact h.listening)]
    rfl
  rw [enterMember_eq, countBoundary_of_quiet (by exact h.quiet), announceDue_queued rfl (by exact h.announce) (by exact h.room), hline]
  simp only [atBoundary, boundaryRoster, joined, withCounters, entering_of_quiet h.quiet, h.empty, List.nil_append]
  rfl

theorem adopt_opens {x : State} (h : CanJoin x) {j : Nat} (hj : 1 ≤ j) (hmax : j < 4294967295) (source : BandSource) :
    adopt j source x = opens x (j + 1) (x.image.bandFor (j + 1) source)
      { x.interval.counters with adoptions := bump x.interval.counters.adoptions } := by
  rw [adopt, if_neg (by omega), if_neg (by exact hmax.ne)]
  exact enterMember_opens h _ _ _

theorem adopt_limit (x : State) (source : BandSource) : adopt 4294967295 source x = { x with interval := { x.interval with
    counters := { x.interval.counters with numberLimit := bump x.interval.counters.numberLimit } } } := rfl

theorem adopt_zero (x : State) (source : BandSource) : adopt 0 source x = x := rfl

section
variable {s : State} {e : RxEntry}

theorem exec_founding (hl : s.live = true) (hm : s.interval.membership = .listening) :
    exec .founding s = .next (enterMember s.image.founding (s.image.scheduledBand s.image.founding)
      (withCounters { s.interval.counters with foundings := bump s.interval.counters.foundings } s)) := by
  show execFounding s = _
  rw [execFounding, if_pos (by simp [live_powered hl, hm])]
  rfl

theorem exec_takeClose_listening (hl : s.live = true) (hm : s.interval.membership = .listening) {j : Nat} {band : Band}
    (he : s.rxHead .current = some e) (hb : e.frame.body = .close j band) :
    exec .takeClose s = .next (adopt j (.frame band) { s with rx := s.rx.without e }) := by
  obtain ⟨⟨source, body⟩, cls, ord, na⟩ := e
  obtain rfl : body = .close j band := hb
  show execTakeClose s = _
  simp only [execTakeClose, hl, he, takeHead_eq he]
  rw [if_pos (by simpa using hm)]

theorem exec_takeSummary_listening (hl : s.live = true) (hm : s.interval.membership = .listening) {cls : SummaryClass} {b : SummaryBody}
    (he : s.rxHead (rxClassOf cls) = some e) (hb : e.frame.body = .summary b) :
    exec (.takeSummary cls) s = .next (adopt b.interval .schedule { s with rx := s.rx.without e }) := by
  obtain ⟨⟨source, body⟩, c, ord, na⟩ := e
  obtain rfl : body = .summary b := hb
  show execTakeSummary cls s = _
  simp only [execTakeSummary, hl, he, takeHead_eq he]
  rw [if_pos (by simpa using hm)]

end

/-- Settles O36: the founding, and the adoption of a CLOSE's or a SUMMARY's number. -/
theorem foundingAndAdoptionOpenTheFirstRecord : Obligations.FoundingAndAdoptionOpenTheFirstRecord := by
  intro s hl hm hempty hannounce hroom hquiet opens' adopting limited
  have hjoin : CanJoin s := ⟨hm, hempty, hannounce, hroom, hquiet⟩
  have htaken : ∀ e, CanJoin { s with rx := s.rx.without e } := fun e => ⟨hm, hempty, hannounce, hroom, hquiet⟩
  refine ⟨?_, fun e j band he hb => ?_, fun cls e b he hb => ?_⟩
  · rw [exec_founding hl hm, enterMember_opens hjoin]
    rfl
  · rw [exec_takeClose_listening hl hm he hb]
    refine ⟨fun hj hmax => ?_, fun hj => ?_, fun hj => ?_⟩
    · rw [adopt_opens (htaken e) hj hmax]
      rfl
    · rw [hj, adopt_limit]
    · rw [hj, adopt_zero]
  · rw [exec_takeSummary_listening hl hm he hb]
    refine ⟨fun hj hmax => ?_, fun hj => ?_, fun hj => ?_⟩
    · rw [adopt_opens (htaken e) hj hmax]
      rfl
    · rw [hj, adopt_limit]
    · rw [hj, adopt_zero]

end Sys2Proof.IntervalUnit

namespace Sys2Proof.IntervalUnit

open Sys2Proof Sys2Proof.Machine Sys2Proof.Notices Sys2Proof.ShareLine Sys2Proof.Reception Sys2Proof.RingUnit Sys2Proof.EngineUnit
open Sys2Proof.RingOrder Sys2Proof.Effects

/-! ## The closed record (R7, R8) -/

theorem renumberOpen_eq (c : Nat) (s : State) : ∃ g, renumberOpen c s = { s with ring := g } := by
  unfold renumberOpen
  split
  · exact ⟨_, rfl⟩
  · exact ⟨s.ring, rfl⟩

/-- The closed record reads the channels, the table and the roster, which the renumbering leaves. -/
theorem closedAs_renumberOpen (c : Nat) (s : State) (cause : CloseCause) (station : Option Nat) (r : Record) :
    closedAs (renumberOpen c s) cause station r = closedAs s cause station r := by
  obtain ⟨g, hg⟩ := renumberOpen_eq c s
  rw [hg]
  rfl

/-- y is the closed record x as far as the close has filled it, in its gather or gone on. -/
structure SameClose (x y : Record) : Prop where
  number : y.number = x.number
  cause : y.cause = x.cause
  causeStation : y.causeStation = x.causeStation
  band : y.band = x.band
  partialMark : y.partialMark = x.partialMark
  renumbered : y.renumbered = x.renumbered
  send : y.send = x.send
  accounts : y.accounts = x.accounts
  expected : ∀ p, (y.pools.get p).expected = (x.pools.get p).expected
  own : ∀ p, (y.pools.get p).own = (x.pools.get p).own
  progress : (y.state = x.state ∧ y.gather = x.gather) ∨ (y.state = .provisional ∧ y.gather = none)

theorem closedFrom_sameClose {s : State} {r x y : Record} {c : Nat} {cause : CloseCause} {station : Option Nat}
    (h : s.closedFrom r x c cause station) (hxy : SameClose x y) : s.closedFrom r y c cause station := by
  obtain ⟨hnumber, hcause, hstation, hband, hpartial, hrenumbered, hsend, hprogress, htenancy, hparts, hpools⟩ := h
  refine ⟨hxy.number.trans hnumber, hxy.cause.trans hcause, hxy.causeStation.trans hstation, hxy.band.trans hband,
    hxy.partialMark.trans hpartial, hxy.renumbered.trans hrenumbered, hxy.send.trans hsend, ?_, ?_, ?_, ?_⟩
  · obtain ⟨hstate, hgather⟩ | hdone := hxy.progress
    · rw [hstate, hgather]
      exact hprogress
    · exact .inr hdone
  · rw [hxy.accounts]
    exact htenancy
  · rw [hxy.accounts]
    exact hparts
  · rw [hxy.accounts]
    intro p hp
    rw [hxy.expected, hxy.own]
    exact hpools p hp

/-- The closed record goes on at once when all its pools are COMPLETE, and is otherwise as the close fills it. -/
theorem closedAs_sameClose (s : State) (cause : CloseCause) (station : Option Nat) (r : Record) :
    SameClose (s.closedRecord cause station r) (closedAs s cause station r) := by
  unfold closedAs
  dsimp only
  split
  · exact ⟨rfl, rfl, rfl, rfl, rfl, rfl, rfl, rfl, fun _ => rfl, fun _ => rfl, .inr ⟨rfl, rfl⟩⟩
  · exact ⟨rfl, rfl, rfl, rfl, rfl, rfl, rfl, rfl, fun _ => rfl, fun _ => rfl, .inl ⟨rfl, rfl⟩⟩

/-! ### Its snapshots -/

section
variable (s : State)

/-- The channels of a kind and pool. -/
def wired (kind : ChannelKind) (p : PoolId) : List ChannelId :=
  allChannels.filter (fun ch => (s.image.channels.get ch).kind == kind && (s.image.channels.get ch).pool == p)

/-- The channels whose consumption the account bears in a pool. -/
def billed (i : AccountId) (p : PoolId) : List ChannelId :=
  (wired s .consumer p).filter (fun ch => (s.image.channels.get ch).account == i)

/-- The energy that a channel's snapshot holds. -/
def energyOf (ch : ChannelId) : Nat := min (s.channels.get ch).energy (281474976710655 - (s.channels.get ch).life.energy)

theorem snapshots_all (kind : ChannelKind) (p : PoolId) (band : Band) : s.snapshots kind p band (fun _ => true) =
    (wired s kind p).map (fun ch => (s.channels.get ch).snapshot (s.image.channels.get ch) band) := by
  simp only [State.snapshots, Bool.and_true]
  rfl

theorem snapshots_account (p : PoolId) (band : Band) (i : AccountId) : s.snapshots .consumer p band (fun d => d.account == i) =
    (billed s i p).map (fun ch => (s.channels.get ch).snapshot (s.image.channels.get ch) band) := by
  rw [billed, wired, List.filter_filter]
  refine congrArg (List.map _) (List.filter_congr fun ch _ => ?_)
  exact Bool.and_comm ..

theorem within_le (v : Nat) (beyond : Nat → Fin 4294967296) : within v beyond ≤ 4294967295 := by
  unfold within
  split
  · next h => exact h
  · exact Nat.le_of_lt_succ (beyond v).isLt

theorem within_of_le {v : Nat} (h : v ≤ 4294967295) (beyond : Nat → Fin 4294967296) : within v beyond = v := if_pos h

theorem snapshot_cost {ch : ChannelId} {p : PoolId} (h : ch ∈ wired s .supply p) (band : Band) :
    ((s.channels.get ch).snapshot (s.image.channels.get ch) band).cost =
      min ((s.channels.get ch).pulses * (s.image.channels.get ch).prices.get band) 1099511627775 := by
  have hkind : (s.image.channels.get ch).kind = .supply := by
    simp only [wired, List.mem_filter, Bool.and_eq_true, beq_iff_eq] at h
    exact h.2.1
  exact SupplyCost.snapshot_cost_supply hkind band _

/-- The closed record before its gather is judged is the one written out from the channels, the table and the roster. -/
theorem closedRecord_closedFrom {c : Nat} {r : Record} (hk : r.number = s.interval.openNumber) (hc : s.interval.openNumber ≤ c)
    (cause : CloseCause) (station : Option Nat) :
    s.closedFrom r (s.closedRecord cause station (renumbered s c r)) c cause station := by
  have hband : (renumbered s c r).band = r.band := by unfold renumbered; split <;> rfl
  unfold State.closedFrom
  intro wired' billed' energy cost takes tenants part factor peers
  have hpart : ∀ i p, part i p = s.closePool r.band i p := fun i p => by
    simp only [part, State.closedRecord, State.closeAccounts, Table.get_ofFn, Four.get_ofFn, hband]
  refine ⟨renumbered_number hk hc, rfl, rfl, hband, ?_, ?_, ?_, .inl ⟨rfl, rfl⟩, fun i => ?_, fun i p => ⟨fun htakes => ?_, fun htakes => ?_⟩,
    fun p hp => ?_⟩
  · show (renumbered s c r).partialMark = _
    unfold renumbered
    split <;> rfl
  · show (renumbered s c r).renumbered = _
    unfold renumbered
    split
    · next h => simp [Record.renumber, h]
    · next h => simp [h]
  · show some (s.rank * s.image.staggerMs) = _
    rw [State.rank, show peers = s.roster.entries.filter _ from rfl, List.countP_filter]
    simp only [Bool.and_comm (decide _)]
  · simp only [State.closedRecord, State.closeAccounts, Table.get_ofFn]
  · have hbilled : billed' i p = billed s i p := rfl
    have htakes' : s.image.takesPart i p = true := htakes
    rw [hpart, hbilled, State.closePool, if_pos htakes', snapshots_account]
    simp only [List.map_map, List.any_map]
    exact ⟨_, _, rfl, within_le _ _, within_le _ _, fun hle => within_of_le hle _, fun hle => within_of_le hle _⟩
  · have htakes' : s.image.takesPart i p = false := htakes
    rw [hpart, State.closePool, if_neg (by simp [htakes'])]
  · have hpool : (s.closedRecord cause station (renumbered s c r)).pools.get p =
        ((renumbered s c r).pools.get p).close s.image.station (s.roster.expectedSet p)
          (s.ownSummary r.band (s.closeAccounts r.band) p) := by
      simp only [State.closedRecord, Four.get_ofFn, if_pos hp, hband]
    rw [hpool]
    refine ⟨?_, ?_⟩
    · show s.roster.expectedSet p = _
      rw [Roster.expectedSet, show peers = s.roster.entries.filter _ from rfl, List.filter_filter]
      refine congrArg (List.map _) (List.filter_congr fun e _ => ?_)
      exact (Bool.and_assoc ..).trans (Bool.and_comm ..)
    · rw [SupplyCost.close_own, State.ownSummary]
      have hcost : ((wired s .supply p).map (fun ch => ((s.channels.get ch).snapshot (s.image.channels.get ch) r.band).cost)) =
          (wired s .supply p).map cost := List.map_congr_left fun ch hch => snapshot_cost s hch r.band
      have haccount : ∀ i, ((s.closeAccounts r.band).get i).pools.get p = part i p := fun i => by
        rw [hpart]
        simp only [State.closeAccounts, Table.get_ofFn, Four.get_ofFn]
      simp only [snapshots_all, List.map_map, List.any_append, List.any_map, haccount, Function.comp_def, hcost]
      rfl

end

end Sys2Proof.IntervalUnit

namespace Sys2Proof.Cuts

open Sys2Proof Sys2Proof.Machine Sys2Proof.Notices Sys2Proof.Reception Sys2Proof.Requests

/-! ## What concerns one account (R62, R63, R65) -/

/-- The write names the account's record or its statement's. -/
def concerns (i : AccountId) (w : StoreWrite) : Bool := w.recordNumber == i.val || w.recordNumber == 16 + i.val

/-- The writes of an account and its statement that wait, oldest first. -/
def writesOf (i : AccountId) (q : List StoreRequest) : List StoreWrite := (q.filter (fun x => concerns i x.write)).map (·.write)

theorem writesOf_requested_other {i : AccountId} {w : StoreWrite} (h : concerns i w = false) (awaited : Bool) (q : List StoreRequest) :
    writesOf i (requested w awaited q) = writesOf i q := by
  have hsame : (q.filter (fun x => x.write.recordNumber != w.recordNumber)).filter (fun x => concerns i x.write) =
      q.filter (fun x => concerns i x.write) := by
    rw [List.filter_filter]
    refine List.filter_congr fun x _ => ?_
    by_cases hx : x.write.recordNumber = w.recordNumber
    · have hnot : concerns i x.write = false := by rw [concerns, hx]; exact h
      simp [hnot]
    · simp [hx]
  rw [writesOf, requested, List.filter_append, hsame, List.filter_cons_of_neg (by simp [h]), List.filter_nil, List.append_nil]
  rfl

theorem writesOf_requested {i : AccountId} {w : StoreWrite} (h : concerns i w = true) (awaited : Bool) (q : List StoreRequest) :
    writesOf i (requested w awaited q) = (writesOf i q).filter (fun x => x.recordNumber != w.recordNumber) ++ [w] := by
  rw [writesOf, requested, List.filter_append, List.filter_cons_of_pos (by exact h), List.filter_nil, List.map_append, writesOf, List.filter_map,
    List.filter_filter, List.filter_filter]
  simp only [Function.comp_def, Bool.and_comm]
  rfl

/-- What the cuts of other accounts and the writes of other records leave. -/
structure Untouched (i : AccountId) (s t : State) : Prop where
  image : t.image = s.image
  account : t.table.accounts.get i = s.table.accounts.get i
  slot : t.table.slots.get i = s.table.slots.get i
  step : t.stepUnderWay i = s.stepUnderWay i
  writes : writesOf i t.store.queue = writesOf i s.store.queue

theorem Untouched.refl (i : AccountId) (s : State) : Untouched i s s := ⟨rfl, rfl, rfl, rfl, rfl⟩

theorem Untouched.trans {i : AccountId} {s t u : State} (h : Untouched i s t) (k : Untouched i t u) : Untouched i s u :=
  ⟨k.image.trans h.image, k.account.trans h.account, k.slot.trans h.slot, k.step.trans h.step, k.writes.trans h.writes⟩

theorem requestWrite_untouched {i : AccountId} {w : StoreWrite} (h : concerns i w = false) (awaited : Bool) (s : State) :
    Untouched i s (requestWrite w awaited s) := by
  rw [requestWrite_eq]
  exact ⟨rfl, rfl, rfl, rfl, writesOf_requested_other h awaited _⟩

theorem concerns_account {i h : AccountId} (hne : i ≠ h) (x : AccountRecord) : concerns h (.account i x) = false := by
  have hval : i.val ≠ h.val := fun he => hne (Fin.ext he)
  simp only [concerns, StoreWrite.recordNumber, Bool.or_eq_false_iff, beq_eq_false_iff_ne]
  exact ⟨hval, by omega⟩

theorem concerns_statement {i h : AccountId} (hne : i ≠ h) (x : Option Statement) : concerns h (.statement i x) = false := by
  have hval : i.val ≠ h.val := fun he => hne (Fin.ext he)
  simp only [concerns, StoreWrite.recordNumber, Bool.or_eq_false_iff, beq_eq_false_iff_ne]
  exact ⟨by omega, by omega⟩

theorem concerns_account_self (i : AccountId) (x : AccountRecord) : concerns i (.account i x) = true := by
  simp [concerns, StoreWrite.recordNumber]

theorem concerns_statement_self (i : AccountId) (x : Option Statement) : concerns i (.statement i x) = true := by
  simp [concerns, StoreWrite.recordNumber]

/-! ## The step under way (R63) -/

/-- The step of one account under way is no other's, absorbed or not. -/
theorem stepUnderWay_absorbStep {i h : AccountId} {s : State} (hi : (s.stepUnderWay i).isSome = true) (hne : i ≠ h) :
    (absorbStep s).stepUnderWay h = s.stepUnderWay h := by
  unfold State.stepUnderWay at hi
  split at hi
  · next j hflight =>
    split at hi
    · next i' figures hwaiting =>
      have hi' : i' = i := by
        split at hi
        · next hand => simp only [Bool.and_eq_true, decide_eq_true_eq] at hand; exact hand.1
        · cases hi
      subst hi'
      simp only [State.stepUnderWay, absorbStep, State.onEngine, hflight, hwaiting, Bool.not_true,
        Bool.and_false, Bool.false_eq_true, if_false]
      rw [if_neg]
      simpa using fun he => absurd he hne
    · cases hi
  · cases hi

/-! ## A cut, and a repair -/

/-- The state with the statement formed, the account zeroed and the step's figures taken. -/
def cutDone (c : Nat) (i : AccountId) (status : AccountStatus) (s : State) : State :=
  let u : State := { s with table := { s.table with
    accounts := s.table.accounts.modify i (Account.afterCut status)
    slots := s.table.slots.set i (some (s.cutStatement i status c))
    counters := { s.table.counters with cutsApplied := bump s.table.counters.cutsApplied } } }
  if (s.stepUnderWay i).isSome then absorbStep u else u

theorem applyCut_eq (c : Nat) (i : AccountId) (status : AccountStatus) (s : State) : applyCut c i status s =
    requestWrite (.account i ((cutDone c i status s).accountRecord i)) ((s.stepUnderWay i).isSome && !s.stepWriting i)
      (requestWrite (.statement i (some (s.cutStatement i status c))) false (cutDone c i status s)) := rfl

theorem cutDone_keeps (c : Nat) (i : AccountId) (status : AccountStatus) (s : State) :
    (cutDone c i status s).image = s.image ∧ (cutDone c i status s).store = s.store ∧ (cutDone c i status s).table = { s.table with
      accounts := s.table.accounts.modify i (Account.afterCut status)
      slots := s.table.slots.set i (some (s.cutStatement i status c))
      counters := { s.table.counters with cutsApplied := bump s.table.counters.cutsApplied } } := by
  unfold cutDone
  dsimp only
  split <;> simp

theorem applyCut_untouched {i h : AccountId} (hne : i ≠ h) (c : Nat) (status : AccountStatus) (s : State) :
    Untouched h s (applyCut c i status s) := by
  obtain ⟨himage, hstore, htable⟩ := cutDone_keeps c i status s
  have hdone : Untouched h s (cutDone c i status s) := by
    refine ⟨himage, by simp [htable, Table.get_modify, hne], by simp [htable, Table.get_set, hne], ?_, by rw [hstore]⟩
    unfold cutDone
    dsimp only
    split
    · next hstep => exact stepUnderWay_absorbStep (by exact hstep) hne
    · rfl
  rw [applyCut_eq]
  exact hdone.trans ((requestWrite_untouched (concerns_statement hne _) _ _).trans
    (requestWrite_untouched (concerns_account hne _) _ _))

/-- The state with the account repaired. -/
def repairDone (c : Nat) (i : AccountId) (status : AccountStatus) (s : State) : State := { s with table := { s.table with
  accounts := s.table.accounts.modify i (Account.afterRepair status c)
  counters := { s.table.counters with repairCuts := bump s.table.counters.repairCuts } } }

theorem applyRepair_eq (c : Nat) (i : AccountId) (status : AccountStatus) (s : State) : applyRepair c i status s =
    requestWrite (.account i ((repairDone c i status s).accountRecord i)) false (repairDone c i status s) := rfl

theorem applyRepair_untouched {i h : AccountId} (hne : i ≠ h) (c : Nat) (status : AccountStatus) (s : State) :
    Untouched h s (applyRepair c i status s) := by
  have hdone : Untouched h s (repairDone c i status s) :=
    ⟨rfl, by simp [repairDone, Table.get_modify, hne], rfl, rfl, rfl⟩
  rw [applyRepair_eq]
  exact hdone.trans (requestWrite_untouched (concerns_account hne _) _ _)

/-! ## The pending cut of one account (R61) -/

section
variable {c : Nat} {i : AccountId} {s : State}

theorem applyPending_none (h : (s.table.accounts.get i).pendingCut = none) : applyPending c s i = s := by
  simp only [applyPending, h]

theorem applyPending_cut {status : AccountStatus} (h : (s.table.accounts.get i).pendingCut = some status)
    (hd : (s.table.accounts.get i).damaged = false) : applyPending c s i = applyCut c i status s := by
  simp only [applyPending, h, hd, Bool.false_eq_true, if_false]

theorem applyPending_repair {status : AccountStatus} (h : (s.table.accounts.get i).pendingCut = some status)
    (hd : (s.table.accounts.get i).damaged = true) : applyPending c s i = applyRepair c i status s := by
  simp only [applyPending, h, hd, if_true]

theorem applyPending_untouched {h : AccountId} (hne : i ≠ h) : Untouched h s (applyPending c s i) := by
  unfold applyPending
  dsimp only
  split
  · exact .refl h s
  · split
    · exact applyRepair_untouched hne ..
    · exact applyCut_untouched hne ..

/-- A cut account: the statement formed, the account under its next tenancy, the two writes last of its own. -/
theorem applyCut_self (status : AccountStatus) :
    let t := applyCut c i status s
    let a := s.table.accounts.get i
    t.table.slots.get i = some (s.cutStatement i status c) ∧ t.table.accounts.get i = a.afterCut status
      ∧ writesOf i t.store.queue = [.statement i (some (s.cutStatement i status c)),
        .account i ⟨(s.image.accounts.get i).unit, a.tenancy + 1, status, ⟨a.settled.last, Figures.zero⟩⟩] := by
  obtain ⟨himage, hstore, htable⟩ := cutDone_keeps c i status s
  have hrecord : (cutDone c i status s).accountRecord i = ⟨(s.image.accounts.get i).unit, (s.table.accounts.get i).tenancy + 1, status,
      ⟨(s.table.accounts.get i).settled.last, Figures.zero⟩⟩ := by
    rw [State.accountRecord, himage, htable, Table.get_modify_self]
    rfl
  intro t a
  have ht : t = _ := applyCut_eq c i status s
  rw [hrecord, requestWrite_eq, requestWrite_eq] at ht
  refine ⟨?_, ?_, ?_⟩
  · rw [ht]
    simp [htable]
  · rw [ht]
    simp [htable, a]
  · have hnone : ∀ q, ((writesOf i q).filter (fun x => x.recordNumber != 16 + i.val)).filter (fun x => x.recordNumber != i.val) = [] := by
      intro q
      rw [List.filter_filter, writesOf, List.filter_eq_nil_iff]
      intro x hx
      obtain ⟨y, hy, rfl⟩ := List.mem_map.mp hx
      have hconcerns := (List.mem_filter.mp hy).2
      simp only [concerns, Bool.or_eq_true, beq_iff_eq] at hconcerns
      obtain he | he := hconcerns <;> simp [he]
    rw [ht]
    refine (writesOf_requested (concerns_account_self i _) _ _).trans ?_
    rw [writesOf_requested (concerns_statement_self i _), List.filter_append, List.filter_cons_of_pos (by simp [StoreWrite.recordNumber]),
      List.filter_nil]
    exact congrArg (fun l => l ++ [_] ++ [_]) (hnone _)

/-- A repaired account: no statement, the account under its next tenancy, its write last of its own. -/
theorem applyRepair_self (status : AccountStatus) :
    let t := applyRepair c i status s
    let a := s.table.accounts.get i
    t.table.slots.get i = s.table.slots.get i ∧ t.table.accounts.get i = a.afterRepair status c
      ∧ (writesOf i t.store.queue).filter (fun w => w.recordNumber == i.val) =
        [.account i ⟨(s.image.accounts.get i).unit, a.tenancy + 1, status, ⟨c, Figures.zero⟩⟩] := by
  have hrecord : (repairDone c i status s).accountRecord i = ⟨(s.image.accounts.get i).unit, (s.table.accounts.get i).tenancy + 1, status,
      ⟨c, Figures.zero⟩⟩ := by
    rw [State.accountRecord, repairDone, Table.get_modify_self]
    rfl
  intro t a
  have ht : t = _ := applyRepair_eq c i status s
  rw [hrecord, requestWrite_eq] at ht
  refine ⟨by rw [ht]; rfl, by rw [ht]; simp [repairDone, a], ?_⟩
  rw [ht]
  have hwrites := writesOf_requested (i := i) (concerns_account_self i ⟨(s.image.accounts.get i).unit,
    (s.table.accounts.get i).tenancy + 1, status, ⟨c, Figures.zero⟩⟩) false s.store.queue
  refine (congrArg (List.filter _) hwrites).trans ?_
  rw [List.filter_append, List.filter_filter, List.filter_eq_nil_iff.mpr (fun x _ => by simp [StoreWrite.recordNumber]), List.nil_append,
    List.filter_cons_of_pos (by simp [StoreWrite.recordNumber]), List.filter_nil]

/-- An account after the close of c. -/
def closedAccount (c : Nat) (a : Account) : Account :=
  match a.pendingCut with
  | none => a
  | some status => if a.damaged then a.afterRepair status c else a.afterCut status

theorem applyPending_account : (applyPending c s i).table.accounts.get i = closedAccount c (s.table.accounts.get i) := by
  cases hp : (s.table.accounts.get i).pendingCut with
  | none => simp only [applyPending_none hp, closedAccount, hp]
  | some status =>
    cases hd : (s.table.accounts.get i).damaged with
    | true =>
      rw [applyPending_repair hp hd, (applyRepair_self status).2.1]
      simp only [closedAccount, hp, hd, if_true]
    | false =>
      rw [applyPending_cut hp hd, (applyCut_self status).2.1]
      simp only [closedAccount, hp, hd, Bool.false_eq_true, if_false]

end

/-! ## The pending cuts of all accounts -/

section
variable {c : Nat} {s : State}

theorem foldl_applyPending_untouched {i : AccountId} {l : List AccountId} (h : i ∉ l) (s : State) :
    Untouched i s (l.foldl (applyPending c) s) := by
  induction l generalizing s with
  | nil => exact .refl i s
  | cons x l ih =>
    obtain ⟨hne, hl⟩ := not_or.mp (mt List.mem_cons.mpr h)
    exact (applyPending_untouched (Ne.symm hne)).trans (ih hl _)

/-- The cut of one account among all: what it finds is as at the start, and what it leaves stays. -/
theorem applyCuts_split (c : Nat) (i : AccountId) (s : State) :
    ∃ u, Untouched i s u ∧ Untouched i (applyPending c u i) (applyCuts c s) := by
  have hall : i ∈ allAccounts := by revert i; decide
  have hnodup : allAccounts.Nodup := by decide
  obtain ⟨before, after, hsplit⟩ := List.append_of_mem hall
  rw [hsplit, List.nodup_append, List.nodup_cons] at hnodup
  obtain ⟨-, ⟨hafter, -⟩, hcross⟩ := hnodup
  have hbefore : i ∉ before := fun hi => hcross i hi i (List.mem_cons_self ..) rfl
  refine ⟨before.foldl (applyPending c) s, foldl_applyPending_untouched hbefore s, ?_⟩
  rw [applyCuts, hsplit, List.foldl_append, List.foldl_cons]
  exact foldl_applyPending_untouched hafter _

theorem applyCuts_account (c : Nat) (i : AccountId) (s : State) :
    (applyCuts c s).table.accounts.get i = closedAccount c (s.table.accounts.get i) := by
  obtain ⟨u, hu, hdone⟩ := applyCuts_split c i s
  rw [hdone.account, applyPending_account, hu.account]

theorem closedAccount_pendingCut (c : Nat) (a : Account) : (closedAccount c a).pendingCut = none := by
  unfold closedAccount
  split
  · assumption
  · split <;> rfl

theorem applyPending_store (c : Nat) (t : State) (i : AccountId) :
    (applyPending c t i).store.contents = t.store.contents ∧ (applyPending c t i).store.writing = t.store.writing := by
  unfold applyPending
  dsimp only
  split
  · exact ⟨rfl, rfl⟩
  · split
    · rw [applyRepair_eq, requestWrite_eq]
      exact ⟨rfl, rfl⟩
    · obtain ⟨-, hstore, -⟩ := cutDone_keeps c i _ t
      rw [applyCut_eq, requestWrite_eq, requestWrite_eq]
      exact ⟨(congrArg Store.contents hstore :), (congrArg Store.writing hstore :)⟩

/-- The store itself, and the write in progress, stay as they are. -/
theorem applyCuts_store (c : Nat) (s : State) :
    (applyCuts c s).store.contents = s.store.contents ∧ (applyCuts c s).store.writing = s.store.writing := by
  unfold applyCuts
  generalize allAccounts = l
  exact ⟨foldl_keeps (fun t : State => t.store.contents) (applyPending c) (fun t i => (applyPending_store c t i).1) l s,
    foldl_keeps (fun t : State => t.store.writing) (applyPending c) (fun t i => (applyPending_store c t i).2) l s⟩

end

end Sys2Proof.Cuts

namespace Sys2Proof.Cuts

open Sys2Proof Sys2Proof.Machine Sys2Proof.Notices Sys2Proof.Reception Sys2Proof.Requests Sys2Proof.RingOrder

/-! ## What the closing of the record leaves of the accounts and of the store (R7, R94) -/

theorem concerns_lifetime (i : AccountId) (ch : ChannelId) (l : Lifetime) : concerns i (.lifetime ch l) = false := by
  simp only [concerns, StoreWrite.recordNumber, Bool.or_eq_false_iff, beq_eq_false_iff_ne]
  exact ⟨by omega, by omega⟩

/-- The cut counters, the store itself and the write in progress stay. -/
structure Uncut (s t : State) : Prop where
  cutsApplied : t.table.counters.cutsApplied = s.table.counters.cutsApplied
  repairCuts : t.table.counters.repairCuts = s.table.counters.repairCuts
  contents : t.store.contents = s.store.contents
  writing : t.store.writing = s.store.writing

theorem Uncut.refl (s : State) : Uncut s s := ⟨rfl, rfl, rfl, rfl⟩

theorem Uncut.trans {s t u : State} (h : Uncut s t) (k : Uncut t u) : Uncut s u :=
  ⟨k.cutsApplied.trans h.cutsApplied, k.repairCuts.trans h.repairCuts, k.contents.trans h.contents, k.writing.trans h.writing⟩

theorem requestWrite_uncut (w : StoreWrite) (awaited : Bool) (s : State) : Uncut s (requestWrite w awaited s) := by
  rw [requestWrite_eq]
  exact ⟨rfl, rfl, rfl, rfl⟩

/-- What a step of the close leaves of every account, of the cut counters and of the store. -/
def LeavesTable (s t : State) : Prop := (∀ i, Untouched i s t) ∧ Uncut s t

theorem LeavesTable.refl (s : State) : LeavesTable s s := ⟨fun i => .refl i s, .refl s⟩

theorem LeavesTable.trans {s t u : State} (h : LeavesTable s t) (k : LeavesTable t u) : LeavesTable s u :=
  ⟨fun i => (h.1 i).trans (k.1 i), h.2.trans k.2⟩

/-- A step that changes neither the image, the table, the store nor the flight. -/
theorem LeavesTable.of_blocks {s t : State} (himage : t.image = s.image) (htable : t.table = s.table) (hstore : t.store = s.store)
    (hflight : t.engine.flight = s.engine.flight) : LeavesTable s t :=
  ⟨fun i => ⟨himage, by rw [htable], by rw [htable], by rw [State.stepUnderWay, hflight]; rfl, by rw [hstore]⟩,
    ⟨by rw [htable], by rw [htable], by rw [hstore], by rw [hstore]⟩⟩

theorem closeChannel_leavesTable (band : Band) (ch : ChannelId) (s : State) : LeavesTable s (closeChannel band ch s) := by
  unfold closeChannel
  dsimp only
  split
  · exact .refl s
  · refine LeavesTable.trans (t := s.onChannel ch (Channel.restart (s.channelDef ch) band)) (.of_blocks rfl rfl rfl rfl) ?_
    exact ⟨fun i => requestWrite_untouched (concerns_lifetime i ch _) _ _, requestWrite_uncut _ _ _⟩

theorem closeChannels_leavesTable (band : Band) (s : State) : LeavesTable s (closeChannels band s) :=
  Effects.foldl_induction (P := LeavesTable s) (fun t ch ht => ht.trans (closeChannel_leavesTable band ch t)) allChannels (.refl s)

theorem updateRecord_leavesTable (k : Nat) (f : Record → Record) (s : State) : LeavesTable s (updateRecord k f s) :=
  .of_blocks rfl rfl rfl rfl

theorem finishGather_leavesTable (k : Nat) (s : State) : LeavesTable s (finishGather k s) := .of_blocks rfl rfl rfl rfl

theorem checkGather_leavesTable (k : Nat) (s : State) : LeavesTable s (checkGather k s) := by
  unfold checkGather
  split
  · split
    · exact finishGather_leavesTable k s
    · exact .refl s
  · exact .refl s

theorem closeRecord_leavesTable (c : Nat) (cause : CloseCause) (station : Option Nat) (s : State) :
    LeavesTable s (closeRecord c cause station s) := by
  unfold closeRecord
  split
  · exact .refl s
  · next r _ =>
    exact (closeChannels_leavesTable r.band s).trans <| (updateRecord_leavesTable c _ _).trans (checkGather_leavesTable c _)

theorem renumberOpen_leavesTable (c : Nat) (s : State) : LeavesTable s (renumberOpen c s) := by
  unfold renumberOpen
  split
  · exact .of_blocks rfl rfl rfl rfl
  · exact .refl s

/-! ## The jobs -/

theorem applyPending_jobs (c : Nat) (s : State) (i : AccountId) : (applyPending c s i).engine.jobs = s.engine.jobs := by
  have hcut : ∀ status, (cutDone c i status s).engine.jobs = s.engine.jobs := by
    intro status
    unfold cutDone absorbStep
    dsimp only
    split
    · simp only [State.onEngine]
      split <;> rfl
    · rfl
  unfold applyPending
  dsimp only
  split
  · rfl
  · split
    · rw [applyRepair_eq, requestWrite_eq]
      rfl
    · rw [applyCut_eq, requestWrite_eq, requestWrite_eq]
      exact hcut _

theorem applyCuts_jobs (c : Nat) (s : State) : (applyCuts c s).engine.jobs = s.engine.jobs := by
  unfold applyCuts
  generalize allAccounts = l
  exact foldl_keeps (fun t : State => t.engine.jobs) (applyPending c) (applyPending_jobs c) l s

/-- The COMPUTE job of a record that goes on at its close. -/
def ownJob (s : State) (cause : CloseCause) (station : Option Nat) (r : Record) : List Job :=
  if (s.closedRecord cause station r).allComplete s.image.mask then [⟨.compute, r.number⟩] else []

theorem closeRecord_jobs {c : Nat} {s : State} {older : List Record} {r : Record} (cause : CloseCause) (station : Option Nat)
    (hrec : s.ring.records = older ++ [r]) (hk : r.number = c) (hold : ∀ x ∈ older, x.number ≠ c) :
    (closeRecord c cause station s).engine.jobs = s.engine.jobs ++ ownJob s cause station r := by
  have hfind : findRecord c s = some r := findRecord_last hrec hk hold
  have hupdated : (updateRecord c (fun _ => s.closedRecord cause station r) (closeChannels r.band s)).ring.records =
      older ++ [s.closedRecord cause station r] :=
    updateRecord_last _ (by simpa using hrec) hk hold
  have hnumber : (s.closedRecord cause station r).number = c := hk
  have hstate : (s.closedRecord cause station r).state = .gathering := rfl
  simp only [closeRecord, hfind, checkGather, ownJob, hk]
  rw [findRecord_last hupdated hnumber hold]
  simp only [hstate, beq_self_eq_true, Bool.true_and, updateRecord_keeps, closeChannels_keeps]
  split
  · simp [finishGather, appendJob]
  · simp

end Sys2Proof.Cuts

namespace Sys2Proof.IntervalUnit

open Sys2Proof Sys2Proof.Machine Sys2Proof.Notices Sys2Proof.ShareLine Sys2Proof.Reception Sys2Proof.RingUnit Sys2Proof.EngineUnit
open Sys2Proof.RingOrder Sys2Proof.Effects Sys2Proof.Cuts

/-! ## The advance (R9) -/

/-- The ring waits for its third record. -/
theorem advanceRing_of_length {s : State} (h : s.waitingRecords.length ≠ 3) : advanceRing s = s := by
  unfold advanceRing
  split
  · next hthree => exact absurd (congrArg List.length hthree) h
  · rfl

/-- The record is neither OPEN nor SETTLING. -/
def waits (r : Record) : Bool := r.state != .opened && r.state != .settling

theorem waits_of {r : Record} (h : r.state = .gathering ∨ r.state = .provisional) : waits r = true := by
  obtain h | h := h <;> simp [waits, h]

section
variable {t : State} {n : Nat} {x : Record}

theorem openNext_stays {older : List Record} (ht : t.ring.records = older ++ [x]) (hlen : older.length ≤ 2)
    (hstay : older.length < 2 ∨ ∃ y ∈ older, y.state = .settling) (band : Band) :
    (openNext n band t).ring.records = older ++ [x, Record.atOpen n band false] ∧ (openNext n band t).engine = t.engine
      ∧ (openNext n band t).line = t.line := by
  have hrecords : (openRecord n band false t).ring.records = older ++ [x] ++ [Record.atOpen n band false] := by
    simp [openRecord, ht]
  have hfew : (older.filter waits).length < 2 := by
    obtain hlt | ⟨y, hy, hset⟩ := hstay
    · exact (List.length_filter_le ..).trans_lt hlt
    · refine (List.length_filter_lt_length_iff_exists.mpr ⟨y, hy, ?_⟩).trans_le hlen
      simp [waits, hset]
  have hwaiting : ((openRecord n band false t).onInterval (fun u => { u with openNumber := n })).waitingRecords.length ≠ 3 := by
    have hle : ((older ++ [x] ++ [Record.atOpen n band false]).filter waits).length ≤ (older.filter waits).length + 1 := by
      rw [List.filter_append, List.filter_append, List.length_append, List.length_append,
        show [Record.atOpen n band false].filter waits = [] from rfl]
      exact Nat.add_le_add_left (List.length_filter_le waits [x]) _
    have hdef : ((openRecord n band false t).onInterval (fun u => { u with openNumber := n })).waitingRecords =
        (older ++ [x] ++ [Record.atOpen n band false]).filter waits := congrArg (List.filter waits) hrecords
    rw [hdef]
    omega
  rw [openNext, advanceRing_of_length hwaiting]
  simp [openRecord, ht]

theorem openNext_advances {a b : Record} (ht : t.ring.records = [a, b, x]) (ha : waits a = true) (hb : waits b = true)
    (hx : waits x = true) (hab : b.number ≠ a.number) (hax : x.number ≠ a.number) (han : n ≠ a.number) (band : Band) :
    (openNext n band t).ring.records = [settled a, b, x, Record.atOpen n band false]
      ∧ (openNext n band t).engine.jobs =
        t.engine.jobs ++ (if a.state = .gathering then [⟨.compute, a.number⟩] else []) ++ [⟨.settle, a.number⟩]
      ∧ (openNext n band t).line.offers = offersWithout a.number t.line.offers := by
  let u : State := (openRecord n band false t).onInterval (fun u => { u with openNumber := n })
  have hrecords : u.ring.records = [a, b, x, Record.atOpen n band false] := by simp [u, openRecord, ht]
  have hwaiting : u.waitingRecords = [a, b, x] := by
    have hdef : u.waitingRecords = [a, b, x, Record.atOpen n band false].filter waits := congrArg (List.filter waits) hrecords
    rw [hdef, List.filter_cons_of_pos ha, List.filter_cons_of_pos hb, List.filter_cons_of_pos hx]
    rfl
  have hHas : ∀ v : State, v.ring.records = u.ring.records → Has v [] a [b, x, Record.atOpen n band false] a.number := fun v hv =>
    ⟨hv.trans hrecords, rfl, by simpa [Record.atOpen] using ⟨hab, hax, han⟩⟩
  have hnext : openNext n band t = goToSettling a.number (if a.state == .gathering then appendJob .compute a.number u else u) := by
    show advanceRing u = _
    rw [advanceRing, hwaiting]
  by_cases hgathering : a.state = .gathering
  · rw [hnext, if_pos (by simpa using hgathering), goToSettling_eq (hHas (appendJob .compute a.number u) rfl), if_pos hgathering]
    exact ⟨rfl, rfl, rfl⟩
  · rw [hnext, if_neg (by simpa using hgathering), goToSettling_eq (hHas u rfl), if_neg hgathering, List.append_nil]
    exact ⟨rfl, rfl, rfl⟩

end

/-! ## The close up to the opening of the next (R106, steps 1 to 4) -/

/-- The state with the OPEN record closed as c and the pending cuts applied. -/
def closedUp (c : Nat) (cause : CloseCause) (station : Option Nat) (s : State) : State :=
  applyCuts c (closeRecord c cause station (renumberOpen c s))

@[simp] theorem closedUp_keeps (c : Nat) (cause : CloseCause) (station : Option Nat) (s : State) :
    (closedUp c cause station s).pending = s.pending ∧ (closedUp c cause station s).control = s.control ∧
      (closedUp c cause station s).image = s.image ∧ (closedUp c cause station s).interval = s.interval ∧
      (closedUp c cause station s).roster = s.roster ∧ (closedUp c cause station s).line = s.line ∧
      (closedUp c cause station s).rx = s.rx ∧ (closedUp c cause station s).check = s.check ∧
      (closedUp c cause station s).cond = s.cond ∧ (closedUp c cause station s).resp = s.resp := by
  simp [closedUp]

/-- The state with the next interval open and the ring advanced (R106, step 5). -/
def openedNext (c : Nat) (cause : CloseCause) (station : Option Nat) (source : BandSource) (s : State) : State :=
  openNext (c + 1) (s.image.bandFor (c + 1) source) (closedUp c cause station s)

/-- The state with the roster aged (R133, R134). -/
def agedAt (c : Nat) (cause : CloseCause) (station : Option Nat) (source : BandSource) (s : State) : State :=
  ageRoster c s.interval.openNumber (openedNext c cause station source s)

theorem takeCloseOf_eq (c : Nat) (cause : CloseCause) (station : Option Nat) (source : BandSource) (s : State) :
    takeCloseOf c cause station source s =
      setPoolMode (onIntervalCounters (fun n => { n with closesTaken := bump n.closesTaken })
        (announceAtClose (c + 1) (countBoundary (agedAt c cause station source s)))) := rfl

/-! ## The blocks after a close -/

section
variable (c : Nat) (cause : CloseCause) (station : Option Nat) (source : BandSource) (s : State)

@[simp] theorem openedNext_keeps :
    let u := openedNext c cause station source s
    u.pending = s.pending ∧ u.control = s.control ∧ u.image = s.image ∧ u.interval = { s.interval with openNumber := c + 1 } ∧
      u.table = (closedUp c cause station s).table ∧ u.store = (closedUp c cause station s).store ∧
      u.channels = (closedUp c cause station s).channels ∧ u.roster = s.roster ∧ u.rx = s.rx ∧ u.check = s.check ∧ u.cond = s.cond ∧
      u.resp = s.resp := by
  simp [openedNext, openNext, openRecord]

@[simp] theorem agedAt_keeps :
    let u := agedAt c cause station source s
    u.pending = s.pending ∧ u.control = s.control ∧ u.image = s.image ∧ u.interval = { s.interval with openNumber := c + 1 } ∧
      u.ring = (openedNext c cause station source s).ring ∧ u.engine = (openedNext c cause station source s).engine ∧
      u.table = (closedUp c cause station s).table ∧ u.store = (closedUp c cause station s).store ∧
      u.channels = (closedUp c cause station s).channels ∧ u.line = (openedNext c cause station source s).line ∧ u.rx = s.rx ∧
      u.check = s.check ∧ u.cond = s.cond ∧ u.resp = s.resp := by
  simp [agedAt]

theorem takeCloseOf_openNext :
    (takeCloseOf c cause station source s).ring = (openedNext c cause station source s).ring
      ∧ (takeCloseOf c cause station source s).engine = (openedNext c cause station source s).engine
      ∧ (takeCloseOf c cause station source s).table = (closedUp c cause station s).table
      ∧ (takeCloseOf c cause station source s).store = (closedUp c cause station s).store := by
  simp [takeCloseOf_eq, onIntervalCounters]

theorem takeCloseOf_interval : (takeCloseOf c cause station source s).interval = { s.interval with
    openNumber := c + 1
    counters := { s.interval.counters with closesTaken := bump s.interval.counters.closesTaken } } := by
  simp [takeCloseOf_eq, onIntervalCounters]

theorem takeCloseOf_entries : (takeCloseOf c cause station source s).rx.entries = s.rx.entries := by
  simp [takeCloseOf_eq, onIntervalCounters]

end

/-! ### The tamper latches -/

/-- The channels are as before but for their tamper latches. -/
def LatchOnly (s t : State) : Prop := ∀ ch, ∃ latch, t.channels.get ch = { s.channels.get ch with latch := latch }

theorem LatchOnly.of_channels {s t : State} (h : t.channels = s.channels) : LatchOnly s t := fun ch => ⟨_, by rw [h]⟩

theorem LatchOnly.refl (s : State) : LatchOnly s s := .of_channels rfl

theorem LatchOnly.trans {s t u : State} (h : LatchOnly s t) (k : LatchOnly t u) : LatchOnly s u := fun ch => by
  obtain ⟨_, ht⟩ := h ch
  obtain ⟨latch, hu⟩ := k ch
  exact ⟨latch, by rw [hu, ht]⟩

theorem releaseLatch_latchOnly (x : Condition) (s : State) : LatchOnly s (releaseLatch x s) := by
  unfold releaseLatch
  split
  · split
    · intro ch
      simp only [State.onChannel, Table.get_modify]
      split
      · exact ⟨false, rfl⟩
      · exact ⟨_, rfl⟩
    · exact .refl s
  · exact .refl s

theorem displaceNotice_latchOnly (s : State) : LatchOnly s (displaceNotice s) := by
  unfold displaceNotice
  split
  · split
    · exact LatchOnly.trans (t := s.onCond _) (.of_channels rfl) (releaseLatch_latchOnly _ _)
    · exact .refl s
  · exact .refl s

theorem raiseNoticeAt_latchOnly (cause : Cause) (p k : Nat) (s : State) : LatchOnly s (raiseNoticeAt cause p k s) := by
  unfold raiseNoticeAt
  split
  · exact .refl s
  · exact (displaceNotice_latchOnly s).trans (.of_channels rfl)

theorem raiseAll_latchOnly (l : List (Cause × Nat)) (s : State) : LatchOnly s (raiseAll l s) :=
  Effects.foldl_induction (P := LatchOnly s) (fun t x ht => ht.trans (raiseNoticeAt_latchOnly x.1 x.2 _ t)) l (.refl s)

theorem countBoundary_latchOnly (s : State) : LatchOnly s (countBoundary s) := by
  rw [countBoundary_eq]
  exact (LatchOnly.of_channels (t := atBoundary s) rfl).trans (raiseAll_latchOnly _ _)

/-- A channel restarted, its latch aside. -/
theorem restartedFrom_latch {x y : Channel} (h : y.restartedFrom x) (latch : Bool) :
    Channel.restartedFrom { y with latch := latch } x := by
  have hlatch := congrArg (fun z : Channel => { z with latch := latch }) h
  exact hlatch

/-- The latch that it was restarted from does not show. -/
theorem restartedFrom_of_latch {x y : Channel} {latch : Bool} (h : y.restartedFrom { x with latch := latch }) : y.restartedFrom x := h

end Sys2Proof.IntervalUnit

namespace Sys2Proof.IntervalUnit

open Sys2Proof Sys2Proof.Machine Sys2Proof.Notices Sys2Proof.ShareLine Sys2Proof.Reception Sys2Proof.RingUnit Sys2Proof.EngineUnit
open Sys2Proof.RingOrder Sys2Proof.Effects Sys2Proof.Cuts

/-! ## The channels, the roster and the line after a close -/

section
variable {c : Nat} {cause : CloseCause} {station : Option Nat} {source : BandSource} {s : State}

theorem takeCloseOf_latchOnly : LatchOnly (closedUp c cause station s) (takeCloseOf c cause station source s) := by
  rw [takeCloseOf_eq]
  exact LatchOnly.trans (t := agedAt c cause station source s) (.of_channels (by simp)) <| (countBoundary_latchOnly _).trans <|
    .of_channels (by simp [onIntervalCounters])

/-- The roster with the own ANNOUNCE in this state of sending. -/
def announcing (a : AnnounceSending) (r : Roster) : Roster := { r with announce := a }

theorem announcing_entries (a : AnnounceSending) (r : Roster) : (announcing a r).entries = r.entries := rfl

theorem announceAtClose_roster (n : Nat) (u : State) : ∃ a, (announceAtClose n u).roster = announcing a u.roster := by
  unfold announceAtClose announceDue
  split
  · split
    · split
      · exact ⟨.queued, by simp [setAnnounce, announcing]⟩
      · exact ⟨.waiting, by simp [setAnnounce, announcing]⟩
    · exact ⟨_, rfl⟩
  · exact ⟨_, rfl⟩

theorem boundaryRoster_frames (r : Roster) (limit : Nat) : ∀ e ∈ (boundaryRoster r limit).entries, e.frames = 0 := by
  intro e he
  obtain ⟨x, -, rfl⟩ := List.mem_map.mp he
  rfl

/-- The roster aged and past its boundary; the ANNOUNCE may have fallen due. -/
theorem takeCloseOf_roster : ∃ a, (takeCloseOf c cause station source s).roster =
    announcing a (boundaryRoster (agedAt c cause station source s).roster s.image.rateLimit) := by
  obtain ⟨a, ha⟩ := announceAtClose_roster (c + 1) (countBoundary (agedAt c cause station source s))
  refine ⟨a, ?_⟩
  rw [takeCloseOf_eq]
  simp only [setPoolMode_keeps, onIntervalCounters_keeps]
  rw [ha, countBoundary_roster, newlyQuarantined_eq, List.length_map, (agedAt_keeps c cause station source s).2.2.1, boundaryRoster]

theorem takeCloseOf_frames (e : Peer) (he : e ∈ (takeCloseOf c cause station source s).roster.entries) : e.frames = 0 := by
  obtain ⟨a, ha⟩ := takeCloseOf_roster (c := c) (cause := cause) (station := station) (source := source) (s := s)
  rw [ha, announcing_entries] at he
  exact boundaryRoster_frames _ _ e he

end

/-- What a line keeps beside the frames that are no CLOSE: its CLOSEs, its monitor and what it counts of a withdrawal. -/
structure LineKept (l l' : Line) : Prop where
  closes : l'.queue.filter (fun f => f.body.kind == 1) = l.queue.filter (fun f => f.body.kind == 1)
  monitor : l'.monitor = l.monitor
  txWithdrawn : l'.counters.txWithdrawn = l.counters.txWithdrawn
  txCutOff : l'.counters.txCutOff = l.counters.txCutOff
  rxBadForm : l'.counters.rxBadForm = l.counters.rxBadForm

theorem LineKept.refl (l : Line) : LineKept l l := ⟨rfl, rfl, rfl, rfl, rfl⟩

theorem LineKept.of_eq {l l' : Line} (h : l' = l) : LineKept l l' := h ▸ .refl l

theorem LineKept.trans {l m n : Line} (h : LineKept l m) (k : LineKept m n) : LineKept l n :=
  ⟨k.closes.trans h.closes, k.monitor.trans h.monitor, k.txWithdrawn.trans h.txWithdrawn, k.txCutOff.trans h.txCutOff,
    k.rxBadForm.trans h.rxBadForm⟩

theorem LineKept.no_close {l l' : Line} (h : LineKept l l') : (∀ f ∈ l'.queue, f.body.kind ≠ 1) ↔ ∀ f ∈ l.queue, f.body.kind ≠ 1 := by
  have hnil : ∀ q : List TxFrame, (∀ f ∈ q, f.body.kind ≠ 1) ↔ q.filter (fun f => f.body.kind == 1) = [] := fun q => by
    simp [List.filter_eq_nil_iff]
  rw [hnil, hnil, h.closes]

theorem LineKept.countP_closes {l l' : Line} (h : LineKept l l') :
    l'.queue.countP (fun f => f.body.kind == 1) = l.queue.countP (fun f => f.body.kind == 1) := by
  rw [List.countP_eq_length_filter, List.countP_eq_length_filter, h.closes]

theorem filter_insertFrame {p : TxFrame → Bool} {f : TxFrame} (h : p f = false) (q : List TxFrame) :
    (insertFrame f q).filter p = q.filter p := by
  induction q with
  | nil => simp [insertFrame, h]
  | cons g q ih =>
    unfold insertFrame
    split
    · rw [List.filter_cons_of_neg (by simp [h])]
    · rw [List.filter_cons, List.filter_cons, ih]

theorem lineWith_kept {b : FrameBody} (h : b.kind ≠ 1) (u : State) : LineKept u.line (u.lineWith (queued b u.line.queue)) :=
  ⟨filter_insertFrame (by simpa using h) _, rfl, rfl, rfl, rfl⟩

/-- The summaries among the offers. -/
def summaries (offers : List Offer) : List Offer := offers.filter (fun o => match o with | .summary _ => true | .announce => false)

theorem announceDue_line (u : State) : LineKept u.line (announceDue u).line ∧
    summaries (announceDue u).line.offers = summaries u.line.offers := by
  unfold announceDue
  split
  · split
    · rw [enqueue_eq]
      exact ⟨lineWith_kept (by simp [State.announceBody, FrameBody.kind]) u, rfl⟩
    · refine ⟨⟨rfl, rfl, rfl, rfl, rfl⟩, ?_⟩
      have hoffers : (setAnnounce .waiting (listOffer .announce u)).line.offers = u.line.offers ++ [.announce] := rfl
      rw [hoffers, summaries, List.filter_append]
      exact List.append_nil _
  · exact ⟨.refl _, rfl⟩

theorem announceAtClose_line (n : Nat) (u : State) : LineKept u.line (announceAtClose n u).line ∧
    summaries (announceAtClose n u).line.offers = summaries u.line.offers := by
  unfold announceAtClose
  split
  · exact announceDue_line u
  · exact ⟨.refl _, rfl⟩

theorem mem_summaries {b : SummaryBody} {offers : List Offer} : Offer.summary b ∈ summaries offers ↔ Offer.summary b ∈ offers := by
  simp [summaries]

theorem advanceRing_lineKept (u : State) : LineKept u.line (advanceRing u).line := by
  unfold advanceRing
  split
  · split <;> exact ⟨by simp, by simp, by simp, by simp, by simp⟩
  · exact .refl _

section
variable {c : Nat} {cause : CloseCause} {station : Option Nat} {source : BandSource} {s : State}

theorem takeCloseOf_offers : summaries (takeCloseOf c cause station source s).line.offers =
    summaries (openedNext c cause station source s).line.offers := by
  rw [takeCloseOf_eq]
  simp only [setPoolMode_keeps, onIntervalCounters_keeps]
  rw [(announceAtClose_line _ _).2]
  simp only [countBoundary_line, agedAt_keeps]

theorem openNext_lineKept (n : Nat) (band : Band) (u : State) : LineKept u.line (openNext n band u).line :=
  LineKept.trans (m := ((openRecord n band false u).onInterval (fun u => { u with openNumber := n })).line) (.of_eq rfl)
    (advanceRing_lineKept _)

theorem boundary_lineKept (u : State) : LineKept u.line (countBoundary u).line := by
  rw [countBoundary_line]
  exact ⟨rfl, rfl, rfl, rfl, rfl⟩

theorem takeCloseOf_lineKept : LineKept s.line (takeCloseOf c cause station source s).line := by
  have hopen : LineKept s.line (openedNext c cause station source s).line :=
    (LineKept.of_eq (by simp)).trans (openNext_lineKept _ _ (closedUp c cause station s))
  have haged : LineKept s.line (agedAt c cause station source s).line := hopen.trans (.of_eq (by simp))
  rw [takeCloseOf_eq]
  simp only [setPoolMode_keeps, onIntervalCounters_keeps]
  exact haged.trans <| (boundary_lineKept _).trans (announceAtClose_line _ _).1

end

end Sys2Proof.IntervalUnit

namespace Sys2Proof.IntervalUnit

open Sys2Proof Sys2Proof.Machine Sys2Proof.Notices Sys2Proof.ShareLine Sys2Proof.Reception Sys2Proof.RingUnit Sys2Proof.EngineUnit
open Sys2Proof.RingOrder Sys2Proof.Effects Sys2Proof.Cuts

/-! ## The ring after a close (R6, R7, R9) -/

/-- A node whose newest record can be closed as c. -/
structure CanClose (s : State) (c : Nat) (older : List Record) (r : Record) : Prop where
  records : s.ring.records = older ++ [r]
  number : r.number = s.interval.openNumber
  notOpen : ∀ x ∈ older, x.state ≠ .opened
  rising : (older.map (·.number)).Pairwise (· < ·)
  below : ∀ x ∈ older, x.number < r.number
  room : older.length ≤ 2
  upward : s.interval.openNumber ≤ c

theorem canClose {s : State} {c : Nat} (hs : s.ringOrdered) (hring : s.hasRing) (room : s.ring.records.length < 4)
    (hc : s.interval.openNumber ≤ c) : ∃ older r, CanClose s c older r := by
  obtain ⟨older, r, hrec, -, hnum, hold, hbelow⟩ := exists_open hs hring
  have hrising := hs.2.1
  rw [hrec, List.map_append, List.pairwise_append] at hrising
  exact ⟨older, r, hrec, hnum, hold, hrising.1, hbelow, by simp [hrec] at room; omega, hc⟩

/-- The record as the close of c leaves it. -/
def closedOf (s : State) (c : Nat) (cause : CloseCause) (station : Option Nat) (r : Record) : Record :=
  closedAs s cause station (renumbered s c r)

section
variable {s : State} {c : Nat} {older : List Record} {r : Record}

theorem CanClose.below_c (h : CanClose s c older r) : ∀ x ∈ older, x.number < c := fun x hx => by
  have hx := h.below x hx
  have hnum := h.number
  have hc := h.upward
  omega

theorem closedUp_records (h : CanClose s c older r) (cause : CloseCause) (station : Option Nat) :
    (closedUp c cause station s).ring.records = older ++ [closedOf s c cause station r] := by
  rw [closedUp, closed_records cause station h.records h.number h.below h.upward, closedAs_renumberOpen, closedOf]

theorem closedOf_number (h : CanClose s c older r) (cause : CloseCause) (station : Option Nat) :
    (closedOf s c cause station r).number = c := by
  rw [closedOf, closedAs_number, renumbered_number h.number h.upward]

theorem closedOf_waits (cause : CloseCause) (station : Option Nat) : waits (closedOf s c cause station r) = true :=
  waits_of (closedAs_state ..)

theorem closedOf_closedFrom (h : CanClose s c older r) (cause : CloseCause) (station : Option Nat) :
    s.closedFrom r (closedOf s c cause station r) c cause station :=
  closedFrom_sameClose (closedRecord_closedFrom s h.number h.upward cause station) (closedAs_sameClose ..)

theorem closedUp_jobs (h : CanClose s c older r) (cause : CloseCause) (station : Option Nat) :
    (closedUp c cause station s).engine.jobs = s.engine.jobs ++ ownJob s cause station (renumbered s c r) := by
  have hrenumbered : (renumbered s c r).number = c := renumbered_number h.number h.upward
  have hown : ownJob (renumberOpen c s) cause station (renumbered s c r) = ownJob s cause station (renumbered s c r) := by
    obtain ⟨g, hg⟩ := renumberOpen_eq c s
    rw [hg]
    rfl
  rw [closedUp, applyCuts_jobs, closeRecord_jobs cause station (renumberOpen_last h.records h.number h.below) hrenumbered
    fun x hx => (h.below_c x hx).ne, hown, (renumberOpen_keeps ..).2.2.2.2.1]

/-- Records that wait, or not: the ring advances only where three of them do. -/
theorem stays_or_advances (h : CanClose s c older r) :
    (older.length < 2 ∨ ∃ x ∈ older, x.state = .settling) ∨ ∃ a b, older = [a, b] ∧ waits a = true ∧ waits b = true := by
  have hroom := h.room
  by_cases hlen : older.length < 2
  · exact .inl (.inl hlen)
  · obtain ⟨a, b, rfl⟩ := List.length_eq_two.mp (show older.length = 2 by omega)
    by_cases hset : a.state = .settling ∨ b.state = .settling
    · refine .inl (.inr ?_)
      obtain hset | hset := hset
      · exact ⟨a, by simp, hset⟩
      · exact ⟨b, by simp, hset⟩
    · obtain ⟨ha, hb⟩ := not_or.mp hset
      have hopen := h.notOpen
      exact .inr ⟨a, b, rfl, by simp [waits, ha, hopen a (by simp)], by simp [waits, hb, hopen b (by simp)]⟩

/-! ### The two cases of the advance -/

variable (cause : CloseCause) (station : Option Nat) (source : BandSource)

theorem takeCloseOf_stays (h : CanClose s c older r) (hstay : older.length < 2 ∨ ∃ x ∈ older, x.state = .settling) :
    (takeCloseOf c cause station source s).ring.records = older ++ [closedOf s c cause station r, Record.atOpen (c + 1) (s.image.bandFor (c + 1) source) false]
      ∧ (takeCloseOf c cause station source s).engine.jobs = s.engine.jobs ++ ownJob s cause station (renumbered s c r)
      ∧ summaries (takeCloseOf c cause station source s).line.offers = summaries s.line.offers := by
  obtain ⟨hring, hengine, -⟩ := takeCloseOf_openNext c cause station source s
  obtain ⟨hrecords, hjobs, hline⟩ := openNext_stays (n := c + 1) (closedUp_records h cause station) h.room hstay
    (s.image.bandFor (c + 1) source)
  rw [hring, hengine, takeCloseOf_offers, openedNext, hrecords, hjobs, hline, closedUp_jobs h]
  simp only [closedUp_keeps, and_self]

theorem takeCloseOf_advances {a b : Record} (h : CanClose s c [a, b] r) (ha : waits a = true) (hb : waits b = true) :
    (takeCloseOf c cause station source s).ring.records = [settled a, b, closedOf s c cause station r, Record.atOpen (c + 1) (s.image.bandFor (c + 1) source) false]
      ∧ (takeCloseOf c cause station source s).engine.jobs = s.engine.jobs ++ ownJob s cause station (renumbered s c r)
        ++ (if a.state = .gathering then [⟨.compute, a.number⟩] else []) ++ [⟨.settle, a.number⟩]
      ∧ summaries (takeCloseOf c cause station source s).line.offers = summaries (offersWithout a.number s.line.offers) := by
  obtain ⟨hring, hengine, -⟩ := takeCloseOf_openNext c cause station source s
  have hbelow := h.below_c
  have hab : b.number ≠ a.number := by
    have hrising := h.rising
    simp only [List.map_cons, List.map_nil, List.pairwise_cons, List.mem_singleton, forall_eq] at hrising
    exact hrising.1.ne'
  obtain ⟨hrecords, hjobs, hoffers⟩ := openNext_advances (n := c + 1) (closedUp_records h cause station) ha hb
    (closedOf_waits cause station) hab (by rw [closedOf_number h]; exact (hbelow a (by simp)).ne')
    (by have := hbelow a (by simp); omega) (s.image.bandFor (c + 1) source)
  rw [hring, hengine, takeCloseOf_offers, openedNext, hrecords, hjobs, hoffers, closedUp_jobs h]
  simp only [closedUp_keeps, and_self]

end

end Sys2Proof.IntervalUnit

namespace Sys2Proof.IntervalUnit

open Sys2Proof Sys2Proof.Machine Sys2Proof.Notices Sys2Proof.ShareLine Sys2Proof.Reception Sys2Proof.RingUnit Sys2Proof.EngineUnit
open Sys2Proof.RingOrder Sys2Proof.Effects Sys2Proof.Cuts

/-! ## A close is taken (R106) -/

section
variable {s : State} {c : Nat} {older : List Record} {r : Record} (cause : CloseCause) (station : Option Nat) (source : BandSource)

/-- The state in which the pending cuts are applied. -/
theorem beforeCuts_leavesTable : LeavesTable s (closeRecord c cause station (renumberOpen c s)) :=
  (renumberOpen_leavesTable c s).trans (closeRecord_leavesTable c cause station _)

theorem closedUp_account (i : AccountId) :
    (closedUp c cause station s).table.accounts.get i = closedAccount c (s.table.accounts.get i) := by
  rw [closedUp, applyCuts_account, (beforeCuts_leavesTable cause station).1 i |>.account]

theorem closedUp_store :
    (closedUp c cause station s).store.contents = s.store.contents ∧ (closedUp c cause station s).store.writing = s.store.writing := by
  obtain ⟨hcontents, hwriting⟩ := applyCuts_store c (closeRecord c cause station (renumberOpen c s))
  have huncut := (beforeCuts_leavesTable (s := s) (c := c) cause station).2
  rw [closedUp, hcontents, hwriting, huncut.contents, huncut.writing]
  exact ⟨rfl, rfl⟩

theorem restart_restartedFrom (d : ChannelDef) (band : Band) (x : Channel) : (x.restart d band).restartedFrom x := rfl

theorem closedUp_channel (h : CanClose s c older r) {ch : ChannelId} (hon : (s.image.channels.get ch).kind ≠ .off) :
    ((closedUp c cause station s).channels.get ch).restartedFrom (s.channels.get ch) := by
  have hnumber : (renumbered s c r).number = c := renumbered_number h.number h.upward
  have hfind : findRecord c (renumberOpen c s) = some (renumbered s c r) :=
    findRecord_last (renumberOpen_last h.records h.number h.below) hnumber fun x hx => (h.below_c x hx).ne
  have hon' : ((renumberOpen c s).channelDef ch).kind ≠ .off := by
    simpa only [State.channelDef, renumberOpen_keeps] using hon
  have hchannels : (closedUp c cause station s).channels = (closeRecord c cause station (renumberOpen c s)).channels := by
    simp only [closedUp, applyCuts_keeps]
  rw [hchannels, SupplyCost.closeRecord_channels_get hfind hon' cause station]
  simp only [renumberOpen_keeps]
  exact restart_restartedFrom ..

/-- The numbers of the ring after the close, its newest record, and the closed one. -/
theorem takeCloseOf_numbers (h : CanClose s c older r) :
    closedOf s c cause station r ∈ (takeCloseOf c cause station source s).ring.records
      ∧ (takeCloseOf c cause station source s).ring.records.map (·.number) = older.map (·.number) ++ [c, c + 1]
      ∧ (takeCloseOf c cause station source s).ring.records.getLast? =
        some (Record.atOpen (c + 1) (s.image.bandFor (c + 1) source) false) := by
  have hnumber := closedOf_number h cause station
  obtain hstay | ⟨a, b, rfl, ha, hb⟩ := stays_or_advances h
  · rw [(takeCloseOf_stays cause station source h hstay).1]
    refine ⟨by simp, ?_, by simp⟩
    simp [hnumber, Record.atOpen]
  · rw [(takeCloseOf_advances cause station source h ha hb).1]
    refine ⟨by simp, ?_, by simp⟩
    simp [hnumber, Record.atOpen, settled]

theorem takeCloseOf_closesTo (h : CanClose s c older r) :
    s.closesTo (takeCloseOf c cause station source s) c cause station (s.image.bandFor (c + 1) source) := by
  obtain ⟨hmem, hnumbers, hlast⟩ := takeCloseOf_numbers cause station source h
  obtain ⟨-, -, htable, hstore⟩ := takeCloseOf_openNext c cause station source s
  have hinterval := takeCloseOf_interval c cause station source s
  obtain ⟨hcontents, hwriting⟩ := closedUp_store (s := s) (c := c) cause station
  obtain ⟨hpending, hcontrol, himage, -, hresp⟩ := takeCloseOf_keeps s c cause station source
  refine ⟨⟨older, r, _, h.records, hmem, closedOf_closedFrom h cause station, hnumbers⟩, hlast, by rw [hinterval], by rw [hinterval],
    fun ch hon => ?_, fun i => ?_, fun i hi => ?_, takeCloseOf_frames, hpending, himage, hcontrol, hresp, by rw [hstore, hcontents],
    by rw [hstore, hwriting]⟩
  · obtain ⟨latch, hlatch⟩ := takeCloseOf_latchOnly (c := c) (cause := cause) (station := station) (source := source) (s := s) ch
    rw [hlatch]
    exact restartedFrom_latch (closedUp_channel cause station h hon) latch
  · rw [htable, closedUp_account, closedAccount_pendingCut]
  · rw [htable, closedUp_account]
    simp only [closedAccount, hi]

end

/-! ## What a close is judged by -/

/-- t agrees with s in all that a close reads and leaves: what lies before or after the close itself may change the rest. -/
structure Alike (s t : State) : Prop where
  pending : t.pending = s.pending
  control : t.control = s.control
  image : t.image = s.image
  resp : t.resp = s.resp
  table : t.table = s.table
  contents : t.store.contents = s.store.contents
  writing : t.store.writing = s.store.writing
  entries : t.roster.entries = s.roster.entries
  records : t.ring.records = s.ring.records
  openNumber : t.interval.openNumber = s.interval.openNumber
  closesTaken : t.interval.counters.closesTaken = s.interval.counters.closesTaken
  latchOnly : LatchOnly s t

theorem Alike.refl (s : State) : Alike s s := ⟨rfl, rfl, rfl, rfl, rfl, rfl, rfl, rfl, rfl, rfl, rfl, .refl s⟩

theorem Alike.trans {s t u : State} (h : Alike s t) (k : Alike t u) : Alike s u :=
  ⟨k.pending.trans h.pending, k.control.trans h.control, k.image.trans h.image, k.resp.trans h.resp, k.table.trans h.table,
    k.contents.trans h.contents, k.writing.trans h.writing, k.entries.trans h.entries, k.records.trans h.records,
    k.openNumber.trans h.openNumber, k.closesTaken.trans h.closesTaken, h.latchOnly.trans k.latchOnly⟩

theorem closedFrom_alike {s t : State} (h : Alike s t) {r x : Record} {c : Nat} {cause : CloseCause} {station : Option Nat}
    (hclosed : t.closedFrom r x c cause station) : s.closedFrom r x c cause station := by
  have hchannel : ∀ ch, (t.channels.get ch).energy = (s.channels.get ch).energy ∧ (t.channels.get ch).life = (s.channels.get ch).life
      ∧ (t.channels.get ch).pulses = (s.channels.get ch).pulses ∧ (t.channels.get ch).estimated = (s.channels.get ch).estimated
      ∧ (t.channels.get ch).tampered = (s.channels.get ch).tampered := fun ch => by
    obtain ⟨latch, hlatch⟩ := h.latchOnly ch
    rw [hlatch]
    exact ⟨rfl, rfl, rfl, rfl, rfl⟩
  simpa only [State.closedFrom, hchannel, h.image, h.table, h.entries, h.openNumber] using hclosed

/-- What comes before and after a close does not bear on it. -/
theorem closesTo_alike {s s' t t' : State} (h : Alike s s') (k : Alike t t') {c : Nat} {cause : CloseCause} {station : Option Nat}
    {band : Band} (hclose : s'.closesTo t c cause station band) : s.closesTo t' c cause station band := by
  obtain ⟨⟨older, r, x, hrec, hx, hclosed, hnumbers⟩, hlast, hopen, htaken, hchannels, hcut, haccounts, hframes, hpending, himage,
    hcontrol, hresp, hcontents, hwriting⟩ := hclose
  refine ⟨⟨older, r, x, h.records.symm.trans hrec, k.records ▸ hx, closedFrom_alike h hclosed, k.records ▸ hnumbers⟩, k.records ▸ hlast,
    k.openNumber.trans hopen, ?_, fun ch hon => ?_, fun i => ?_, fun i hi => ?_, k.entries ▸ hframes, ?_, ?_, ?_, ?_, ?_, ?_⟩
  · rw [k.closesTaken, htaken, h.closesTaken]
  · obtain ⟨latch, hlatch⟩ := h.latchOnly ch
    obtain ⟨latch', hlatch'⟩ := k.latchOnly ch
    have hrestarted := hchannels ch (by rw [h.image]; exact hon)
    rw [hlatch] at hrestarted
    rw [hlatch']
    exact restartedFrom_latch (restartedFrom_of_latch hrestarted) latch'
  · rw [k.table]
    exact hcut i
  · rw [k.table, haccounts i (by rw [h.table]; exact hi), h.table]
  · rw [k.pending, hpending, h.pending]
  · rw [k.image, himage, h.image]
  · rw [k.control, hcontrol, h.control]
  · rw [k.resp, hresp, h.resp]
  · rw [k.contents, hcontents, h.contents]
  · rw [k.writing, hwriting, h.writing]

end Sys2Proof.IntervalUnit

namespace Sys2Proof.IntervalUnit

open Sys2Proof Sys2Proof.Machine Sys2Proof.Notices Sys2Proof.ShareLine Sys2Proof.Reception Sys2Proof.RingUnit Sys2Proof.EngineUnit
open Sys2Proof.RingOrder Sys2Proof.Effects Sys2Proof.Cuts

/-! ## What comes before and after a close -/

theorem raiseNoticeAt_alike (cause : Cause) (p k : Nat) (s : State) : Alike s (raiseNoticeAt cause p k s) := by
  have hlatch := raiseNoticeAt_latchOnly cause p k s
  refine ⟨?_, ?_, ?_, ?_, ?_, ?_, ?_, ?_, ?_, ?_, ?_, hlatch⟩ <;> simp

theorem loadTimer_alike (s : State) : Alike s (loadTimer s) := ⟨rfl, rfl, rfl, rfl, rfl, rfl, rfl, rfl, rfl, rfl, rfl, .refl s⟩

theorem clearDrift_alike (s : State) : Alike s (clearDrift s) := ⟨rfl, rfl, rfl, rfl, rfl, rfl, rfl, rfl, rfl, rfl, rfl, .refl s⟩

/-- The interval unit, but for its open number and the closes that it has taken, and the receive pool do not bear on a close. -/
theorem Alike.of_interval (u : IntervalUnit) (x : RxPool) (s : State) (hopen : u.openNumber = s.interval.openNumber)
    (htaken : u.counters.closesTaken = s.interval.counters.closesTaken) : Alike s { s with interval := u, rx := x } :=
  ⟨rfl, rfl, rfl, rfl, rfl, rfl, rfl, rfl, rfl, hopen, htaken, .refl s⟩

theorem withdrawOwnClose_alike (s : State) : Alike s (withdrawOwnClose s) := by
  unfold withdrawOwnClose
  split
  · exact ⟨rfl, rfl, rfl, rfl, rfl, rfl, rfl, rfl, rfl, rfl, rfl, .refl s⟩
  · exact .refl s

theorem reportJump_alike (k j : Nat) (s : State) : Alike s (reportJump k j s) :=
  Alike.trans (t := onIntervalCounters (fun c => { c with jumps := bump c.jumps }) s)
    (.of_interval _ s.rx s rfl rfl) (raiseNoticeAt_alike ..)

/-- The interval unit after a deviation: the run goes up to three, and the mark is set with it (R116). -/
def deviated (u : IntervalUnit) : IntervalUnit := { u with
  driftRun := min (u.driftRun + 1) 3
  driftMark := u.driftMark || decide (2 ≤ u.driftRun)
  counters := { u.counters with deviations := bump u.counters.deviations } }

theorem deviate_eq (station k : Nat) (s : State) : deviate station k s =
    if 2 ≤ s.interval.driftRun ∧ s.interval.driftMark = false then
      raiseNoticeAt .clockDeviation station (deviationInterval k) { s with interval := deviated s.interval }
    else { s with interval := deviated s.interval } := by
  have hrun : (min (s.interval.driftRun + 1) 3 = 3) = (2 ≤ s.interval.driftRun) := propext (by omega)
  unfold deviate
  dsimp only [State.onInterval]
  by_cases hthird : 2 ≤ s.interval.driftRun ∧ s.interval.driftMark = false
  · obtain ⟨hlate, hmark⟩ := hthird
    rw [if_pos (by simp [hmark, hlate]), if_pos ⟨hlate, hmark⟩]
    simp only [deviated, hmark, hlate, decide_true, Bool.or_true]
  · have hmark : (s.interval.driftMark || decide (2 ≤ s.interval.driftRun)) = s.interval.driftMark := by
      cases hm : s.interval.driftMark
      · simpa [hm] using hthird
      · rfl
    rw [if_neg (by simpa [hrun] using hthird), if_neg hthird, deviated, hmark]

theorem deviate_alike (station k : Nat) (s : State) : Alike s (deviate station k s) := by
  have hunit : Alike s { s with interval := deviated s.interval } := .of_interval (deviated s.interval) s.rx s rfl rfl
  rw [deviate_eq]
  split
  · exact hunit.trans (raiseNoticeAt_alike ..)
  · exact hunit

theorem consultDrift_alike (station k : Nat) (s : State) : Alike s (consultDrift station k s) := by
  unfold consultDrift
  split
  · split
    · exact deviate_alike station k s
    · exact clearDrift_alike s
  · exact .refl s

/-- What a close can be taken of is the same before and after. -/
theorem CanClose.alike {s t : State} {c : Nat} {older : List Record} {r : Record} (h : CanClose s c older r) (k : Alike s t) :
    CanClose t c older r :=
  ⟨k.records.trans h.records, h.number.trans k.openNumber.symm, h.notOpen, h.rising, h.below, h.room, k.openNumber.trans_le h.upward⟩

/-! ## A request taken (R105, R112, R115) -/

section
variable {s : State} {q : HeldClose} {older : List Record} {r : Record}

theorem takeRequest_open (h : q.interval = s.interval.openNumber) :
    takeRequest q s = takeCloseOf q.interval q.cause q.station q.source s := by
  rw [takeRequest, if_neg (by omega)]

theorem takeRequest_above (h : s.interval.openNumber < q.interval) : takeRequest q s =
    reportJump s.interval.openNumber q.interval (takeCloseOf q.interval .jump q.station q.source s) := by
  rw [takeRequest, if_pos h]

theorem takeRequest_closesTo (hcan : CanClose s q.interval older r) (h : q.interval = s.interval.openNumber) :
    s.closesTo (takeRequest q s) q.interval q.cause q.station (s.image.bandFor (q.interval + 1) q.source) := by
  rw [takeRequest_open h]
  exact takeCloseOf_closesTo q.cause q.station q.source hcan

theorem takeRequest_jumpsTo (hcan : CanClose s q.interval older r) (h : s.interval.openNumber < q.interval) :
    s.closesTo (takeRequest q s) q.interval .jump q.station (s.image.bandFor (q.interval + 1) q.source) := by
  rw [takeRequest_above h]
  exact closesTo_alike (.refl s) (reportJump_alike ..) (takeCloseOf_closesTo .jump q.station q.source hcan)

/-- The interval unit after a request: the next number, the close counted, and a jump with it. -/
theorem takeRequest_interval : (takeRequest q s).interval = { s.interval with
    openNumber := q.interval + 1
    counters := { s.interval.counters with
      closesTaken := bump s.interval.counters.closesTaken
      jumps := if s.interval.openNumber < q.interval then bump s.interval.counters.jumps else s.interval.counters.jumps } } := by
  by_cases h : s.interval.openNumber < q.interval
  · simp only [takeRequest_above h, reportJump, raiseNoticeAt_keeps, if_pos h, onIntervalCounters, State.onInterval_blocks,
      takeCloseOf_interval]
  · simp only [takeRequest, if_neg h, takeCloseOf_interval]

theorem takeRequest_lineKept : LineKept s.line (takeRequest q s).line := by
  by_cases h : s.interval.openNumber < q.interval
  · rw [takeRequest_above h]
    rw [(reportJump_keeps _ _ _).2.2.2.2.2.2.2.2.1]
    exact takeCloseOf_lineKept
  · rw [takeRequest, if_neg h]
    exact takeCloseOf_lineKept

theorem takeRequest_entries : (takeRequest q s).rx.entries = s.rx.entries := by
  by_cases h : s.interval.openNumber < q.interval
  · rw [takeRequest_above h]
    simp only [reportJump_keeps, takeCloseOf_entries]
  · rw [takeRequest, if_neg h, takeCloseOf_entries]

end

end Sys2Proof.IntervalUnit

namespace Sys2Proof.IntervalUnit

open Sys2Proof Sys2Proof.Machine Sys2Proof.Notices Sys2Proof.ShareLine Sys2Proof.Reception Sys2Proof.RingUnit Sys2Proof.EngineUnit
open Sys2Proof.RingOrder Sys2Proof.Effects Sys2Proof.Cuts

/-! ## The closed record, pool by pool (R7) -/

section
variable (s : State) (cause : CloseCause) (station : Option Nat) (r : Record)

theorem closedAs_pools : (closedAs s cause station r).pools = (s.closedRecord cause station r).pools := by
  unfold closedAs
  dsimp only
  split <;> rfl

/-- The record goes on at once, with its COMPUTE job, just where every pool is COMPLETE. -/
theorem closedAs_progress :
    ((∀ p, s.image.mask.has p = true → ((closedAs s cause station r).pools.get p).complete = true) →
        ownJob s cause station r = [⟨.compute, r.number⟩] ∧ (closedAs s cause station r).state = .provisional
          ∧ (closedAs s cause station r).gather = none)
      ∧ (¬ (∀ p, s.image.mask.has p = true → ((closedAs s cause station r).pools.get p).complete = true) →
        ownJob s cause station r = [] ∧ (closedAs s cause station r).state = .gathering
          ∧ (closedAs s cause station r).gather = some s.image.gatherMs) := by
  rw [closedAs_pools, ← allComplete_iff]
  unfold ownJob closedAs
  exact ⟨fun h => by rw [if_pos h, if_pos h]; exact ⟨rfl, rfl, rfl⟩, fun h => by rw [if_neg h, if_neg h]; exact ⟨rfl, rfl, rfl⟩⟩

theorem closedRecord_pool_outside {p : PoolId} (hp : s.image.mask.has p = false) :
    (s.closedRecord cause station r).pools.get p = r.pools.get p := by
  simp only [State.closedRecord, Four.get_ofFn, hp, Bool.false_eq_true, if_false]

/-- The part of a pool of the node's mask: the others' entries judged by the expected set, the own one at its place. -/
theorem closedRecord_pool {p : PoolId} (hp : s.image.mask.has p = true) {mine : OwnSummary}
    (hmine : ((s.closedRecord cause station r).pools.get p).own = some mine) {lower higher : List Entry}
    (hlist : (r.pools.get p).contributors = lower ++ higher) (hlower : ∀ z ∈ lower, z.station < s.image.station)
    (hhigher : ∀ z ∈ higher, s.image.station < z.station) :
    let expected := ((s.closedRecord cause station r).pools.get p).expected
    let marked (z : Entry) : Entry := { z with unexpected := !expected.contains z.station }
    let all := lower.map marked ++ ⟨s.image.station, mine.values, mine.estimated, mine.tampered, false, false, false⟩ :: higher.map marked
    (s.closedRecord cause station r).pools.get p = { listing all (r.pools.get p) with
      expected := expected
      complete := (r.pools.get p).complete || expected.all (fun st => all.any (fun z => z.station == st))
      own := some mine
      sending := some .waiting } := by
  have hown : mine = s.ownSummary r.band (s.closeAccounts r.band) p :=
    Option.some.inj (hmine.symm.trans (SupplyCost.closedRecord_own hp cause station r))
  have hpart : (s.closedRecord cause station r).pools.get p =
      (r.pools.get p).close s.image.station (s.roster.expectedSet p) mine := by
    simp only [State.closedRecord, Four.get_ofFn, if_pos hp, hown]
  have hexpected : ((s.closedRecord cause station r).pools.get p).expected = s.roster.expectedSet p := by
    rw [hpart]
    rfl
  intro expected marked all
  have hmarked : expected = s.roster.expectedSet p := hexpected
  have hinsert : insertEntry ⟨s.image.station, mine.values, mine.estimated, mine.tampered, false, false, false⟩
      ((r.pools.get p).contributors.map (fun e => { e with unexpected := !(s.roster.expectedSet p).contains e.station })) = all := by
    rw [hlist, List.map_append, insertEntry_between]
    · simp only [all, marked, hmarked]
    · intro z hz
      obtain ⟨y, hy, rfl⟩ := List.mem_map.mp hz
      exact hlower y hy
    · intro z hz
      obtain ⟨y, hy, rfl⟩ := List.mem_map.mp hz
      exact hhigher y hy
  rw [hpart, PoolPart.close]
  dsimp only
  rw [hinsert, evaluate_eq, PoolPart.refresh, sumEntries_eq, hmarked]
  rfl

end

/-! ## The own close (R107) -/

theorem insertFrame_split_any (f : TxFrame) (q : List TxFrame) :
    ∃ before behind, q = before ++ behind ∧ insertFrame f q = before ++ f :: behind := by
  induction q with
  | nil => exact ⟨[], [], rfl, rfl⟩
  | cons g q ih =>
    unfold insertFrame
    split
    · exact ⟨[], g :: q, rfl, rfl⟩
    · obtain ⟨before, behind, hq, hinsert⟩ := ih
      exact ⟨g :: before, behind, by rw [hq]; rfl, by rw [hinsert]; rfl⟩

theorem hasRoom_close {u : State} (h : ∀ f ∈ u.line.queue, f.body.kind ≠ 1) : u.hasRoom .close = true := by
  have hnone : classFill .close u.line.queue = 0 := by
    rw [classFill, List.countP_eq_zero]
    intro f hf
    have hkind := h f hf
    revert hkind
    cases f.body <;> simp [FrameBody.kind, FrameBody.txClass]
  rw [hasRoom_iff, hnone]
  decide

theorem queueOwnClose_eq {u : State} (h : ∀ f ∈ u.line.queue, f.body.kind ≠ 1) (k : Nat) (band : Band) : queueOwnClose k band u =
    { u with
      line := u.lineWith (queued (.close k band) u.line.queue)
      interval := { u.interval with timer := .waitingLine } } := by
  rw [queueOwnClose, if_pos (hasRoom_close h), enqueue_eq]
  rfl

/-- The node's own close of the open interval, up to its CLOSE. -/
def ownTaken (s : State) : State := takeRequest ⟨s.interval.openNumber, .own, none, .schedule⟩ (clearDrift s)

section
variable {s : State}

theorem ownExpiry_takes (hmax : s.interval.openNumber ≠ 4294967295) (htakes : s.takesNow = true) : ownExpiry s =
    if (ownTaken s).interval.membership == .member then
      queueOwnClose s.interval.openNumber (s.image.scheduledBand (s.interval.openNumber + 1)) (ownTaken s)
    else loadTimer (ownTaken s) := by
  rw [ownExpiry, if_neg (by exact hmax), if_pos htakes]
  rfl

theorem ownTaken_interval : (ownTaken s).interval = { s.interval with
    openNumber := s.interval.openNumber + 1
    driftRun := 0
    driftMark := false
    counters := { s.interval.counters with closesTaken := bump s.interval.counters.closesTaken } } := by
  rw [ownTaken, takeRequest_interval]
  simp [clearDrift]

theorem ownTaken_lineKept : LineKept s.line (ownTaken s).line :=
  LineKept.trans (m := (clearDrift s).line) (.refl _) takeRequest_lineKept

/-- What the CLOSE, or the timer in its place, leaves of the close. -/
theorem ownExpiry_after (hmax : s.interval.openNumber ≠ 4294967295) (htakes : s.takesNow = true)
    (hq : ∀ f ∈ s.line.queue, f.body.kind ≠ 1) :
    Alike (ownTaken s) (ownExpiry s) ∧ (ownExpiry s).ring = (ownTaken s).ring ∧ (ownExpiry s).engine = (ownTaken s).engine
      ∧ (ownExpiry s).table = (ownTaken s).table ∧ (ownExpiry s).store = (ownTaken s).store
      ∧ (ownExpiry s).check = (ownTaken s).check ∧ (ownExpiry s).line.offers = (ownTaken s).line.offers := by
  rw [ownExpiry_takes hmax htakes]
  split
  · rw [queueOwnClose_eq (ownTaken_lineKept.no_close.mpr hq)]
    exact ⟨⟨rfl, rfl, rfl, rfl, rfl, rfl, rfl, rfl, rfl, rfl, rfl, .refl _⟩, rfl, rfl, rfl, rfl, rfl, rfl⟩
  · exact ⟨loadTimer_alike _, rfl, rfl, rfl, rfl, rfl, rfl⟩

theorem ownTaken_open : (clearDrift s).interval.openNumber = s.interval.openNumber := rfl

theorem ownTaken_eq : ownTaken s = takeCloseOf s.interval.openNumber .own none .schedule (clearDrift s) :=
  takeRequest_open (q := ⟨s.interval.openNumber, .own, none, .schedule⟩) ownTaken_open.symm

theorem mem_offersWithout {b : SummaryBody} {k : Nat} {offers : List Offer} :
    Offer.summary b ∈ offersWithout k offers ↔ Offer.summary b ∈ offers ∧ b.interval ≠ k := by
  simp [offersWithout]

end

end Sys2Proof.IntervalUnit

namespace Sys2Proof.IntervalUnit

open Sys2Proof Sys2Proof.Machine Sys2Proof.Notices Sys2Proof.ShareLine Sys2Proof.Reception Sys2Proof.RingUnit Sys2Proof.EngineUnit
open Sys2Proof.RingOrder Sys2Proof.Effects Sys2Proof.Cuts

/-! ## The closed record and the ring of an own close -/

section
variable {s : State} {older : List Record} {r : Record}

theorem canClose_drift {c : Nat} (h : CanClose s c older r) : CanClose (clearDrift s) c older r := h.alike (clearDrift_alike s)

/-- The OPEN record under its own number is not renumbered. -/
theorem closedOf_open (cause : CloseCause) (station : Option Nat) (r : Record) :
    closedOf (clearDrift s) s.interval.openNumber cause station r = closedAs s cause station r := by
  have hsame : renumbered (clearDrift s) s.interval.openNumber r = r := if_neg (Nat.lt_irrefl _)
  rw [closedOf, hsame]
  rfl

theorem ownJob_open (cause : CloseCause) (station : Option Nat) (r : Record) :
    ownJob (clearDrift s) cause station (renumbered (clearDrift s) s.interval.openNumber r) = ownJob s cause station r := by
  have hsame : renumbered (clearDrift s) s.interval.openNumber r = r := if_neg (Nat.lt_irrefl _)
  rw [hsame]
  rfl

theorem summaries_iff {l m : List Offer} (h : summaries l = summaries m) (b : SummaryBody) :
    Offer.summary b ∈ l ↔ Offer.summary b ∈ m := by
  rw [← mem_summaries, h, mem_summaries]

theorem ownTaken_stays (h : CanClose s s.interval.openNumber older r) (hstay : older.length < 2 ∨ ∃ x ∈ older, x.state = .settling) :
    (ownTaken s).engine.jobs = s.engine.jobs ++ ownJob s .own none r
      ∧ (∀ b, Offer.summary b ∈ (ownTaken s).line.offers ↔ Offer.summary b ∈ s.line.offers)
      ∧ (ownTaken s).ring.records = older ++ [closedAs s .own none r,
        Record.atOpen (s.interval.openNumber + 1) (s.image.scheduledBand (s.interval.openNumber + 1)) false] := by
  obtain ⟨hrecords, hjobs, hoffers⟩ := takeCloseOf_stays .own none .schedule (canClose_drift h) hstay
  rw [ownTaken_eq, hrecords, hjobs, closedOf_open, ownJob_open]
  exact ⟨rfl, summaries_iff hoffers, rfl⟩

theorem ownTaken_advances {a b : Record} (h : CanClose s s.interval.openNumber [a, b] r) (ha : waits a = true) (hb : waits b = true) :
    (ownTaken s).engine.jobs = s.engine.jobs ++ ownJob s .own none r
        ++ (if a.state = .gathering then [⟨.compute, a.number⟩] else []) ++ [⟨.settle, a.number⟩]
      ∧ (∀ x, Offer.summary x ∈ (ownTaken s).line.offers ↔ Offer.summary x ∈ s.line.offers ∧ x.interval ≠ a.number)
      ∧ (ownTaken s).ring.records = [settled a, b, closedAs s .own none r,
        Record.atOpen (s.interval.openNumber + 1) (s.image.scheduledBand (s.interval.openNumber + 1)) false] := by
  obtain ⟨hrecords, hjobs, hoffers⟩ := takeCloseOf_advances .own none .schedule (canClose_drift h) ha hb
  rw [ownTaken_eq, hrecords, hjobs, closedOf_open, ownJob_open]
  exact ⟨rfl, fun x => (summaries_iff hoffers x).trans mem_offersWithout, rfl⟩

theorem CanClose.unique (h : CanClose s s.interval.openNumber older r) {older' : List Record} {r' : Record}
    (hrec : s.ring.records = older' ++ [r']) : older' = older ∧ r' = r := by
  obtain ⟨holder, hr⟩ := List.append_inj' (hrec.symm.trans h.records) rfl
  exact ⟨holder, by simpa using hr⟩

end

/-- Settles O35: the close, the own CLOSE and the timer, the closed record, and the advance. -/
theorem ownExpiryTakesTheClose : Obligations.OwnExpiryTakesTheClose := by
  intro ms s hf hs ht hmax hheld hdrain hroom hq k band
  obtain ⟨older, r, hcan⟩ := canClose hs (hasRing_of_following hf) hroom le_rfl
  have htakes : s.takesNow = true := takesNow_iff.mpr ⟨⟨hroom, hdrain⟩, hheld⟩
  obtain ⟨halike, hring, hengine, -, -, hcheck, hoffers⟩ := ownExpiry_after hmax htakes hq
  have hclose : s.closesTo (ownExpiry s) k .own none band :=
    closesTo_alike (clearDrift_alike s) halike (takeRequest_closesTo (canClose_drift hcan) rfl)
  have hqueue := ownTaken_lineKept.no_close.mpr hq
  have hinterval := ownTaken_interval (s := s)
  have hmembership : (ownTaken s).interval.membership = s.interval.membership := by rw [hinterval]
  have hdrift : (ownExpiry s).interval.membership = s.interval.membership ∧ (ownExpiry s).interval.driftRun = 0
      ∧ (ownExpiry s).interval.driftMark = false := by
    rw [ownExpiry_takes hmax htakes]
    split
    · rw [queueOwnClose_eq hqueue]
      simp only [hinterval, and_self]
    · simp only [loadTimer, State.onInterval, hinterval, and_self]
  obtain ⟨hm, hrun, hmark⟩ := hdrift
  have hcheck' : (ownExpiry s).check = s.check := hcheck.trans (by simp [ownTaken])
  have hclosed : closedAs s .own none r ∈ (ownTaken s).ring.records := by
    have hmem := (takeCloseOf_numbers .own none .schedule (canClose_drift hcan)).1
    rw [closedOf_open] at hmem
    rw [ownTaken_eq]
    exact hmem
  refine ⟨ownExpiry s, exec_ownExpiry hf ht, hclose, hcheck', hm, hrun, hmark, fun hmember => ?_, fun hobserver => ?_,
    ownJob s .own none r, closedAs s .own none r, by rw [hring]; exact hclosed, (closedAs_number ..).trans hcan.number,
    fun older' r' hrec => ?_, fun x y r' hrec hx hy => ?_, fun older' r' hrec hstay => ?_⟩
  · rw [ownExpiry_takes hmax htakes, if_pos (by rw [hmembership, hmember]; rfl), queueOwnClose_eq hqueue]
    obtain ⟨before, behind, hsplit, hinsert⟩ := insertFrame_split_any ⟨.close k band, 0, false⟩ (ownTaken s).line.queue
    exact ⟨rfl, before, behind, hinsert, by rw [← hsplit]; exact hqueue⟩
  · rw [ownExpiry_takes hmax htakes, if_neg (by rw [hmembership, hobserver]; decide)]
    refine ⟨?_, hqueue⟩
    simp [loadTimer, ownTaken]
  · obtain ⟨rfl, rfl⟩ := hcan.unique hrec
    obtain ⟨hall, hsome⟩ := closedAs_progress s .own none r'
    rw [hcan.number] at hall
    refine ⟨fun hcomplete => hall hcomplete, fun hcomplete => hsome hcomplete, fun p => ⟨fun hp => ?_, ?_⟩⟩
    · rw [closedAs_pools, closedRecord_pool_outside s .own none r' hp]
    · rw [closedAs_pools]
      intro mine lower higher hp hmine hlist hlower hhigher
      exact closedRecord_pool s .own none r' hp hmine hlist hlower hhigher
  · obtain ⟨rfl, rfl⟩ := hcan.unique (older' := [x, y]) hrec
    have hopen := hcan.notOpen
    obtain ⟨hjobs, hsummaries, hrecords⟩ := ownTaken_advances hcan (a := x) (b := y) (by simp [waits, hx, hopen x (by simp)])
      (by simp [waits, hy, hopen y (by simp)])
    rw [hengine, hoffers, hring]
    exact ⟨hjobs, hsummaries, _, hrecords⟩
  · obtain ⟨rfl, rfl⟩ := hcan.unique hrec
    obtain ⟨hjobs, hsummaries, hrecords⟩ := ownTaken_stays hcan hstay
    rw [hengine, hoffers, hring]
    exact ⟨hjobs, hsummaries, _, hrecords⟩

end Sys2Proof.IntervalUnit

namespace Sys2Proof.IntervalUnit

open Sys2Proof Sys2Proof.Machine Sys2Proof.Notices Sys2Proof.ShareLine Sys2Proof.Reception Sys2Proof.RingUnit Sys2Proof.EngineUnit
open Sys2Proof.RingOrder Sys2Proof.Effects Sys2Proof.Cuts

/-! ## Ageing at a close (R133, R134) -/

section
variable {s : State} {c : Nat} {older : List Record} {r : Record} (cause : CloseCause) (station : Option Nat) (source : BandSource)

/-- The previous record is the one below the closed one, in SETTLING or not. -/
theorem previousRecord_openedNext (h : CanClose s c older r) :
    (openedNext c cause station source s).previousRecord c = older.getLast? := by
  have hnumber := closedOf_number h cause station
  have hbelow := h.below_c
  have hrecords : (openedNext c cause station source s).ring.records = (takeCloseOf c cause station source s).ring.records :=
    congrArg Ring.records (takeCloseOf_openNext c cause station source s).1.symm
  rw [State.previousRecord, hrecords]
  obtain hstay | ⟨a, b, rfl, ha, hb⟩ := stays_or_advances h
  · rw [(takeCloseOf_stays cause station source h hstay).1, List.filter_append,
      List.filter_eq_self.mpr fun x hx => decide_eq_true (hbelow x hx), List.filter_eq_nil_iff.mpr, List.append_nil]
    simp [hnumber, Record.atOpen]
  · rw [(takeCloseOf_advances cause station source h ha hb).1]
    simp [hnumber, Record.atOpen, settled, hbelow a (by simp), hbelow b (by simp)]

theorem boundaryRoster_fields (x : Roster) (limit : Nat) :
    (boundaryRoster x limit).entries = x.entries.map (fun e => { e.evaluate limit with frames := 0 })
      ∧ (boundaryRoster x limit).counters.freed = x.counters.freed := ⟨rfl, rfl⟩

theorem announcing_counters (a : AnnounceSending) (x : Roster) : (announcing a x).counters = x.counters := rfl

/-- The entries after a close: aged, those gone that have missed too much, and past the boundary. -/
theorem takeCloseOf_aged (h : CanClose s c older r) :
    (takeCloseOf c cause station source s).roster.entries =
        ((s.roster.entries.map (Peer.age s.image.codeA s.interval.openNumber older.getLast?)).filter
          (fun e => !e.freed s.image.codeA)).map (fun e => { e.evaluate s.image.rateLimit with frames := 0 })
      ∧ (takeCloseOf c cause station source s).roster.counters.freed =
        bumpBy ((s.roster.entries.map (Peer.age s.image.codeA s.interval.openNumber older.getLast?)).countP
          (fun e => e.freed s.image.codeA)) s.roster.counters.freed := by
  have haged : (agedAt c cause station source s).roster.entries =
        (s.roster.entries.map (Peer.age s.image.codeA s.interval.openNumber older.getLast?)).filter (fun e => !e.freed s.image.codeA)
      ∧ (agedAt c cause station source s).roster.counters.freed =
        bumpBy ((s.roster.entries.map (Peer.age s.image.codeA s.interval.openNumber older.getLast?)).countP
          (fun e => e.freed s.image.codeA)) s.roster.counters.freed := by
    simp only [agedAt, ageRoster, State.onRoster, previousRecord_openedNext cause station source h, openedNext_keeps, and_self]
  obtain ⟨a, ha⟩ := takeCloseOf_roster (c := c) (cause := cause) (station := station) (source := source) (s := s)
  obtain ⟨hentries, hfreed⟩ := boundaryRoster_fields (agedAt c cause station source s).roster s.image.rateLimit
  rw [ha, announcing_entries, announcing_counters, hentries, hfreed, haged.1, haged.2]
  exact ⟨rfl, rfl⟩

end

/-- An entry's ageing, state by state. -/
theorem age_eq (limit openBefore : Nat) (previous : Option Record) (e : Peer) :
    (if e.role = .reader then { e with missed := if e.lastHeard = openBefore then 0 else e.missed + 1 }
      else match previous with
        | none => e
        | some x =>
          if x.pools.toList.any (fun p => p.contributors.any (fun y => y.station == e.station)) = true then
            { e with missed := 0, state := if e.state = .silent then .active else e.state }
          else { e with
            missed := e.missed + 1
            state := if e.state = .active ∧ limit ≤ e.missed + 1 then .silent else e.state }) = e.age limit openBefore previous := by
  unfold Peer.age
  by_cases hrole : e.role = .reader
  · rw [if_pos hrole, if_pos (beq_iff_eq.mpr hrole), Peer.ageReader]
    split <;> rfl
  · rw [if_neg hrole, if_neg (fun hb => hrole (beq_iff_eq.mp hb))]
    cases previous with
    | none => rfl
    | some x =>
      simp only [Peer.ageNode, Record.hasContributor, beq_iff_eq, Bool.and_eq_true, decide_eq_true_eq]
      split
      · rfl
      · by_cases hsilent : e.state = .active ∧ limit ≤ e.missed + 1
        · rw [if_pos hsilent, if_pos hsilent]
        · rw [if_neg hsilent, if_neg hsilent]

/-! ## HELD_CLOSE_TAKEN (R115) -/

/-- The state with no close held. -/
def unheld (s : State) : State := { s with interval := { s.interval with held := none } }

theorem unheld_alike (s : State) : Alike s (unheld s) := .of_interval _ s.rx s rfl rfl

theorem exec_heldCloseTaken {s : State} {h : HeldClose} (hf : s.following = true) (hheld : s.interval.held = some h)
    (hdrain : s.interval.drain = false) (room : s.ring.records.length < 4) :
    exec .heldCloseTaken s = .next (takeRequest h (unheld s)) := by
  have hslot : (s.following && s.hasEmptySlot) = true := by simp [hf, State.hasEmptySlot, hdrain, room]
  show execHeldCloseTaken s = _
  simp only [execHeldCloseTaken, hslot, hheld]
  rfl

/-- Settles O40: the held close with its latest cause or by JUMP, and the ageing of the roster. -/
theorem heldCloseIsTaken : Obligations.HeldCloseIsTaken := by
  intro h s hf hs hheld hdrain room band
  have hup : s.interval.openNumber ≤ h.interval := hs.2.2.2.2.2 h hheld
  obtain ⟨older, r, hcan⟩ := canClose hs (hasRing_of_following hf) room hup
  have hcan' : CanClose (unheld s) h.interval older r := hcan.alike (unheld_alike s)
  have hinterval := takeRequest_interval (s := unheld s) (q := h)
  have hband : band = (unheld s).image.bandFor (h.interval + 1) h.source := by
    simp only [band]
    cases h.source <;> rfl
  have hroster : ∃ cause, (takeRequest h (unheld s)).roster = (takeCloseOf h.interval cause h.station h.source (unheld s)).roster := by
    unfold takeRequest
    dsimp only
    split
    · exact ⟨.jump, by simp⟩
    · exact ⟨_, rfl⟩
  refine ⟨_, exec_heldCloseTaken hf hheld hdrain room, by rw [hinterval]; rfl, by rw [hinterval]; rfl, by simp [unheld],
    takeRequest_entries, by rw [hinterval]; rfl, takeRequest_lineKept.countP_closes, fun hopen => ?_, fun hjump => ⟨?_, ?_⟩,
    fun older' r' hrec => ?_⟩
  · rw [hband]
    exact closesTo_alike (unheld_alike s) (.refl _) (takeRequest_closesTo hcan' hopen)
  · rw [hband]
    exact closesTo_alike (unheld_alike s) (.refl _) (takeRequest_jumpsTo hcan' hjump)
  · rw [hinterval]
    exact if_pos hjump
  · intro limit reported aged leaves
    obtain ⟨rfl, -⟩ : older' = older ∧ r' = r := by
      obtain ⟨holder, hr⟩ := List.append_inj' (hrec.symm.trans hcan.records) rfl
      exact ⟨holder, by simpa using hr⟩
    obtain ⟨cause, hcause⟩ := hroster
    obtain ⟨hentries, hfreed⟩ := takeCloseOf_aged cause h.station h.source hcan'
    have haged : aged = Peer.age s.image.codeA s.interval.openNumber older'.getLast? := funext fun e => age_eq ..
    rw [hcause, haged]
    exact ⟨hentries, hfreed⟩

end Sys2Proof.IntervalUnit

namespace Sys2Proof.IntervalUnit

open Sys2Proof Sys2Proof.Machine Sys2Proof.Notices Sys2Proof.ShareLine Sys2Proof.Reception Sys2Proof.RingUnit Sys2Proof.EngineUnit
open Sys2Proof.RingOrder Sys2Proof.Effects Sys2Proof.Cuts

/-! ## What becomes of the node's own CLOSE (R108, R110, R147, R152) -/

theorem withdrawOwnClose_unit (u : State) : (withdrawOwnClose u).interval = { u.interval with
    timer := if u.ownCloseQueued then .running u.image.lengthMs else u.interval.timer
    counters := { u.interval.counters with
      closeWithdrawn := if u.ownCloseQueued then bump u.interval.counters.closeWithdrawn else u.interval.counters.closeWithdrawn } } := by
  unfold withdrawOwnClose
  by_cases h : u.ownCloseQueued = true
  · simp only [if_pos h]
    rfl
  · simp only [if_neg h]

theorem ownCloseQueued_iff {u : State} : u.ownCloseQueued = true ↔ ∃ f ∈ u.line.queue, f.body.kind = 1 := by
  simp [State.ownCloseQueued, isClose_eq_kind]

/-- What follows the withdrawal keeps the line's CLOSEs, its monitor and its counts; so it decides what becomes of the own CLOSE. -/
theorem ownClose_of_withdrawn {s u t : State} (hline : u.line = s.line)
    (hcount : u.interval.counters.closeWithdrawn = s.interval.counters.closeWithdrawn)
    (hkept : LineKept (withdrawOwnClose u).line t.line)
    (hwithdrawn : t.interval.counters.closeWithdrawn = (withdrawOwnClose u).interval.counters.closeWithdrawn) :
    s.ownCloseLeaves t ∧ s.ownCloseCounted t := by
  have hgone : ∀ f ∈ (withdrawOwnClose u).line.queue, f.body.kind ≠ 1 := fun f hf => by
    rw [(withdrawOwnClose_line u).1] at hf
    simpa [isClose_eq_kind] using (List.mem_filter.mp hf).2
  rw [withdrawOwnClose_unit] at hwithdrawn
  refine ⟨⟨hkept.no_close.mpr hgone, fun hnone => ?_, fun hsome => ?_⟩, fun hnone => ?_, fun f before after hq hf hothers => ?_⟩
  · have hqueued : u.ownCloseQueued = false := ownCloseQueued_eq_false (by rw [hline]; exact hnone)
    rw [hwithdrawn, hqueued]
    exact hcount
  · have hqueued : u.ownCloseQueued = true := ownCloseQueued_iff.mpr (by rw [hline]; exact hsome)
    rw [hwithdrawn, hqueued, ← hcount]
    rfl
  · rw [withdrawOwnClose_of_none (by rw [hline]; exact hnone), hline] at hkept
    exact ⟨hkept.txWithdrawn, hkept.txCutOff⟩
  · have hone := withdrawOwnClose_one (s := u) (by rw [hline]; exact hq) hf hothers
    rw [hone, hline] at hkept
    obtain ⟨-, hmonitor, hwithdrawn, hcut, hbad⟩ := hkept
    refine ⟨hwithdrawn, fun hsending => ?_, fun hsending => ⟨?_, ?_, ?_⟩⟩
    · rw [hcut]
      simp only [lineWithout, hsending, Bool.false_eq_true, if_false]
    · rw [hcut]
      simp only [lineWithout, hsending, if_true]
    · rw [hbad]
      simp only [lineWithout, hsending, if_true]
    · rw [hmonitor]
      simp only [lineWithout, hsending, if_true]

/-! ## A close by a frame (R109 to R112) -/

/-- What comes before a close by a frame: the line and the counters of withdrawals and jumps are as at the take. -/
structure Ready (s u : State) : Prop where
  alike : Alike s u
  line : u.line = s.line
  check : u.check = s.check
  membership : u.interval.membership = s.interval.membership
  withdrawn : u.interval.counters.closeWithdrawn = s.interval.counters.closeWithdrawn
  jumps : u.interval.counters.jumps = s.interval.counters.jumps

theorem Ready.trans {s t u : State} (h : Ready s t) (k : Ready t u) : Ready s u :=
  ⟨h.alike.trans k.alike, k.line.trans h.line, k.check.trans h.check, k.membership.trans h.membership, k.withdrawn.trans h.withdrawn,
    k.jumps.trans h.jumps⟩

theorem taken_ready (s : State) (x : RxPool) : Ready s { s with rx := x } :=
  ⟨.of_interval s.interval x s rfl rfl, rfl, rfl, rfl, rfl, rfl⟩

theorem deviate_interval (station k : Nat) (s : State) : (deviate station k s).interval = deviated s.interval := by
  rw [deviate_eq]
  split
  · simp only [raiseNoticeAt_keeps]
  · rfl

theorem deviate_ready (station k : Nat) (s : State) : Ready s (deviate station k s) := by
  have halike := deviate_alike station k s
  have hunit := deviate_interval station k s
  exact ⟨halike, by simp, by simp, by rw [hunit]; rfl, by rw [hunit]; rfl, by rw [hunit]; rfl⟩

theorem consultDrift_ready (station k : Nat) (s : State) : Ready s (consultDrift station k s) := by
  unfold consultDrift
  split
  · split
    · exact deviate_ready station k s
    · exact ⟨clearDrift_alike s, rfl, rfl, rfl, rfl, rfl⟩
  · exact ⟨.refl s, rfl, rfl, rfl, rfl, rfl⟩

section
variable {s u : State} {q : HeldClose} {older : List Record} {r : Record}

theorem frameClose_interval : (frameClose q u).interval = { u.interval with
    openNumber := q.interval + 1
    timer := .running u.image.lengthMs
    counters := { u.interval.counters with
      closesTaken := bump u.interval.counters.closesTaken
      closeWithdrawn := if u.ownCloseQueued then bump u.interval.counters.closeWithdrawn else u.interval.counters.closeWithdrawn
      jumps := if u.interval.openNumber < q.interval then bump u.interval.counters.jumps else u.interval.counters.jumps } } := by
  have himage : (takeRequest q (withdrawOwnClose u)).image = u.image := by simp
  simp only [frameClose, loadTimer, State.onInterval, takeRequest_interval, withdrawOwnClose_unit, himage]

/-- The close by a frame, what it leaves of the own CLOSE, and the blocks that it keeps. -/
theorem frameClose_leaves (h : Ready s u) : s.ownCloseLeaves (frameClose q u) ∧ s.ownCloseCounted (frameClose q u)
    ∧ (frameClose q u).interval.timer = .running s.image.lengthMs ∧ (frameClose q u).rx.entries = u.rx.entries
    ∧ (frameClose q u).check = s.check ∧ (frameClose q u).interval.membership = s.interval.membership := by
  obtain ⟨hleaves, hcounted⟩ := ownClose_of_withdrawn (t := frameClose q u) h.line h.withdrawn
    (takeRequest_lineKept (s := withdrawOwnClose u) (q := q)) (by rw [frameClose_interval, withdrawOwnClose_unit])
  refine ⟨hleaves, hcounted, ?_, ?_, ?_, ?_⟩
  · rw [frameClose_interval, h.alike.image]
  · simp only [frameClose, loadTimer_keeps, takeRequest_entries, withdrawOwnClose_keeps]
  · simp [frameClose, h.check]
  · rw [frameClose_interval]
    exact h.membership

theorem frameClose_closesTo (h : Ready s u) (hcan : CanClose s q.interval older r) (hq : q.interval = s.interval.openNumber) :
    s.closesTo (frameClose q u) q.interval q.cause q.station (s.image.bandFor (q.interval + 1) q.source)
      ∧ (frameClose q u).interval.counters.jumps = s.interval.counters.jumps := by
  have hbefore : Alike s (withdrawOwnClose u) := h.alike.trans (withdrawOwnClose_alike u)
  have hclose := takeRequest_closesTo (q := q) (hcan.alike hbefore) (hq.trans hbefore.openNumber.symm)
  rw [hbefore.image] at hclose
  refine ⟨closesTo_alike hbefore (loadTimer_alike _) hclose, ?_⟩
  rw [frameClose_interval, h.alike.openNumber, ← h.jumps]
  exact if_neg (by omega)

theorem frameClose_jumpsTo (h : Ready s u) (hcan : CanClose s q.interval older r) (hq : s.interval.openNumber < q.interval) :
    s.closesTo (frameClose q u) q.interval .jump q.station (s.image.bandFor (q.interval + 1) q.source)
      ∧ (frameClose q u).interval.counters.jumps = bump s.interval.counters.jumps := by
  have hbefore : Alike s (withdrawOwnClose u) := h.alike.trans (withdrawOwnClose_alike u)
  have hclose := takeRequest_jumpsTo (q := q) (hcan.alike hbefore) (hbefore.openNumber.trans_lt hq)
  rw [hbefore.image] at hclose
  refine ⟨closesTo_alike hbefore (loadTimer_alike _) hclose, ?_⟩
  rw [frameClose_interval, h.alike.openNumber, ← h.jumps]
  exact if_pos hq

/-- A jump is reported last (R112). -/
theorem frameClose_notice (h : Ready s u) (hm : s.interval.membership ≠ .unconfigured) (hq : s.interval.openNumber < q.interval) :
    ∃ n, (frameClose q u).cond.notices.getLast? =
      some ⟨n, .numberingJump, min (q.interval - s.interval.openNumber) 65535, q.interval, .unsent⟩ := by
  have hopen : (withdrawOwnClose u).interval.openNumber = s.interval.openNumber := by
    rw [withdrawOwnClose_unit]
    exact h.alike.openNumber
  have hmembership : (onIntervalCounters (fun c => { c with jumps := bump c.jumps })
      (takeCloseOf q.interval .jump q.station q.source (withdrawOwnClose u))).interval.membership ≠ .unconfigured := by
    simp only [onIntervalCounters, State.onInterval, takeCloseOf_interval, withdrawOwnClose_unit]
    rw [h.membership]
    exact hm
  obtain ⟨n, hnotices⟩ := raiseNoticeAt_notices hmembership .numberingJump (min (q.interval - s.interval.openNumber) 65535) q.interval
  refine ⟨n, ?_⟩
  rw [frameClose, takeRequest_above (hopen.trans_lt hq), hopen]
  show (raiseNoticeAt _ _ _ _).cond.notices.getLast? = _
  rw [hnotices, List.getLast?_append, List.getLast?_singleton]
  rfl

end

end Sys2Proof.IntervalUnit

namespace Sys2Proof.IntervalUnit

open Sys2Proof Sys2Proof.Machine Sys2Proof.Notices Sys2Proof.ShareLine Sys2Proof.Reception Sys2Proof.RingUnit Sys2Proof.EngineUnit
open Sys2Proof.RingOrder Sys2Proof.Effects Sys2Proof.Cuts

/-! ## A close that becomes the held close (R113, R114) -/

/-- The interval unit with a request held or merged. -/
def withHeld (q : HeldClose) (u : IntervalUnit) : IntervalUnit :=
  match u.held with
  | none => { u with held := some q, counters := { u.counters with closesHeld := bump u.counters.closesHeld } }
  | some h => { u with held := some (h.merge q), counters := { u.counters with heldMerged := bump u.counters.heldMerged } }

theorem holdClose_eq (q : HeldClose) (s : State) : holdClose q s =
    countBoundary (loadTimer (withdrawOwnClose { s with interval := withHeld q s.interval })) := by
  unfold holdClose withHeld
  cases hheld : s.interval.held <;> simp only [State.onInterval, hheld]

theorem withHeld_keeps (q : HeldClose) (u : IntervalUnit) : (withHeld q u).membership = u.membership
    ∧ (withHeld q u).counters.closeWithdrawn = u.counters.closeWithdrawn := by
  unfold withHeld
  split <;> exact ⟨rfl, rfl⟩

section
variable {s u : State} {q : HeldClose}

theorem holdClose_interval : (holdClose q s).interval = { withHeld q s.interval with
    timer := .running s.image.lengthMs
    counters := { (withHeld q s.interval).counters with
      closeWithdrawn :=
        if s.ownCloseQueued then bump s.interval.counters.closeWithdrawn else s.interval.counters.closeWithdrawn } } := by
  rw [holdClose_eq]
  simp only [countBoundary_keeps, loadTimer, State.onInterval, withdrawOwnClose_unit, withdrawOwnClose_keeps]
  rw [(withHeld_keeps q s.interval).2]
  rfl

theorem holdClose_leaves (h : Ready s u) : s.ownCloseLeaves (holdClose q u) ∧ s.ownCloseCounted (holdClose q u)
    ∧ (holdClose q u).interval.timer = .running s.image.lengthMs ∧ (holdClose q u).rx.entries = u.rx.entries
    ∧ (holdClose q u).check = s.check ∧ (holdClose q u).interval.membership = s.interval.membership := by
  have hkept : LineKept (withdrawOwnClose { u with interval := withHeld q u.interval }).line (holdClose q u).line := by
    rw [holdClose_eq]
    exact LineKept.trans (m := (loadTimer (withdrawOwnClose { u with interval := withHeld q u.interval })).line) (.refl _)
      (boundary_lineKept _)
  obtain ⟨hleaves, hcounted⟩ := ownClose_of_withdrawn (s := s) (u := { u with interval := withHeld q u.interval }) (t := holdClose q u)
    h.line ((withHeld_keeps q u.interval).2.trans h.withdrawn) hkept (by
      rw [holdClose_interval, withdrawOwnClose_unit]
      simp only [(withHeld_keeps q u.interval).2]
      rfl)
  refine ⟨hleaves, hcounted, ?_, ?_, ?_, ?_⟩
  · rw [holdClose_interval, h.alike.image]
  · rw [holdClose_eq, countBoundary_rx]
    simp only [loadTimer_keeps, withdrawOwnClose_keeps]
  · simp only [holdClose_keeps, h.check]
  · rw [holdClose_interval]
    exact (withHeld_keeps q u.interval).1.trans h.membership

end

/-! ## The foreign close (R109) -/

section
variable {s : State} {j : Nat} {band : Band} {source : Nat}

/-- A CLOSE of the open interval or above it, not the node's own. -/
theorem foreignClose_upward (hmax : j < 4294967295) (hown : ∀ f ∈ s.line.queue, ∀ own, f.body ≠ .close j own)
    (hup : s.interval.openNumber ≤ j) : foreignClose j band source s =
      if s.takesNow then
        frameClose ⟨j, .foreign, some source, .frame band⟩ (if j = s.interval.openNumber then consultDrift source j s else s)
      else holdClose ⟨j, .foreign, some source, .frame band⟩ s := by
  rw [foreignClose, if_neg (by exact hmax.ne), if_neg (by simp [ownCloseOf_eq_false hown])]
  by_cases hopen : j = s.interval.openNumber
  · rw [if_pos hopen, if_pos hopen, ← hopen]
  · rw [if_neg hopen, if_pos (by omega), if_neg hopen]

theorem drift_ready (s : State) (source j : Nat) :
    Ready s (if j = s.interval.openNumber then consultDrift source j s else s) := by
  split
  · exact consultDrift_ready source j s
  · exact ⟨.refl s, rfl, rfl, rfl, rfl, rfl⟩

end

/-- Settles O38: the close taken, or held, or merged, and what becomes of the own CLOSE. -/
theorem foreignCloseClosesOrIsHeld : Obligations.ForeignCloseClosesOrIsHeld := by
  intro e j band s hf hs he hb hup hmax hown
  let q : HeldClose := ⟨j, .foreign, some e.frame.source, .frame band⟩
  let u : State := { s with rx := s.rx.without e }
  let v : State := if j = u.interval.openNumber then consultDrift e.frame.source j u else u
  have hu : Ready s u := taken_ready s _
  have hv : Ready s v := hu.trans (drift_ready u e.frame.source j)
  have hvrx : v.rx = s.rx.without e := by
    simp only [v]
    split
    · exact (consultDrift_keeps ..).2.2.2.2.2.2.2.2.2.1
    · rfl
  have hexec := exec_takeClose hf he hb
  rw [foreignClose_upward (s := u) hmax hown hup] at hexec
  by_cases htakes : u.takesNow = true
  · obtain ⟨⟨hroom, hdrain⟩, hheld⟩ := takesNow_iff.mp htakes
    have hroom : s.ring.records.length < 4 := hroom
    have hdrain : s.interval.drain = false := hdrain
    have hheld : s.interval.held = none := hheld
    rw [if_pos htakes] at hexec
    obtain ⟨older, r, hcan⟩ := canClose hs (hasRing_of_following hf) hroom hup
    obtain ⟨hleaves, hcounted, htimer, hentries, hcheck, hmembership⟩ := frameClose_leaves (q := q) hv
    refine ⟨frameClose q v, hexec, hleaves, hcounted, htimer, hentries.trans (congrArg RxPool.entries hvrx), hcheck, hmembership,
      fun _ _ _ => ⟨fun hopen => frameClose_closesTo hv hcan hopen.symm, fun hjump => ?_⟩, fun _ hbusy => ?_, fun h hsome => ?_⟩
    · obtain ⟨hclose, hjumps⟩ := frameClose_jumpsTo hv hcan (q := q) hjump
      exact ⟨hclose, hjumps, frameClose_notice hv (live_configured (live_of_following hf)) hjump⟩
    · obtain hbusy | hbusy := hbusy
      · simp [hdrain] at hbusy
      · omega
    · simp [hheld] at hsome
  · rw [if_neg htakes] at hexec
    obtain ⟨hleaves, hcounted, htimer, hentries, hcheck, hmembership⟩ := holdClose_leaves (q := q) hu
    refine ⟨holdClose q u, hexec, hleaves, hcounted, htimer, hentries, hcheck, hmembership, fun hheld hdrain hroom => ?_,
      fun hheld _ => ⟨?_, ?_, by simp [u]⟩, fun h hheld => ⟨?_, ?_, by simp [u]⟩⟩
    · exact absurd (takesNow_iff.mpr ⟨⟨hroom, hdrain⟩, hheld⟩) htakes
    · simp only [holdClose_interval, withHeld, u, hheld, q]
    · simp only [holdClose_interval, withHeld, u, hheld]
    · simp only [holdClose_interval, withHeld, u, hheld, q]
      rfl
    · simp only [holdClose_interval, withHeld, u, hheld]

end Sys2Proof.IntervalUnit

namespace Sys2Proof.IntervalUnit

open Sys2Proof Sys2Proof.Machine Sys2Proof.Notices Sys2Proof.ShareLine Sys2Proof.Reception Sys2Proof.RingUnit Sys2Proof.EngineUnit
open Sys2Proof.RingOrder Sys2Proof.Effects Sys2Proof.Cuts

/-! ## A close that raises no notice of its own -/

theorem age_frames (a k : Nat) (previous : Option Record) (e : Peer) : (e.age a k previous).frames = e.frames := by
  unfold Peer.age Peer.ageReader Peer.ageNode
  repeat' split
  all_goals rfl

section
variable {s : State} {c : Nat} {cause : CloseCause} {station : Option Nat} {source : BandSource}

theorem agedAt_frames {e : Peer} (he : e ∈ (agedAt c cause station source s).roster.entries) :
    ∃ x ∈ s.roster.entries, e.frames = x.frames := by
  simp only [agedAt, ageRoster, State.onRoster, openedNext_keeps] at he
  obtain ⟨x, hx, rfl⟩ := List.mem_map.mp (List.mem_filter.mp he).1
  exact ⟨x, hx, age_frames ..⟩

/-- With no entry above its rate the boundary raises nothing. -/
theorem takeCloseOf_cond (h : ∀ e ∈ s.roster.entries, e.frames ≤ s.image.rateLimit) :
    (takeCloseOf c cause station source s).cond = s.cond := by
  have hquiet : ∀ e ∈ (agedAt c cause station source s).roster.entries,
      e.frames ≤ (agedAt c cause station source s).image.rateLimit := fun e he => by
    obtain ⟨x, hx, hframes⟩ := agedAt_frames he
    simp only [agedAt_keeps]
    rw [hframes]
    exact h x hx
  rw [takeCloseOf_eq, countBoundary_of_quiet hquiet]
  simp only [setPoolMode_keeps, onIntervalCounters_keeps, announceAtClose_keeps, atBoundary, agedAt_keeps]

end

/-- Settles O39: the run and the mark of the drift monitor, and its notice at the third deviation. -/
theorem foreignCloseConsultsTheDriftMonitor : Obligations.ForeignCloseConsultsTheDriftMonitor := by
  intro e k ms band s hf hs he hb hk hmax hq hheld hdrain hroom htimer
  let q : HeldClose := ⟨k, .foreign, some e.frame.source, .frame band⟩
  let u : State := { s with rx := s.rx.without e }
  let v : State := consultDrift e.frame.source k u
  have hv : Ready u v := consultDrift_ready e.frame.source k u
  have hexec : exec .takeClose s = .next (frameClose q v) := by
    have htakes : u.takesNow = true := takesNow_iff.mpr ⟨⟨hroom, hdrain⟩, hheld⟩
    rw [exec_takeClose hf he hb, foreignClose_upward (s := u) hmax (no_close_of_kind hq k) hk.le, if_pos htakes,
      if_pos (show k = u.interval.openNumber from hk.symm)]
  have hv_eq : v = if s.image.lengthMs * 2 < ms * 100 then deviate e.frame.source k u else clearDrift u := by
    simp only [v, consultDrift, show u.interval.timer = .running ms from htimer]
    rfl
  refine ⟨frameClose q v, hexec, fun hsmall => ?_, fun hlarge => ?_, fun hlarge hrun hmark hquiet => ?_⟩
  · have hclear : v = clearDrift u := hv_eq.trans (if_neg (by omega))
    rw [frameClose_interval, hclear]
    exact ⟨rfl, rfl, rfl⟩
  · have hdeviate : v = deviate e.frame.source k u := hv_eq.trans (if_pos hlarge)
    rw [frameClose_interval, hdeviate, deviate_interval]
    exact ⟨rfl, rfl, rfl⟩
  · have hdeviate : v = raiseNoticeAt .clockDeviation e.frame.source (deviationInterval k) { u with interval := deviated u.interval } := by
      rw [hv_eq, if_pos hlarge, deviate_eq, if_pos ⟨by exact hrun.ge, by exact hmark⟩]
    have hcond : (frameClose q v).cond = v.cond := by
      have hopen : v.interval.openNumber = k := hv.alike.openNumber.trans hk
      have hnone : withdrawOwnClose v = v := withdrawOwnClose_of_none (by rw [hv.line]; exact hq)
      have hcalm : ∀ x ∈ v.roster.entries, x.frames ≤ v.image.rateLimit := by
        rw [hv.alike.entries, hv.alike.image]
        exact hquiet
      rw [frameClose, hnone, takeRequest_open (q := q) hopen.symm]
      simp only [loadTimer_keeps, takeCloseOf_cond hcalm]
    obtain ⟨n, hnotices⟩ := raiseNoticeAt_notices (s := { u with interval := deviated u.interval })
      (live_configured (live_of_following hf)) .clockDeviation e.frame.source (deviationInterval k)
    refine ⟨n, deviationInterval k, ?_, ?_⟩
    · unfold deviationInterval
      split
      · exact .inl rfl
      · exact .inr rfl
    · rw [hcond, hdeviate, hnotices, List.getLast?_append, List.getLast?_singleton]
      rfl

end Sys2Proof.IntervalUnit

namespace Sys2Proof.Cuts

open Sys2Proof Sys2Proof.Machine Sys2Proof.Notices Sys2Proof.Reception Sys2Proof.Requests Sys2Proof.EngineUnit Sys2Proof.IntervalUnit
open Sys2Proof.RingOrder

/-! ## The cuts counted (R62, R65) -/

/-- A cut is pending for an account that is DAMAGED, or for one that is not. -/
def cutPending (damaged : Bool) (a : Account) : Bool := a.pendingCut.isSome && a.damaged == damaged

section
variable {c : Nat}

/-- One account's cut is counted as a cut or as a repair. -/
theorem applyPending_counted (s : State) (i : AccountId) :
    (applyPending c s i).table.counters.cutsApplied =
        bumpBy (if cutPending false (s.table.accounts.get i) then 1 else 0) s.table.counters.cutsApplied
      ∧ (applyPending c s i).table.counters.repairCuts =
        bumpBy (if cutPending true (s.table.accounts.get i) then 1 else 0) s.table.counters.repairCuts := by
  cases hp : (s.table.accounts.get i).pendingCut with
  | none =>
    rw [applyPending_none hp]
    simp [cutPending, hp]
  | some status =>
    cases hd : (s.table.accounts.get i).damaged with
    | true =>
      have huncut := requestWrite_uncut (.account i ((repairDone c i status s).accountRecord i)) false (repairDone c i status s)
      rw [applyPending_repair hp hd, applyRepair_eq, huncut.cutsApplied, huncut.repairCuts]
      simp [cutPending, hp, hd, repairDone]
    | false =>
      have hdone := (cutDone_keeps c i status s).2.2
      rw [applyPending_cut hp hd, applyCut_eq, (requestWrite_uncut _ _ _).cutsApplied, (requestWrite_uncut _ _ _).cutsApplied,
        (requestWrite_uncut _ _ _).repairCuts, (requestWrite_uncut _ _ _).repairCuts, hdone]
      simp [cutPending, hp, hd]

theorem foldl_applyPending_counted {l : List AccountId} (hl : l.Nodup) (s : State) :
    (l.foldl (applyPending c) s).table.counters.cutsApplied =
        bumpBy (l.countP (fun i => cutPending false (s.table.accounts.get i))) s.table.counters.cutsApplied
      ∧ (l.foldl (applyPending c) s).table.counters.repairCuts =
        bumpBy (l.countP (fun i => cutPending true (s.table.accounts.get i))) s.table.counters.repairCuts := by
  induction l generalizing s with
  | nil => exact ⟨rfl, rfl⟩
  | cons x l ih =>
    obtain ⟨hx, hrest⟩ := List.nodup_cons.mp hl
    have hsame : ∀ damaged, l.countP (fun i => cutPending damaged ((applyPending c s x).table.accounts.get i)) =
        l.countP (fun i => cutPending damaged (s.table.accounts.get i)) := by
      intro damaged
      refine List.countP_congr fun i hi => ?_
      rw [(applyPending_untouched (i := x) (h := i) fun he => hx (he.symm ▸ hi)).account]
    obtain ⟨hcuts, hrepairs⟩ := applyPending_counted (c := c) s x
    rw [List.foldl_cons, (ih hrest _).1, (ih hrest _).2, hsame, hsame, hcuts, hrepairs]
    exact ⟨bumpBy_countP .., bumpBy_countP ..⟩

theorem applyCuts_counted (c : Nat) (s : State) :
    (applyCuts c s).table.counters.cutsApplied =
        bumpBy (allAccounts.countP (fun i => cutPending false (s.table.accounts.get i))) s.table.counters.cutsApplied
      ∧ (applyCuts c s).table.counters.repairCuts =
        bumpBy (allAccounts.countP (fun i => cutPending true (s.table.accounts.get i))) s.table.counters.repairCuts := by
  have hnodup : allAccounts.Nodup := by decide
  rw [applyCuts]
  exact foldl_applyPending_counted hnodup s

theorem closedUp_counted (cause : CloseCause) (station : Option Nat) (s : State) :
    (closedUp c cause station s).table.counters.cutsApplied =
        bumpBy (allAccounts.countP (fun i => cutPending false (s.table.accounts.get i))) s.table.counters.cutsApplied
      ∧ (closedUp c cause station s).table.counters.repairCuts =
        bumpBy (allAccounts.countP (fun i => cutPending true (s.table.accounts.get i))) s.table.counters.repairCuts := by
  obtain ⟨huntouched, huncut⟩ := beforeCuts_leavesTable (s := s) (c := c) cause station
  obtain ⟨hcuts, hrepairs⟩ := applyCuts_counted c (closeRecord c cause station (renumberOpen c s))
  rw [closedUp, hcuts, hrepairs, huncut.cutsApplied, huncut.repairCuts]
  simp only [fun i => (huntouched i).account, and_self]

/-! ## The cut of one account at a close -/

theorem closedUp_split (cause : CloseCause) (station : Option Nat) (i : AccountId) (s : State) :
    ∃ u, Untouched i s u ∧ Untouched i (applyPending c u i) (closedUp c cause station s) := by
  obtain ⟨u, hu, hdone⟩ := applyCuts_split c i (closeRecord c cause station (renumberOpen c s))
  exact ⟨u, ((beforeCuts_leavesTable cause station).1 i).trans hu, hdone⟩

variable {s : State} {i : AccountId} {status : AccountStatus}

theorem closedUp_cut (cause : CloseCause) (station : Option Nat) (hp : (s.table.accounts.get i).pendingCut = some status)
    (hd : (s.table.accounts.get i).damaged = false) :
    let t := closedUp c cause station s
    let a := s.table.accounts.get i
    t.table.slots.get i = some (s.cutStatement i status c) ∧ t.table.accounts.get i = a.afterCut status
      ∧ writesOf i t.store.queue = [.statement i (some (s.cutStatement i status c)),
        .account i ⟨(s.image.accounts.get i).unit, a.tenancy + 1, status, ⟨a.settled.last, Figures.zero⟩⟩] := by
  obtain ⟨u, hu, hdone⟩ := closedUp_split (c := c) cause station i s
  have hstatement : u.cutStatement i status c = s.cutStatement i status c := by
    simp only [State.cutStatement, hu.account, hu.image, hu.step]
  have hself := applyCut_self (c := c) (i := i) (s := u) status
  rw [applyPending_cut (by rw [hu.account]; exact hp) (by rw [hu.account]; exact hd)] at hdone
  simp only [hstatement, hu.account, hu.image, ← hdone.slot, ← hdone.account, ← hdone.writes] at hself
  exact hself

theorem closedUp_repair (cause : CloseCause) (station : Option Nat) (hp : (s.table.accounts.get i).pendingCut = some status)
    (hd : (s.table.accounts.get i).damaged = true) :
    let t := closedUp c cause station s
    let a := s.table.accounts.get i
    t.table.slots.get i = s.table.slots.get i ∧ t.table.accounts.get i = a.afterRepair status c
      ∧ (writesOf i t.store.queue).filter (fun w => w.recordNumber == i.val) =
        [.account i ⟨(s.image.accounts.get i).unit, a.tenancy + 1, status, ⟨c, Figures.zero⟩⟩] := by
  obtain ⟨u, hu, hdone⟩ := closedUp_split (c := c) cause station i s
  have hself := applyRepair_self (c := c) (i := i) (s := u) status
  rw [applyPending_repair (by rw [hu.account]; exact hp) (by rw [hu.account]; exact hd)] at hdone
  simp only [hu.account, hu.image, hu.slot, ← hdone.slot, ← hdone.account, ← hdone.writes] at hself
  exact hself

/-- The figures of a cut: those of the step under way, else the account's. -/
theorem stepUnderWay_getD (s : State) (i : AccountId) (z : Settled) : (s.stepUnderWay i).getD z =
    match s.engine.flight with
    | some (.settle j) => (match j.waiting with
      | some (.step h false x) => if h = i ∧ j.absorbed = false then x else z
      | _ => z)
    | _ => z := by
  unfold State.stepUnderWay
  cases s.engine.flight with
  | none => rfl
  | some f =>
    cases f with
    | settle j =>
      dsimp only
      cases j.waiting with
      | none => rfl
      | some w =>
        cases w with
        | step h closing x =>
          cases closing with
          | true => rfl
          | false =>
            by_cases hown : h = i ∧ j.absorbed = false
            · simp [hown]
            · have hnot : (decide (h = i) && !j.absorbed) = false := by simpa using hown
              simp [hown, hnot]
        | _ => rfl
    | _ => rfl

end

/-! ## CUT (R60) -/

section
variable {s : State} {e : RxEntry} {p : List Byte} {sel status : Nat} {i : AccountId}

theorem exec_cut (h : s.asked e p) (hr : s.fromReader e) (hp : parseRequest p = .cut sel status)
    (hi : accountOf s.image sel = some i) (hle : status ≤ 1) :
    (s.cutStatus i ≠ .accepted → exec .cut s = .next (s.serving e p (s.cutStatus i) (s.table.accounts.get i).tenancy []))
      ∧ (s.cutStatus i = .accepted → exec .cut s = .next { s.serving e p .accepted (s.table.accounts.get i).tenancy [] with
        table := { s.table with
          accounts := s.table.accounts.set i
            { s.table.accounts.get i with pendingCut := some (if status = 1 then .vacant else .occupied) } } }) := by
  have hexec : exec .cut s = .next (serve e.frame.source p (handleCut sel status (s.taken e))) := exec_of_reader h hr hp
  have himage : (s.taken e).image = s.image := rfl
  have hstatus : (s.taken e).cutStatus i = s.cutStatus i := rfl
  rw [hexec, handleCut]
  simp only [himage, hi, if_neg (Nat.not_lt.mpr hle), hstatus]
  refine ⟨fun hne => ?_, fun he => ?_⟩
  · rw [if_neg (by simpa using hne)]
    rfl
  · rw [if_pos (by simpa using he), he]
    rfl

theorem exec_cut_noSuch (h : s.asked e p) (hr : s.fromReader e) (hp : parseRequest p = .cut sel status)
    (hno : accountOf s.image sel = none ∨ 1 < status) : exec .cut s = .next (s.serving e p .noSuch 0 []) := by
  have hexec : exec .cut s = .next (serve e.frame.source p (handleCut sel status (s.taken e))) := exec_of_reader h hr hp
  have himage : (s.taken e).image = s.image := rfl
  rw [hexec, handleCut]
  simp only [himage]
  cases hi : accountOf s.image sel with
  | none => rfl
  | some i =>
    have hlt : 1 < status := hno.resolve_left (by simp [hi])
    simp only [if_pos hlt]
    rfl

/-- The first line of R60's table that applies. -/
theorem cutStatus_cases (hpow : s.powered = true) (i : AccountId) :
    let a := s.table.accounts.get i
    let inRing := s.interval.membership = .member ∨ s.interval.membership = .observer
    (¬ inRing → s.cutStatus i = .state)
      ∧ (inRing → s.image.cutEnable = false → s.cutStatus i = .notPermitted)
      ∧ (inRing → s.image.cutEnable = true → a.pendingCut ≠ none → s.cutStatus i = .pending)
      ∧ (inRing → s.image.cutEnable = true → a.pendingCut = none → s.table.slots.get i ≠ none → s.cutStatus i = .held)
      ∧ (inRing → s.image.cutEnable = true → a.pendingCut = none → s.table.slots.get i = none → a.tenancy = 65535 →
          s.cutStatus i = .limit)
      ∧ (inRing → s.image.cutEnable = true → a.pendingCut = none → s.table.slots.get i = none → a.tenancy ≠ 65535 →
          s.cutStatus i = .accepted) := by
  intro a inRing
  have hfollowing : inRing → s.following = true := fun hm => by simpa [State.following, hpow, inRing] using hm
  refine ⟨fun hm => ?_, fun hm he => ?_, fun hm he hp => ?_, fun hm he hp hslot => ?_, fun hm he hp hslot ht => ?_,
    fun hm he hp hslot ht => ?_⟩
  · have hno : s.following = false := by simpa [State.following, hpow, inRing] using hm
    simp [State.cutStatus, hno]
  · simp [State.cutStatus, hfollowing hm, he]
  · simp [State.cutStatus, hfollowing hm, he, Option.isSome_iff_ne_none.mpr (show (s.table.accounts.get i).pendingCut ≠ none from hp)]
  · simp [State.cutStatus, hfollowing hm, he, show (s.table.accounts.get i).pendingCut = none from hp,
      Option.isSome_iff_ne_none.mpr hslot]
  · simp [State.cutStatus, hfollowing hm, he, show (s.table.accounts.get i).pendingCut = none from hp, hslot,
      show (s.table.accounts.get i).tenancy = 65535 from ht]
  · simp [State.cutStatus, hfollowing hm, he, show (s.table.accounts.get i).pendingCut = none from hp, hslot,
      show ¬ (s.table.accounts.get i).tenancy = 65535 from ht]

end

/-- The table and the store after the node's own close are those of its close up to the cuts. -/
theorem ownExpiry_closedUp {s : State} (hmax : s.interval.openNumber ≠ 4294967295) (htakes : s.takesNow = true)
    (hq : ∀ f ∈ s.line.queue, f.body.kind ≠ 1) :
    (ownExpiry s).table = (closedUp s.interval.openNumber .own none (clearDrift s)).table
      ∧ (ownExpiry s).store = (closedUp s.interval.openNumber .own none (clearDrift s)).store := by
  obtain ⟨-, -, -, htable, hstore, -, -⟩ := ownExpiry_after hmax htakes hq
  obtain ⟨-, -, htaken, hkept⟩ := takeCloseOf_openNext s.interval.openNumber .own none .schedule (clearDrift s)
  rw [htable, hstore, ownTaken_eq]
  exact ⟨htaken, hkept⟩

theorem ownExpiry_counted {s : State} (hmax : s.interval.openNumber ≠ 4294967295) (htakes : s.takesNow = true)
    (hq : ∀ f ∈ s.line.queue, f.body.kind ≠ 1) :
    (ownExpiry s).table.counters.cutsApplied =
        bumpBy (allAccounts.countP (fun i => cutPending false (s.table.accounts.get i))) s.table.counters.cutsApplied
      ∧ (ownExpiry s).table.counters.repairCuts =
        bumpBy (allAccounts.countP (fun i => cutPending true (s.table.accounts.get i))) s.table.counters.repairCuts := by
  obtain ⟨htable, -⟩ := ownExpiry_closedUp hmax htakes hq
  have hcounted := closedUp_counted (c := s.interval.openNumber) .own none (clearDrift s)
  generalize closedUp s.interval.openNumber .own none (clearDrift s) = u at htable hcounted
  rw [htable]
  exact hcounted

/-- Settles O50: the status by the table, and the pending cuts at the own close. -/
theorem cutIsAnsweredByTheTable : Obligations.CutIsAnsweredByTheTable := by
  refine ⟨fun e p sel status s h hr hp => ⟨exec_cut_noSuch h hr hp, fun i hi hle => ?_⟩,
    fun ms s hf hs ht hmax hheld hdrain hroom hq => ?_⟩
  · intro a refused inRing
    obtain ⟨hrefused, haccepted⟩ := exec_cut h hr hp hi hle
    have hgiven : ∀ st : Status, st ≠ .accepted → s.cutStatus i = st → refused st := by
      rintro st hne rfl
      exact hrefused hne
    obtain ⟨hstate, hpermitted, hpending, hheld, hlimit, haccept⟩ := cutStatus_cases (live_powered h.1) i
    exact ⟨fun hm => hgiven _ (by decide) (hstate hm), fun hm he => hgiven _ (by decide) (hpermitted hm he),
      fun hm he hc => hgiven _ (by decide) (hpending hm he hc),
      fun hm he hc hslot => hgiven _ (by decide) (hheld hm he hc hslot),
      fun hm he hc hslot hten => hgiven _ (by decide) (hlimit hm he hc hslot hten),
      fun hm he hc hslot hten => haccepted (haccept hm he hc hslot hten)⟩
  · intro k pending
    have htakes : s.takesNow = true := takesNow_iff.mpr ⟨⟨hroom, hdrain⟩, hheld⟩
    obtain ⟨htable, hstore⟩ := ownExpiry_closedUp hmax htakes hq
    obtain ⟨hcuts, hrepairs⟩ := ownExpiry_counted hmax htakes hq
    refine ⟨ownExpiry s, exec_ownExpiry hf ht, hcuts, hrepairs, fun i status hpend => ?_⟩
    have hcut := closedUp_cut (s := clearDrift s) (c := s.interval.openNumber) .own none hpend
    have hrepair := closedUp_repair (s := clearDrift s) (c := s.interval.openNumber) .own none hpend
    generalize closedUp s.interval.openNumber .own none (clearDrift s) = u at htable hstore hcut hrepair
    rw [htable, hstore]
    refine ⟨fun hd => ?_, fun hd => hrepair hd⟩
    intro figures st
    have hfigures : (s.stepUnderWay i).getD (s.table.accounts.get i).settled = figures := stepUnderWay_getD ..
    have hst : (clearDrift s).cutStatement i status s.interval.openNumber = st := by
      simp only [st, ← hfigures]
      rfl
    obtain ⟨hslot, haccount, hwrites⟩ := hcut hd
    rw [hst] at hslot hwrites
    refine ⟨hslot, haccount.trans ?_, hwrites⟩
    have hd' : (s.table.accounts.get i).damaged = false := hd
    show Account.afterCut status (s.table.accounts.get i) = _
    rw [Account.afterCut, hd']

end Sys2Proof.Cuts

namespace Sys2Proof.IntervalUnit

open Sys2Proof Sys2Proof.Machine Sys2Proof.Notices Sys2Proof.ShareLine Sys2Proof.Reception Sys2Proof.RingUnit Sys2Proof.EngineUnit
open Sys2Proof.RingOrder Sys2Proof.Effects Sys2Proof.Cuts

/-! ## What a close leaves of the ring but its records, and of the fault record -/

/-- The history, the view and the counters of the ring stay, and so does the fault record. -/
structure RecordsOnly (s t : State) : Prop where
  ring : t.ring = { s.ring with records := t.ring.records }
  fault : t.cond.record = s.cond.record

theorem RecordsOnly.refl (s : State) : RecordsOnly s s := ⟨rfl, rfl⟩

theorem RecordsOnly.trans {s t u : State} (h : RecordsOnly s t) (k : RecordsOnly t u) : RecordsOnly s u :=
  ⟨by rw [k.ring, h.ring], k.fault.trans h.fault⟩

theorem RecordsOnly.of_blocks {s t : State} (hring : t.ring = s.ring) (hcond : t.cond = s.cond) : RecordsOnly s t :=
  ⟨by rw [hring], by rw [hcond]⟩

theorem updateRecord_recordsOnly (k : Nat) (f : Record → Record) (s : State) : RecordsOnly s (updateRecord k f s) := ⟨rfl, rfl⟩

theorem checkGather_recordsOnly (k : Nat) (s : State) : RecordsOnly s (checkGather k s) := by
  unfold checkGather
  split
  · split
    · exact ⟨rfl, rfl⟩
    · exact .refl s
  · exact .refl s

theorem renumberOpen_recordsOnly (c : Nat) (s : State) : RecordsOnly s (renumberOpen c s) := by
  unfold renumberOpen
  split
  · exact ⟨rfl, rfl⟩
  · exact .refl s

theorem closeRecord_recordsOnly (c : Nat) (cause : CloseCause) (station : Option Nat) (s : State) :
    RecordsOnly s (closeRecord c cause station s) := by
  unfold closeRecord
  split
  · exact .refl s
  · next r _ =>
    have hchannels : RecordsOnly s (closeChannels r.band s) := .of_blocks (by simp) (by simp)
    exact hchannels.trans ((updateRecord_recordsOnly c _ _).trans (checkGather_recordsOnly c _))

theorem goToSettling_recordsOnly (k : Nat) (s : State) : RecordsOnly s (goToSettling k s) := ⟨rfl, rfl⟩

theorem advanceRing_recordsOnly (s : State) : RecordsOnly s (advanceRing s) := by
  unfold advanceRing
  split
  · next r _ _ _ =>
    refine RecordsOnly.trans (t := if r.state == .gathering then appendJob .compute r.number s else s) ?_
      (goToSettling_recordsOnly _ _)
    split <;> exact ⟨rfl, rfl⟩
  · exact .refl s

theorem openNext_recordsOnly (n : Nat) (band : Band) (s : State) : RecordsOnly s (openNext n band s) := by
  refine RecordsOnly.trans (t := (openRecord n band false s).onInterval (fun u => { u with openNumber := n })) ⟨rfl, rfl⟩ ?_
  exact advanceRing_recordsOnly _

theorem closedUp_recordsOnly (c : Nat) (cause : CloseCause) (station : Option Nat) (s : State) :
    RecordsOnly s (closedUp c cause station s) := by
  refine (renumberOpen_recordsOnly c s).trans ((closeRecord_recordsOnly c cause station _).trans ?_)
  exact .of_blocks (by simp [closedUp]) (by simp [closedUp])

/-! ### The fault record behind a notice -/

theorem raiseNoticeAt_fault (cause : Cause) (p k : Nat) (s : State) :
    (raiseNoticeAt cause p k s).cond.record = s.cond.record := by
  have hdisplace : (displaceNotice s).cond.record = s.cond.record := by
    unfold displaceNotice releaseLatch
    (repeat' split) <;> rfl
  unfold raiseNoticeAt
  split
  · rfl
  · exact hdisplace

theorem raiseAll_fault (l : List (Cause × Nat)) (s : State) : (raiseAll l s).cond.record = s.cond.record := by
  induction l generalizing s with
  | nil => rfl
  | cons x l ih => exact (ih (raiseNotice x.1 x.2 s)).trans (raiseNotice_record ..)

theorem raiseNoticeAt_recordsOnly (cause : Cause) (p k : Nat) (s : State) : RecordsOnly s (raiseNoticeAt cause p k s) :=
  ⟨by simp, raiseNoticeAt_fault ..⟩

theorem countBoundary_recordsOnly (s : State) : RecordsOnly s (countBoundary s) :=
  ⟨by simp, by rw [countBoundary_eq, raiseAll_fault]; rfl⟩

/-! ### A close, and a close held -/

theorem takeCloseOf_recordsOnly (c : Nat) (cause : CloseCause) (station : Option Nat) (source : BandSource) (s : State) :
    RecordsOnly s (takeCloseOf c cause station source s) := by
  have hopened : RecordsOnly s (openedNext c cause station source s) :=
    (closedUp_recordsOnly c cause station s).trans (openNext_recordsOnly _ _ _)
  have haged : RecordsOnly s (agedAt c cause station source s) :=
    hopened.trans (.of_blocks (by simp only [agedAt_keeps]) (by simp only [agedAt_keeps, openedNext_keeps]))
  refine haged.trans ((countBoundary_recordsOnly _).trans (.of_blocks ?_ ?_))
  · simp only [takeCloseOf_eq, setPoolMode_keeps, onIntervalCounters_keeps, announceAtClose_keeps]
  · simp only [takeCloseOf_eq, setPoolMode_keeps, onIntervalCounters_keeps, announceAtClose_keeps]

theorem reportJump_recordsOnly (k j : Nat) (s : State) : RecordsOnly s (reportJump k j s) :=
  RecordsOnly.trans (t := onIntervalCounters (fun c => { c with jumps := bump c.jumps }) s) ⟨rfl, rfl⟩
    (raiseNoticeAt_recordsOnly ..)

theorem loadTimer_recordsOnly (s : State) : RecordsOnly s (loadTimer s) := ⟨rfl, rfl⟩

theorem takeRequest_recordsOnly (q : HeldClose) (s : State) : RecordsOnly s (takeRequest q s) := by
  by_cases h : s.interval.openNumber < q.interval
  · rw [takeRequest_above h]
    exact (takeCloseOf_recordsOnly ..).trans (reportJump_recordsOnly ..)
  · rw [takeRequest, if_neg h]
    exact takeCloseOf_recordsOnly ..

theorem withdrawOwnClose_recordsOnly (s : State) : RecordsOnly s (withdrawOwnClose s) := .of_blocks (by simp) (by simp)

theorem frameClose_recordsOnly (q : HeldClose) (s : State) : RecordsOnly s (frameClose q s) :=
  (withdrawOwnClose_recordsOnly s).trans ((takeRequest_recordsOnly q _).trans (loadTimer_recordsOnly _))

theorem holdClose_recordsOnly (q : HeldClose) (s : State) : RecordsOnly s (holdClose q s) := by
  rw [holdClose_eq]
  have hwithdrawn : RecordsOnly s (withdrawOwnClose { s with interval := withHeld q s.interval }) :=
    RecordsOnly.trans (t := { s with interval := withHeld q s.interval }) ⟨rfl, rfl⟩ (withdrawOwnClose_recordsOnly _)
  exact hwithdrawn.trans ((loadTimer_recordsOnly _).trans (countBoundary_recordsOnly _))

end Sys2Proof.IntervalUnit

namespace Sys2Proof.IntervalUnit

open Sys2Proof Sys2Proof.Machine Sys2Proof.Notices Sys2Proof.ShareLine Sys2Proof.Reception Sys2Proof.RingUnit Sys2Proof.EngineUnit
open Sys2Proof.RingOrder Sys2Proof.Effects Sys2Proof.Cuts

/-! ## The record of the closed interval, and who is listed in it -/

theorem has_of_numbers {s : State} {x : Record} (hx : x ∈ s.ring.records) (h : (s.ring.records.map (·.number)).Nodup) :
    ∃ before after, Has s before x after x.number := by
  obtain ⟨before, after, hrec⟩ := List.append_of_mem hx
  refine ⟨before, after, hrec, rfl, fun y hy hsame => ?_⟩
  rw [hrec, List.map_append, List.map_cons, List.nodup_middle, List.nodup_cons, ← List.map_append] at h
  exact h.1 (hsame ▸ List.mem_map_of_mem hy)

/-- The station has no entry in the record for this pool. -/
def Absent (station : Nat) (p : PoolId) (r : Record) : Prop := ∀ y ∈ (r.pools.get p).contributors, y.station ≠ station

theorem mem_insertEntry {e y : Entry} {l : List Entry} : y ∈ insertEntry e l ↔ y = e ∨ y ∈ l := by
  induction l with
  | nil => simp [insertEntry]
  | cons x rest ih =>
    unfold insertEntry
    split
    · simp
    · simp only [List.mem_cons, ih]
      tauto

theorem Absent.entry {station : Nat} {p : PoolId} {r : Record} (h : Absent station p r) : (r.pools.get p).entry station = none := by
  rw [PoolPart.entry, List.find?_eq_none]
  exact fun y hy => by simpa using h y hy

section
variable {s : State} {c station : Nat} {p : PoolId} {r : Record}

theorem renumbered_absent (h : s.interval.openNumber < c ∨ Absent station p r) : Absent station p (renumbered s c r) := by
  unfold renumbered
  split
  · simp [Absent, Record.renumber, PoolPart.refresh]
  · next hle => exact h.resolve_left hle

/-- A close adds the node's own entries and no others. -/
theorem closedOf_absent (hown : station ≠ s.image.station) (h : s.interval.openNumber < c ∨ Absent station p r) (cause : CloseCause)
    (from' : Option Nat) : Absent station p (closedOf s c cause from' r) := by
  have hbefore := renumbered_absent h
  rw [Absent, closedOf, closedAs_pools]
  simp only [State.closedRecord, Four.get_ofFn]
  split
  · intro y hy
    simp only [PoolPart.close, PoolPart.evaluate, PoolPart.refresh, mem_insertEntry, List.mem_map] at hy
    obtain rfl | ⟨x, hx, rfl⟩ := hy
    · exact Ne.symm hown
    · exact hbefore x hx
  · exact hbefore

end

section
variable {s u : State} {q : HeldClose} {older : List Record} {r : Record}

theorem frameClose_records : ∃ cause, (frameClose q u).ring.records =
    (takeCloseOf q.interval cause q.station q.source (withdrawOwnClose u)).ring.records := by
  unfold frameClose
  by_cases h : (withdrawOwnClose u).interval.openNumber < q.interval
  · refine ⟨.jump, ?_⟩
    rw [takeRequest_above h]
    simp only [loadTimer_keeps, reportJump_keeps]
  · refine ⟨q.cause, ?_⟩
    rw [takeRequest, if_neg h]
    simp only [loadTimer_keeps]

/-- After a close by a frame the ring holds the closed record once, followed by the OPEN one. -/
theorem frameClose_has (h : Ready s u) (hcan : CanClose s q.interval older r) :
    ∃ before x after, Has (frameClose q u) before x after q.interval ∧ after ≠ []
      ∧ (x.state = .gathering ∨ x.state = .provisional)
      ∧ ∀ station p, station ≠ s.image.station → (s.interval.openNumber < q.interval ∨ Absent station p r) → Absent station p x := by
  obtain ⟨cause, hrecords⟩ := frameClose_records (q := q) (u := u)
  have halike : Alike s (withdrawOwnClose u) := h.alike.trans (withdrawOwnClose_alike u)
  have hcan' : CanClose (withdrawOwnClose u) q.interval older r := hcan.alike halike
  obtain ⟨hmem, hnumbers, hlast⟩ := takeCloseOf_numbers cause q.station q.source hcan'
  rw [← hrecords] at hmem hnumbers hlast
  have hnumber := closedOf_number hcan' cause q.station
  have hnodup : ((frameClose q u).ring.records.map (·.number)).Nodup := by
    rw [hnumbers, List.nodup_append]
    refine ⟨hcan.rising.imp (fun hlt => hlt.ne), by simp, fun n hn m hm he => ?_⟩
    obtain ⟨x, hx, rfl⟩ := List.mem_map.mp hn
    have hbelow := hcan.below_c x hx
    simp only [List.mem_cons, List.not_mem_nil, or_false] at hm
    omega
  obtain ⟨before, after, hhas⟩ := has_of_numbers hmem hnodup
  rw [hnumber] at hhas
  refine ⟨before, _, after, hhas, fun hnil => ?_, closedAs_state .., fun station p hown habsent =>
    closedOf_absent (by rw [halike.image]; exact hown) (by rw [halike.openNumber]; exact habsent) cause q.station⟩
  rw [hhas.records, hnil, List.getLast?_append, List.getLast?_singleton] at hlast
  have hopen : (closedOf (withdrawOwnClose u) q.interval cause q.station r).number = q.interval + 1 :=
    congrArg Record.number (Option.some.inj hlast)
  omega

end

end Sys2Proof.IntervalUnit

namespace Sys2Proof.RingUnit

open Sys2Proof Sys2Proof.Machine Sys2Proof.Notices Sys2Proof.ShareLine Sys2Proof.Reception Sys2Proof.CrossChecks Sys2Proof.IntervalUnit

/-! ## What an intake makes of its record (R18 to R21) -/

/-- An intake leaves the record y in place of r, its close as it was, and raises notices at most. -/
structure Joins (w v : State) (before : List Record) (r : Record) (after : List Record) (y : Record) : Prop where
  enters : Enters w v
  records : v.ring.records = before ++ y :: after
  same : SameClose r y
  history : v.ring.history = w.ring.history
  latchOnly : LatchOnly w v

theorem raiseNotice_latchOnly (c : Cause) (p : Nat) (s : State) : LatchOnly s (raiseNotice c p s) :=
  raiseNoticeAt_latchOnly c p s.interval.openNumber s

section
variable {w : State} {source : Nat} {b : SummaryBody} {r : Record} {before after : List Record}

theorem onRingCounters_joins (h : Has w before r after b.interval) (f : RingCounters → RingCounters) :
    Joins w (onRingCounters f w) before r after r :=
  ⟨⟨rfl, rfl⟩, h.records, ⟨rfl, rfl, rfl, rfl, rfl, rfl, rfl, rfl, fun _ => rfl, fun _ => rfl, .inl ⟨rfl, rfl⟩⟩, rfl, .refl w⟩

/-- A pool part that keeps its expected set and own summary keeps the close. -/
theorem SameClose.of_pool {y : Record} {p : PoolId} {x : PoolPart}
    (hy : y = { r with pools := r.pools.set p x, compute := y.compute }) (hexpected : x.expected = (r.pools.get p).expected)
    (hown : x.own = (r.pools.get p).own) : SameClose r y := by
  rw [hy]
  refine ⟨rfl, rfl, rfl, rfl, rfl, rfl, rfl, rfl, fun p' => ?_, fun p' => ?_, .inl ⟨rfl, rfl⟩⟩
  · by_cases hp : p = p'
    · subst hp
      simp [hexpected]
    · simp [Four.get_set, hp]
  · by_cases hp : p = p'
    · subst hp
      simp [hown]
    · simp [Four.get_set, hp]

theorem repeatedSummary_joins (h : Has w before r after b.interval) (e : Entry) :
    ∃ y, Joins w (repeatedSummary source e b w) before r after y := by
  by_cases hsame : e.values = b.values ∧ e.estimated = b.estimated ∧ e.tampered = b.tampered
  · rw [repeatedSummary_same hsame]
    exact ⟨r, onRingCounters_joins h _⟩
  · have henters := repeatedSummary_enters source e b w
    rw [repeatedSummary_other h hsame] at henters ⊢
    have hclose : SameClose r { r with pools := r.pools.set b.pool { r.pools.get b.pool with
        contributors := (r.pools.get b.pool).contributors.map (fun z =>
          if z.station = source then { z with conflict := true } else z) } } :=
      SameClose.of_pool (p := b.pool) rfl rfl rfl
    refine ⟨_, henters, ?_, hclose, ?_, ?_⟩
    · split <;> simp [conflicted]
    · split <;> simp [conflicted]
    · have hmarked : LatchOnly w { w with ring := conflicted before r after source b w.ring } := .refl w
      split
      · exact hmarked
      · exact hmarked.trans (raiseNotice_latchOnly _ _ _)

/-- The record that a new summary leaves: the entry in, its totals with it, the gather over if it is complete. -/
structure Filled (source : Nat) (b : SummaryBody) (r y : Record) : Prop where
  pools : y.pools = (filled r b (insertEntry (newEntry r source b) (r.pools.get b.pool).contributors)).pools
  state : y.state = r.state ∨ r.state = .gathering ∧ y.state = .provisional

theorem filled_sameClose (all : List Entry) : SameClose r (filled r b all) :=
  SameClose.of_pool (p := b.pool) rfl rfl rfl

theorem gathered_sameClose {x y : Record} (h : SameClose x y) : SameClose x (gathered y) :=
  ⟨h.number, h.cause, h.causeStation, h.band, h.partialMark, h.renumbered, h.send, h.accounts, h.expected, h.own, .inr ⟨rfl, rfl⟩⟩

theorem newSummary_joins (h : Has w before r after b.interval) :
    ∃ y, Joins w (newSummary source r b w) before r after y ∧ Filled source b r y
      ∧ (newSummary source r b w).ring.counters = w.ring.counters := by
  have henters := newSummary_enters source r b w
  have hchannels : (newSummary source r b w).channels = w.channels := by simp
  have hlatch : LatchOnly w (newSummary source r b w) := fun ch => ⟨(w.channels.get ch).latch, by rw [hchannels]⟩
  have heq := newSummary_eq h (source := source) rfl
  let all := insertEntry (newEntry r source b) (r.pools.get b.pool).contributors
  let t := withRecords (before ++ filled r b all :: after) w
  have ht : Has t before (filled r b all) after b.interval := ⟨rfl, h.number, h.others⟩
  have hfilled : SameClose r (filled r b all) := filled_sameClose all
  have hstays : ∀ v, newSummary source r b w = v → v.ring = t.ring →
      ∃ y, Joins w (newSummary source r b w) before r after y ∧ Filled source b r y
        ∧ (newSummary source r b w).ring.counters = w.ring.counters := by
    rintro v rfl hring
    exact ⟨filled r b all, ⟨henters, by rw [hring]; rfl, hfilled, by rw [hring]; rfl, hlatch⟩, ⟨rfl, .inl rfl⟩, by rw [hring]; rfl⟩
  by_cases hprov : r.state = .provisional
  · rw [if_pos hprov] at heq
    exact hstays _ heq (by simp [t, all])
  rw [if_neg hprov] at heq
  by_cases hgath : r.state = .gathering
  · by_cases hall : ∀ p, w.image.mask.has p = true → ((filled r b all).pools.get p).complete = true
    · rw [checkGather_complete ht (by exact hgath) (by exact hall)] at heq
      refine ⟨gathered (filled r b all), ⟨henters, by rw [heq]; rfl, gathered_sameClose hfilled, by rw [heq]; rfl, hlatch⟩,
        ⟨rfl, .inr ⟨hgath, rfl⟩⟩, by rw [heq]; rfl⟩
    · exact hstays _ (heq.trans (checkGather_incomplete ht (by exact hall))) rfl
  · exact hstays _ (heq.trans (checkGather_of_state ht (by exact hgath))) rfl

end

end Sys2Proof.RingUnit

namespace Sys2Proof.CrossChecks

open Sys2Proof Sys2Proof.Machine Sys2Proof.Notices Sys2Proof.ShareLine Sys2Proof.Reception Sys2Proof.RingUnit Sys2Proof.IntervalUnit

/-! ## What a fault behind a digest leaves (R179, R188, R189) -/

/-- A record whose own summaries are withdrawn at the entry to OBSERVER, or not. -/
def withdrawnIf (gone : Bool) (r : Record) : Record := if gone then { r with pools := r.pools.map PoolPart.withdrawn } else r

theorem withdrawnIf_sameClose (gone : Bool) (r : Record) : SameClose r (withdrawnIf gone r) := by
  unfold withdrawnIf
  split
  · exact ⟨rfl, rfl, rfl, rfl, rfl, rfl, rfl, rfl, fun p => by simp [PoolPart.withdrawn], fun p => by simp [PoolPart.withdrawn],
      .inl ⟨rfl, rfl⟩⟩
  · exact ⟨rfl, rfl, rfl, rfl, rfl, rfl, rfl, rfl, fun _ => rfl, fun _ => rfl, .inl ⟨rfl, rfl⟩⟩

theorem withdrawnIf_pool (gone : Bool) (r : Record) (p : PoolId) :
    ((withdrawnIf gone r).pools.get p).contributors = (r.pools.get p).contributors
      ∧ ((withdrawnIf gone r).pools.get p).totals = (r.pools.get p).totals
      ∧ ((withdrawnIf gone r).pools.get p).expected = (r.pools.get p).expected ∧ (withdrawnIf gone r).state = r.state := by
  unfold withdrawnIf
  split
  · simp [PoolPart.withdrawn]
  · exact ⟨rfl, rfl, rfl, rfl⟩

theorem withdrawnIf_atOpen (gone : Bool) (n : Nat) (band : Band) (mark : Bool) :
    withdrawnIf gone (Record.atOpen n band mark) = Record.atOpen n band mark := by
  unfold withdrawnIf
  split <;> rfl

theorem map_withdrawnIf_false (l : List Record) : l.map (withdrawnIf false) = l := List.map_id l

/-- A digest handed, and a fault that it brings, leave the blocks that a close is judged by; a node that enters OBSERVER withdraws its
own summaries. -/
structure Handed (v t : State) : Prop where
  pending : t.pending = v.pending
  control : t.control = v.control
  image : t.image = v.image
  resp : t.resp = v.resp
  table : t.table = v.table
  store : t.store = v.store
  channels : t.channels = v.channels
  rx : t.rx = v.rx
  entries : t.roster.entries = v.roster.entries
  ring : ∃ gone, t.ring = { v.ring with records := v.ring.records.map (withdrawnIf gone) }
  interval : ∃ m, t.interval = { v.interval with membership := m }
  noClose : ∀ f ∈ t.line.queue, f.body.kind ≠ 1

theorem Handed.of_cond {v : State} (hq : ∀ f ∈ v.line.queue, f.body.kind ≠ 1) (c : CrossCheck) (x : CondUnit) :
    Handed v { v with check := c, cond := x } :=
  ⟨rfl, rfl, rfl, rfl, rfl, rfl, rfl, rfl, rfl, ⟨false, by rw [map_withdrawnIf_false]⟩, ⟨v.interval.membership, rfl⟩, hq⟩

/-- The comparison's own unit and the conditions do not bear on it. -/
theorem Handed.of_before {v t : State} {c : CrossCheck} {x : CondUnit} (h : Handed { v with check := c, cond := x } t) : Handed v t :=
  ⟨h.pending, h.control, h.image, h.resp, h.table, h.store, h.channels, h.rx, h.entries, h.ring, h.interval, h.noClose⟩

theorem enterObserver_handed {v : State} (hq : ∀ f ∈ v.line.queue, f.body.kind ≠ 1) : Handed v (enterObserver v) := by
  let w : State := onCondCounters (fun c => { c with observerEntries := bump c.observerEntries })
    (v.onInterval (fun u => { u with membership := .observer }))
  have hnone : withdrawOwnClose w = w := withdrawOwnClose_of_none (by exact hq)
  have henter : enterObserver v = (((withdraw FrameBody.isPeer w).onLine (fun l => { l with offers := [] })).onRing (fun r =>
      { r with records := r.records.map (fun x => { x with pools := x.pools.map PoolPart.withdrawn }) })).onRoster
      (fun r => { r with announce := .none }) := by
    rw [enterObserver]
    simp only [show withdrawOwnClose (onCondCounters _ _) = w from hnone]
  refine ⟨by simp, by simp, by simp, by simp, by simp, by simp, by simp, by simp, by rw [enterObserver_roster],
    ⟨true, enterObserver_ring v⟩, ⟨.observer, ?_⟩, fun f hf => hq f ?_⟩
  · rw [henter]
    simp only [State.onRoster_blocks, State.onRing_blocks, State.onLine_blocks, withdraw_keeps]
    rfl
  · rw [henter] at hf
    simp only [State.onRoster_blocks, State.onRing_blocks, State.onLine_blocks, Effects.withdraw_queue] at hf
    exact (List.mem_filter.mp hf).1

/-- A fault is placed, and only the compound fault of a MEMBER changes more than the conditions. -/
theorem placeFault_cases (cause : Cause) (param : Nat) (s : State) :
    (∃ x, placeFault cause param s = { s with cond := x })
      ∨ s.interval.membership = .member ∧ s.cond.record ≠ none
        ∧ ∃ x, placeFault cause param s = enterObserver { s with cond := x } := by
  unfold placeFault
  split
  · exact .inl ⟨_, rfl⟩
  · next r hr =>
    split
    · next hmember =>
      obtain ⟨-, hmember⟩ := Bool.and_eq_true_iff.mp hmember
      exact .inr ⟨by simpa using hmember, by simp [hr], _, rfl⟩
    · split <;> exact .inl ⟨_, rfl⟩

/-- A digest handed leaves the unit and the conditions changed, and at most lets a MEMBER that holds a fault enter OBSERVER. -/
theorem handDigest_enters (v : State) (k : Nat) (p : PoolId) (station : Nat) (d : Option Digest) :
    (∃ c x, handDigest k p station d v = { v with check := c, cond := x })
      ∨ (v.image.checkMask.has p = false ∧ v.check.latch = false ∧ 3 ≤ v.check.run ∧ v.interval.membership = .member
        ∧ v.cond.record ≠ none) ∧ ∃ c x, handDigest k p station d v = enterObserver { v with check := c, cond := x } := by
  obtain ⟨c, hc⟩ | ⟨hmask, hlatch, hrun, c, hc⟩ := handDigest_cases v k p station d
  · exact .inl ⟨c, v.cond, hc⟩
  · by_cases hm : v.interval.membership = .unconfigured
    · refine .inl ⟨c, v.cond, hc.trans ?_⟩
      rw [raiseFault, if_pos (by simp [hm])]
    · rw [raiseFault_of_configured (by exact hm)] at hc
      obtain ⟨x, hx⟩ | ⟨hmember, hrec, x, hx⟩ := placeFault_cases .disagreement (station * 256 + p.val)
        (onCondCounters (fun k => { k with faultsRaised := bump k.faultsRaised }) { v with check := c })
      · exact .inl ⟨c, x, hc.trans hx⟩
      · exact .inr ⟨⟨hmask, hlatch, hrun, hmember, hrec⟩, c, x, hc.trans hx⟩

theorem handDigest_handed {v : State} (hq : ∀ f ∈ v.line.queue, f.body.kind ≠ 1) (k : Nat) (p : PoolId) (station : Nat)
    (d : Option Digest) : Handed v (handDigest k p station d v) := by
  obtain ⟨c, x, hc⟩ | ⟨-, c, x, hc⟩ := handDigest_enters v k p station d
  · rw [hc]
    exact .of_cond hq c x
  · rw [hc]
    exact (enterObserver_handed (v := { v with check := c, cond := x }) (by exact hq)).of_before

theorem handDigest_entries (v : State) (k : Nat) (p : PoolId) (station : Nat) (d : Option Digest) :
    (handDigest k p station d v).roster.entries = v.roster.entries := by
  obtain ⟨c, x, hc⟩ | ⟨-, c, x, hc⟩ := handDigest_enters v k p station d
  · rw [hc]
  · rw [hc, enterObserver_roster]

theorem handDigest_line {v : State} {p : PoolId} (h : v.image.checkMask.has p = true ∨ v.check.latch = true ∨ v.check.run < 3
    ∨ v.cond.record = none ∨ v.interval.membership = .observer) (k : Nat) (station : Nat) (d : Option Digest) :
    (handDigest k p station d v).line = v.line := by
  obtain ⟨c, x, hc⟩ | ⟨⟨hmask, hlatch, hrun, hmember, hrec⟩, -⟩ := handDigest_enters v k p station d
  · rw [hc]
  · obtain h | h | h | h | h := h
    · simp [hmask] at h
    · simp [hlatch] at h
    · omega
    · exact absurd h hrec
    · simp [hmember] at h

end Sys2Proof.CrossChecks

namespace Sys2Proof.RingUnit

open Sys2Proof Sys2Proof.Machine Sys2Proof.Notices Sys2Proof.ShareLine Sys2Proof.Reception Sys2Proof.CrossChecks Sys2Proof.IntervalUnit

/-! ## A state after an intake (R17 to R21, R174) -/

section
variable {w : State} {source : Nat} {b : SummaryBody} {r : Record} {before after : List Record}

/-- The record's branch of an intake, and the digest handed behind it. -/
structure Stepped (source : Nat) (b : SummaryBody) (w v x : State) (r y : Record) : Prop where
  refused : w.refusedAtIntake source = true → x = onRingCounters (fun k => { k with sumRefused := bump k.sumRefused }) w ∧ v = x ∧ y = r
  handed : w.refusedAtIntake source = false → x = handDigest b.interval b.pool source b.digest v
  new : w.refusedAtIntake source = false → (r.pools.get b.pool).entry source = none →
    Filled source b r y ∧ v.ring.counters = w.ring.counters

theorem intakeInto_steps (h : Has w before r after b.interval) :
    ∃ v y, Joins w v before r after y ∧ Stepped source b w v (intakeInto source b r w) r y := by
  cases hrefused : w.refusedAtIntake source
  case true =>
    rw [intakeInto_refused hrefused]
    exact ⟨_, r, onRingCounters_joins h _, fun _ => ⟨rfl, rfl, rfl⟩, by simp [hrefused], by simp [hrefused]⟩
  case false =>
    cases hy : (r.pools.get b.pool).entry source with
    | some e =>
      obtain ⟨y, hv⟩ := repeatedSummary_joins (source := source) h e
      rw [intakeInto_repeated hrefused hy]
      exact ⟨_, y, hv, by simp [hrefused], fun _ => rfl, by simp [hy]⟩
    | none =>
      obtain ⟨y, hv, hfilled, hcounters⟩ := newSummary_joins (source := source) h
      rw [intakeInto_new hrefused hy]
      exact ⟨_, y, hv, by simp [hrefused], fun _ => rfl, fun _ _ => ⟨hfilled, hcounters⟩⟩

theorem Stepped.handed_of {v x : State} {y : Record} (hx : Stepped source b w v x r y) (hv : Joins w v before r after y)
    (hq : ∀ f ∈ w.line.queue, f.body.kind ≠ 1) : Handed v x := by
  have hquiet : ∀ f ∈ v.line.queue, f.body.kind ≠ 1 := by
    rw [hv.enters.blocks]
    exact hq
  cases hr : w.refusedAtIntake source
  case true =>
    obtain ⟨-, rfl, -⟩ := hx.refused hr
    exact .of_cond (v := v) hquiet v.check v.cond
  case false =>
    rw [hx.handed hr]
    exact handDigest_handed hquiet ..

theorem Stepped.entries {v x : State} {y : Record} (hx : Stepped source b w v x r y) (hv : Joins w v before r after y) :
    x.roster.entries = w.roster.entries := by
  have hroster : v.roster = w.roster := by rw [hv.enters.blocks]
  cases hr : w.refusedAtIntake source
  case true =>
    obtain ⟨-, rfl, -⟩ := hx.refused hr
    rw [hroster]
  case false => rw [hx.handed hr, handDigest_entries, hroster]

/-- What an intake leaves of all but the record that it goes into. -/
structure Intaken (w t : State) (before : List Record) (r : Record) (after : List Record) : Prop where
  entries : t.rx.entries = w.rx.entries
  interval : ∃ m, t.interval = { w.interval with membership := m }
  noClose : ∀ f ∈ t.line.queue, f.body.kind ≠ 1
  alike : Alike w (withRecords w.ring.records t)
  records : ∃ y gone, SameClose r y ∧ t.ring.records = (before ++ y :: after).map (withdrawnIf gone)

theorem intake_intaken (h : Has w before r after b.interval) (hq : ∀ f ∈ w.line.queue, f.body.kind ≠ 1) :
    Intaken w (setPoolMode (intakeInto source b r w)) before r after := by
  obtain ⟨v, y, hv, hsteps⟩ := intakeInto_steps (source := source) h
  have hx := hsteps.handed_of hv hq
  generalize intakeInto source b r w = x at hsteps hx
  obtain ⟨hpending, hcontrol, himage, hinterval, -, -, htable, hstore, -, hroster, -, hrx, -, -, hresp⟩ := state_eq_iff.mp hv.enters.blocks
  obtain ⟨m, hm⟩ := hx.interval
  obtain ⟨gone, hring⟩ := hx.ring
  have hunit : x.interval = { w.interval with membership := m } := by rw [hm, hinterval]
  have hlatch : LatchOnly w x := fun ch => by
    obtain ⟨latch, hlatch⟩ := hv.latchOnly ch
    exact ⟨latch, by rw [hx.channels, hlatch]⟩
  refine ⟨by simp [hx.rx, hrx], ⟨m, by simp [hunit]⟩, by simpa using hx.noClose, ?_, ⟨y, gone, hv.same, by simp [hring, hv.records]⟩⟩
  refine ⟨?_, ?_, ?_, ?_, ?_, ?_, ?_, ?_, rfl, ?_, ?_, fun ch => ?_⟩
  · simp [withRecords, hx.pending, hpending]
  · simp [withRecords, hx.control, hcontrol]
  · simp [withRecords, hx.image, himage]
  · simp [withRecords, hx.resp, hresp]
  · simp [withRecords, hx.table, htable]
  · simp [withRecords, hx.store, hstore]
  · simp [withRecords, hx.store, hstore]
  · simp [withRecords, hx.entries, hroster]
  · simp [withRecords, hunit]
  · simp [withRecords, hunit]
  · obtain ⟨latch, hlatch⟩ := hlatch ch
    exact ⟨latch, by simp [withRecords, hlatch]⟩

/-- The line is as before where the digest lets no MEMBER enter OBSERVER. -/
theorem intake_line (h : Has w before r after b.interval)
    (hquiet : w.image.checkMask.has b.pool = true ∨ w.check.latch = true ∨ w.check.run < 3 ∨ w.cond.record = none
      ∨ w.interval.membership = .observer) : (setPoolMode (intakeInto source b r w)).line = w.line := by
  obtain ⟨v, y, hv, hrefused, hhanded, -⟩ := intakeInto_steps (source := source) h
  obtain ⟨-, -, himage, hinterval, -, -, -, -, -, -, hline, -, hcheck, -, -⟩ := state_eq_iff.mp hv.enters.blocks
  simp only [setPoolMode_keeps]
  cases hr : w.refusedAtIntake source
  case true =>
    rw [(hrefused hr).1]
    rfl
  case false => rw [hhanded hr, handDigest_line (by rw [himage, hcheck, hinterval, hv.enters.record]; exact hquiet), hline]

/-! ### The close that comes before it -/

theorem sameClose_refl (x : Record) : SameClose x x := withdrawnIf_sameClose false x

theorem sameClose_trans {x y z : Record} (h : SameClose x y) (k : SameClose y z) : SameClose x z := by
  refine ⟨k.number.trans h.number, k.cause.trans h.cause, k.causeStation.trans h.causeStation, k.band.trans h.band,
    k.partialMark.trans h.partialMark, k.renumbered.trans h.renumbered, k.send.trans h.send, k.accounts.trans h.accounts,
    fun p => (k.expected p).trans (h.expected p), fun p => (k.own p).trans (h.own p), ?_⟩
  obtain ⟨hstate, hgather⟩ | hdone := k.progress
  · rw [hstate, hgather]
    exact h.progress
  · exact .inr hdone

/-- Every record keeps its close. -/
theorem Intaken.sameCloses {t : State} (h : Intaken w t before r after) (hw : w.ring.records = before ++ r :: after) :
    List.Forall₂ SameClose w.ring.records t.ring.records := by
  obtain ⟨y, gone, hsame, hrecords⟩ := h.records
  have hrefl : ∀ l : List Record, List.Forall₂ SameClose l l := fun l => List.forall₂_same.mpr fun x _ => sameClose_refl x
  rw [hw, hrecords, List.forall₂_map_right_iff]
  have hreplaced : List.Forall₂ SameClose (before ++ r :: after) (before ++ y :: after) :=
    List.rel_append (hrefl before) (.cons hsame (hrefl after))
  exact hreplaced.imp fun _ x hx => sameClose_trans hx (withdrawnIf_sameClose gone x)

theorem getLast?_replaced (before after : List Record) (hne : after ≠ []) (y : Record) :
    (before ++ y :: after).getLast? = after.getLast? := by
  obtain ⟨l, z, rfl⟩ := List.eq_nil_or_concat after |>.resolve_left hne
  rw [List.concat_eq_append, ← List.cons_append, ← List.append_assoc, List.getLast?_concat, List.getLast?_concat]

/-- The OPEN record behind the closed one is as it was opened. -/
theorem Intaken.newest {t : State} (h : Intaken w t before r after) (hw : w.ring.records = before ++ r :: after) (hne : after ≠ [])
    {n : Nat} {band : Band} {mark : Bool} (hlast : w.ring.records.getLast? = some (Record.atOpen n band mark)) :
    t.ring.records.getLast? = some (Record.atOpen n band mark) := by
  obtain ⟨y, gone, -, hrecords⟩ := h.records
  rw [hw, getLast?_replaced before after hne] at hlast
  rw [hrecords, List.getLast?_map, getLast?_replaced before after hne, hlast, Option.map_some, withdrawnIf_atOpen]

theorem map_number_sameClose {l m : List Record} (h : List.Forall₂ SameClose l m) : m.map (·.number) = l.map (·.number) := by
  induction h with
  | nil => rfl
  | cons hx _ ih => simp only [List.map_cons, hx.number, ih]

theorem exists_sameClose {l m : List Record} (h : List.Forall₂ SameClose l m) {x : Record} (hx : x ∈ l) : ∃ y ∈ m, SameClose x y := by
  induction h with
  | nil => cases hx
  | cons hab _ ih =>
    obtain rfl | hx := List.mem_cons.mp hx
    · exact ⟨_, List.mem_cons_self .., hab⟩
    · obtain ⟨y, hy, hxy⟩ := ih hx
      exact ⟨y, List.mem_cons_of_mem _ hy, hxy⟩

/-- The close stands after the intake. -/
theorem Intaken.closesTo {s t : State} (h : Intaken w t before r after) (hw : w.ring.records = before ++ r :: after) (hne : after ≠ [])
    {c : Nat} {cause : CloseCause} {station : Option Nat} {band : Band} (hclose : s.closesTo w c cause station band) :
    s.closesTo t c cause station band := by
  have hrecords := h.sameCloses hw
  obtain ⟨⟨older, x, y, hrec, hy, hclosed, hnumbers⟩, hlast, hrest⟩ := closesTo_alike (.refl s) h.alike hclose
  obtain ⟨z, hz, hyz⟩ := exists_sameClose hrecords hy
  exact ⟨⟨older, x, z, hrec, hz, closedFrom_sameClose hclosed hyz, (map_number_sameClose hrecords).trans hnumbers⟩,
    h.newest hw hne hlast, hrest⟩

/-! ### The own CLOSE -/

theorem Intaken.ownCloseLeaves {s t : State} (h : Intaken w t before r after) (hleaves : s.ownCloseLeaves w) : s.ownCloseLeaves t := by
  obtain ⟨m, hm⟩ := h.interval
  obtain ⟨-, hnone, hsome⟩ := hleaves
  refine ⟨h.noClose, ?_, ?_⟩
  · rw [hm]
    exact hnone
  · rw [hm]
    exact hsome

theorem ownCloseCounted_of_line {s t : State} (hline : t.line = w.line) (h : s.ownCloseCounted w) : s.ownCloseCounted t := by
  rw [State.ownCloseCounted, hline]
  exact h

end

/-! ## The digest and the entry -/

section
variable {s w : State} {source : Nat} {b : SummaryBody} {r : Record} {before after : List Record}

theorem refusesAtIntake_iff {t : State} (h : t.roster.entries = w.roster.entries) :
    t.refusesAtIntake source ↔ w.refusedAtIntake source = true := by
  have hpeer : t.peer source = w.peer source := by rw [State.peer, h]; rfl
  rw [State.refusesAtIntake, hpeer]
  cases hx : w.peer source with
  | none => simp [State.refusedAtIntake, hx]
  | some x =>
    rw [refusedAtIntake_of_peer hx]
    simp

/-- What is judged is read off the unit and the conditions after it. -/
theorem digestJudged_after {t t' : State} (hcheck : t'.check = t.check) (hcond : t'.cond = t.cond)
    (hopen : t'.interval = t.interval) (h : s.digestJudged t source b) : s.digestJudged t' source b := by
  unfold State.digestJudged at h ⊢
  rw [hcheck, hcond, hopen]
  exact h

theorem intake_roster (h : Has w before r after b.interval) :
    (setPoolMode (intakeInto source b r w)).roster.entries = w.roster.entries := by
  obtain ⟨v, y, hv, hsteps⟩ := intakeInto_steps (source := source) h
  simp only [setPoolMode_keeps]
  exact hsteps.entries hv

/-- An intake hands its digest unless it is refused. -/
theorem intake_judged (h : Has w before r after b.interval)
    (hm : w.interval.membership ≠ .unconfigured) (hmask : w.image.checkMask.has b.pool = false) :
    (w.refusedAtIntake source = false → w.digestJudged (setPoolMode (intakeInto source b r w)) source b)
      ∧ (w.refusedAtIntake source = true → (setPoolMode (intakeInto source b r w)).check = w.check) := by
  obtain ⟨v, y, hv, hrefused, hhanded, -⟩ := intakeInto_steps (source := source) h
  obtain ⟨-, -, himage, hinterval, -, -, -, -, -, -, -, -, hcheck, -, -⟩ := state_eq_iff.mp hv.enters.blocks
  refine ⟨fun hr => ?_, fun hr => ?_⟩
  · refine digestJudged_after (t := intakeInto source b r w) (by simp) (by simp) (by simp) ?_
    rw [hhanded hr]
    exact digestJudged_congr hcheck hv.history hv.enters.record
      (handDigest_judged (by rw [hinterval]; exact hm) (by rw [himage]; exact hmask))
  · simp only [setPoolMode_keeps]
    rw [(hrefused hr).1]
    rfl

end

end Sys2Proof.RingUnit

namespace Sys2Proof.RingUnit

open Sys2Proof Sys2Proof.Machine Sys2Proof.Notices Sys2Proof.ShareLine Sys2Proof.Reception Sys2Proof.CrossChecks Sys2Proof.IntervalUnit

/-! ## A new summary in its record (R17 to R20) -/

section
variable {s w : State} {source : Nat} {b : SummaryBody} {r y : Record} {before after : List Record}

/-- The pool of a filled record: the entry at its place, the totals with it. -/
theorem Filled.pool (h : Filled source b r y) : (y.pools.get b.pool).contributors =
      insertEntry (newEntry r source b) (r.pools.get b.pool).contributors
    ∧ (y.pools.get b.pool).totals = sumEntries (y.pools.get b.pool).contributors
    ∧ (y.pools.get b.pool).expected = (r.pools.get b.pool).expected := by
  rw [h.pools, sumEntries_eq]
  simp only [filled, Four.get_set_self, listing, and_self]

/-- The entry as a reader of the filled record sees it. -/
theorem Filled.newEntry_eq (h : Filled source b r y) : newEntry r source b = ⟨source, b.values, b.estimated, b.tampered,
    decide (r.state = .provisional), y.state != .opened && !(y.pools.get b.pool).expected.contains source, false⟩ := by
  obtain ⟨-, -, hexpected⟩ := h.pool
  have hopen : (r.state != .opened) = (y.state != .opened) := by
    obtain hsame | ⟨hgath, hprov⟩ := h.state
    · rw [hsame]
    · rw [hgath, hprov]
      rfl
  rw [newEntry, hexpected, hopen]

theorem Filled.late (h : Filled source b r y) (hy : y.state ≠ .provisional) : decide (r.state = .provisional) = false := by
  obtain hsame | ⟨-, hprov⟩ := h.state
  · simpa [← hsame] using hy
  · exact absurd hprov hy

/-- A SUMMARY whose source has no entry yet is refused by the roster, or stands in its record with the totals. -/
theorem intake_taken (h : Has w before r after b.interval) (hq : ∀ f ∈ w.line.queue, f.body.kind ≠ 1)
    (habsent : Absent source b.pool r) (hcounters : w.ring.counters.sumRefused = s.ring.counters.sumRefused) :
    s.summaryTaken (setPoolMode (intakeInto source b r w)) source b := by
  obtain ⟨v, y, hv, hsteps⟩ := intakeInto_steps (source := source) h
  have hentries := intake_roster (source := source) h
  obtain ⟨gone, hring⟩ := (hsteps.handed_of hv hq).ring
  obtain ⟨hrefused, -, hnew⟩ := hsteps
  obtain ⟨hcontributors, htotals, hexpected, hstate⟩ := withdrawnIf_pool gone y b.pool
  refine ⟨withdrawnIf gone y, ?_, (withdrawnIf_sameClose gone y).number.trans (hv.same.number.trans h.number), ?_, ?_⟩
  · simp [hring, hv.records]
  · rw [refusesAtIntake_iff hentries]
    intro hr
    obtain ⟨hdone, hvx, rfl⟩ := hrefused hr
    refine ⟨?_, ?_⟩
    · simp only [setPoolMode_keeps]
      rw [hdone, ← hcounters]
      rfl
    · rw [hcontributors]
      exact habsent
  · rw [refusesAtIntake_iff hentries, Bool.not_eq_true]
    intro hr
    obtain ⟨hfilled, hsame⟩ := hnew hr habsent.entry
    obtain ⟨hlist, hsum, -⟩ := hfilled.pool
    refine ⟨?_, ?_, decide (r.state = .provisional), ?_, ?_⟩
    · simp only [setPoolMode_keeps]
      rw [hring, ← hcounters, ← hsame]
    · rw [htotals, hcontributors, hsum, sumEntries_eq]
    · rw [hcontributors, hstate, hexpected, ← hfilled.newEntry_eq, hlist]
      exact mem_insertEntry.mpr (.inl rfl)
    · rw [hstate]
      exact hfilled.late

end

end Sys2Proof.RingUnit

namespace Sys2Proof.IntervalUnit

open Sys2Proof Sys2Proof.Machine Sys2Proof.Notices Sys2Proof.ShareLine Sys2Proof.Reception Sys2Proof.RingUnit Sys2Proof.EngineUnit
open Sys2Proof.RingOrder Sys2Proof.Effects Sys2Proof.Cuts Sys2Proof.CrossChecks

/-! ## A SUMMARY of the OPEN record or above it (R17, R103, R111 to R113) -/

/-- The close that a SUMMARY asks for. -/
def implied (source : Nat) (b : SummaryBody) : HeldClose := ⟨b.interval, .implicit, some source, .schedule⟩

/-- The close taken, or held where it cannot be. -/
def closedOrHeld (q : HeldClose) (u : State) : State := if u.takesNow then frameClose q u else holdClose q u

/-- The implicit close is counted. -/
def countImplicit (u : State) : State := onIntervalCounters (fun c => { c with implicitCloses := bump c.implicitCloses }) u

section
variable {s : State} {source : Nat} {b : SummaryBody}

theorem findRecord_open (hs : s.ringOrdered) (hring : s.hasRing) (h : b.interval = s.interval.openNumber) :
    ∃ r, findRecord b.interval s = some r ∧ r.state = .opened := by
  obtain ⟨older, r, hrec, hst, hnum, -, hbelow⟩ := exists_open hs hring
  exact ⟨r, findRecord_last hrec (hnum.trans h.symm) fun x hx => by have := hbelow x hx; omega, hst⟩

theorem findRecord_above (hs : s.ringOrdered) (hring : s.hasRing) (h : s.interval.openNumber < b.interval) :
    findRecord b.interval s = none := by
  obtain ⟨older, r, hrec, -, hnum, -, hbelow⟩ := exists_open hs hring
  refine findRecord_eq_none fun x hx => ?_
  rw [hrec] at hx
  obtain hx | hx := List.mem_append.mp hx
  · have := hbelow x hx
    omega
  · obtain rfl : x = r := by simpa using hx
    omega

theorem placeSummary_open (hs : s.ringOrdered) (hring : s.hasRing) (h : b.interval = s.interval.openNumber)
    (hheld : s.interval.held = none) : placeSummary source b s = if b.interval = 4294967295 then countNumberLimit s
      else intake source b (countImplicit (closedOrHeld (implied source b) s)) := by
  obtain ⟨r, hr, hopen⟩ := findRecord_open hs hring h
  simp only [placeSummary, hr, hopen, hheld]
  rfl

theorem placeSummary_above (hs : s.ringOrdered) (hring : s.hasRing) (h : s.interval.openNumber < b.interval) :
    placeSummary source b s = if b.interval = 4294967295 then countNumberLimit s
      else if s.takesNow then intake source b (frameClose (implied source b) s)
      else onRingCounters (fun c => { c with sumUnplaced := bump c.sumUnplaced }) (holdClose (implied source b) s) := by
  simp only [placeSummary, findRecord_above hs hring h, if_pos h]
  rfl

end

/-- What a close by a frame and a held close alike leave. -/
structure Closed (s w : State) (entries : List RxEntry) : Prop where
  leaves : s.ownCloseLeaves w
  counted : s.ownCloseCounted w
  timer : w.interval.timer = .running s.image.lengthMs
  entries : w.rx.entries = entries
  check : w.check = s.check
  membership : w.interval.membership = s.interval.membership
  image : w.image = s.image
  kept : RecordsOnly s w

section
variable {s u w : State} {source : Nat} {b : SummaryBody} {q : HeldClose} {before after : List Record} {r : Record}

theorem frameClose_closed (x : RxPool) : Closed s (frameClose q { s with rx := x }) x.entries := by
  obtain ⟨hleaves, hcounted, htimer, hentries, hcheck, hmembership⟩ := frameClose_leaves (q := q) (taken_ready s x)
  exact ⟨hleaves, hcounted, htimer, hentries, hcheck, hmembership, by simp,
    RecordsOnly.trans (t := { s with rx := x }) ⟨rfl, rfl⟩ (frameClose_recordsOnly ..)⟩

theorem holdClose_closed (x : RxPool) : Closed s (holdClose q { s with rx := x }) x.entries := by
  obtain ⟨hleaves, hcounted, htimer, hentries, hcheck, hmembership⟩ := holdClose_leaves (q := q) (taken_ready s x)
  exact ⟨hleaves, hcounted, htimer, hentries, hcheck, hmembership, by simp,
    RecordsOnly.trans (t := { s with rx := x }) ⟨rfl, rfl⟩ (holdClose_recordsOnly ..)⟩

theorem closedOrHeld_closed (x : RxPool) : Closed s (closedOrHeld q { s with rx := x }) x.entries := by
  unfold closedOrHeld
  split
  · exact frameClose_closed x
  · exact holdClose_closed x

theorem Closed.implicit {l : List RxEntry} (h : Closed s w l) : Closed s (countImplicit w) l :=
  ⟨h.leaves, h.counted, h.timer, h.entries, h.check, h.membership, h.image, ⟨h.kept.ring, h.kept.fault⟩⟩

/-- The same after the intake that follows. -/
theorem Closed.intake {l : List RxEntry} (h : Closed s w l) (hhas : Has w before r after b.interval) :
    (setPoolMode (intakeInto source b r w)).rx.entries = l
      ∧ (setPoolMode (intakeInto source b r w)).interval.timer = .running s.image.lengthMs
      ∧ s.ownCloseLeaves (setPoolMode (intakeInto source b r w))
      ∧ ((s.image.checkMask.has b.pool = true ∨ s.check.latch = true ∨ s.check.run < 3 ∨ s.cond.record = none
          ∨ s.interval.membership = .observer) → s.ownCloseCounted (setPoolMode (intakeInto source b r w))) := by
  have hin := intake_intaken (source := source) hhas h.leaves.1
  obtain ⟨m, hm⟩ := hin.interval
  refine ⟨hin.entries.trans h.entries, by rw [hm]; exact h.timer, hin.ownCloseLeaves h.leaves, fun hquiet => ?_⟩
  refine ownCloseCounted_of_line (intake_line hhas ?_) h.counted
  rw [h.image, h.check, h.kept.fault, h.membership]
  exact hquiet

theorem Closed.sumRefused {l : List RxEntry} (h : Closed s w l) : w.ring.counters.sumRefused = s.ring.counters.sumRefused := by
  rw [h.kept.ring]

theorem intake_eq (hhas : Has w before r after b.interval) : intake source b w = setPoolMode (intakeInto source b r w) := by
  simp only [intake, hhas.find]

/-- The digest of a SUMMARY placed after a close or a hold. -/
theorem Closed.judged {l : List RxEntry} (h : Closed s w l) (hhas : Has w before r after b.interval)
    (hm : s.interval.membership ≠ .unconfigured) (hmask : s.image.checkMask.has b.pool = false) :
    (¬ (setPoolMode (intakeInto source b r w)).refusesAtIntake source →
        s.digestJudged (setPoolMode (intakeInto source b r w)) source b)
      ∧ ((setPoolMode (intakeInto source b r w)).refusesAtIntake source →
        (setPoolMode (intakeInto source b r w)).check = s.check) := by
  obtain ⟨hjudged, hrefused⟩ := intake_judged (source := source) hhas (by rw [h.membership]; exact hm)
    (by rw [h.image]; exact hmask)
  rw [refusesAtIntake_iff (intake_roster hhas), Bool.not_eq_true]
  refine ⟨fun hr => digestJudged_congr h.check ?_ h.kept.fault (hjudged hr), fun hr => (hrefused hr).trans h.check⟩
  rw [h.kept.ring]

end

end Sys2Proof.IntervalUnit

namespace Sys2Proof.IntervalUnit

open Sys2Proof Sys2Proof.Machine Sys2Proof.Notices Sys2Proof.ShareLine Sys2Proof.Reception Sys2Proof.RingUnit Sys2Proof.EngineUnit
open Sys2Proof.RingOrder Sys2Proof.Effects Sys2Proof.Cuts Sys2Proof.CrossChecks

section
variable {s : State} {source : Nat} {b : SummaryBody} {older : List Record} {r : Record} (x : RxPool)

/-- A close taken for a SUMMARY, with the closed record that its intake goes into. -/
theorem implied_taken (hcan : CanClose s b.interval older r) :
    ∃ before y after, Has (frameClose (implied source b) { s with rx := x }) before y after b.interval ∧ after ≠ []
      ∧ (source ≠ s.image.station → (s.interval.openNumber < b.interval ∨ Absent source b.pool r) → Absent source b.pool y) := by
  obtain ⟨before, y, after, hhas, hne, -, habsent⟩ := frameClose_has (q := implied source b) (taken_ready s x) hcan
  exact ⟨before, y, after, hhas, hne, habsent source b.pool⟩

theorem implied_held_interval (hheld : s.interval.held = none) :
    (holdClose (implied source b) { s with rx := x }).interval.held = some (implied source b)
      ∧ (holdClose (implied source b) { s with rx := x }).interval.counters = { s.interval.counters with
        closesHeld := bump s.interval.counters.closesHeld
        closeWithdrawn := (holdClose (implied source b) { s with rx := x }).interval.counters.closeWithdrawn } := by
  simp only [holdClose_interval, withHeld, hheld, and_self]

theorem implied_merged {h : HeldClose} (hheld : s.interval.held = some h) :
    (holdClose (implied source b) { s with rx := x }).interval.held =
      some ⟨max h.interval b.interval, .implicit, some source, .schedule⟩ := by
  simp only [holdClose_interval, withHeld, hheld]
  rfl

theorem holdClose_ring (q : HeldClose) (s : State) : (holdClose q s).ring = s.ring := by simp

end

/-- Settles O46: the limit, the close taken or held for the OPEN record or by JUMP, the intake behind it, and the unplaced SUMMARY. -/
theorem summaryClosesTheOpenInterval : Obligations.SummaryClosesTheOpenInterval := by
  intro cls e b s hf hs he hb hup hheld
  let u : State := { s with rx := s.rx.without e }
  have hring : u.hasRing := hasRing_of_following hf
  have hexec := exec_takeSummary hf he hb
  have hplace := placeSummary_above (source := e.frame.source) (b := b) (s := u) hs hring
  have hopen := placeSummary_open (source := e.frame.source) (b := b) (s := u) hs hring
  refine ⟨fun hmax => ?_, fun hmax => ?_⟩
  · rw [hexec]
    obtain heq | hlt := hup.eq_or_lt
    · rw [hopen heq.symm (hheld.resolve_right (by omega)), if_pos hmax]
      rfl
    · rw [hplace hlt, if_pos hmax]
      rfl
  intro band unplaced quiet
  have hnotmax : b.interval ≠ 4294967295 := hmax.ne
  by_cases htakes : u.takesNow = true
  · obtain ⟨⟨hroom, hdrain⟩, hnone⟩ := takesNow_iff.mp htakes
    have hroom : s.ring.records.length < 4 := hroom
    have hdrain : s.interval.drain = false := hdrain
    have hnone : s.interval.held = none := hnone
    have hplaced : ¬ unplaced := fun ⟨_, hbusy⟩ => by
      obtain hbusy | hbusy | hbusy := hbusy
      · exact hbusy hnone
      · simp [hdrain] at hbusy
      · omega
    have hfree : ¬ (s.interval.drain = true ∨ 4 ≤ s.ring.records.length) := by simp [hdrain, hroom]
    obtain ⟨older, r, hcan⟩ := canClose hs (hasRing_of_following hf) hroom hup
    obtain ⟨before, y, after, hhas, hne, habsent⟩ := implied_taken (source := e.frame.source) (s.rx.without e) hcan
    have hclosed : Closed s _ _ := frameClose_closed (s := s) (q := implied e.frame.source b) (s.rx.without e)
    obtain heq | hlt := hup.eq_or_lt
    · have hhas' : Has (countImplicit (frameClose (implied e.frame.source b) u)) before y after b.interval :=
        ⟨hhas.records, hhas.number, hhas.others⟩
      rw [hopen heq.symm hnone, if_neg hnotmax, closedOrHeld, if_pos htakes, intake_eq hhas'] at hexec
      obtain ⟨hentries, htimer, hleaves, hcounted⟩ := hclosed.implicit.intake (source := e.frame.source) hhas'
      have hin := intake_intaken (source := e.frame.source) hhas' hclosed.implicit.leaves.1
      obtain ⟨m, hm⟩ := hin.interval
      refine ⟨_, hexec, hentries, htimer, hleaves, fun hq => hcounted (hq.resolve_left hplaced), fun _ hsource hnew => ?_,
        fun _ _ _ => ⟨fun _ => ⟨?_, ?_⟩, fun hlt => by omega⟩, fun _ hbusy => absurd hbusy hfree, fun hlt => by omega,
        fun _ hlt => by omega⟩
      · exact intake_taken hhas' hclosed.implicit.leaves.1 (habsent hsource (.inr (hnew heq older r hcan.records)))
          hclosed.implicit.sumRefused
      · obtain ⟨hclose, -⟩ := frameClose_closesTo (taken_ready s (s.rx.without e)) hcan (q := implied e.frame.source b) heq.symm
        refine hin.closesTo hhas'.records hne (closesTo_alike (.refl s) ?_ hclose)
        exact .of_interval _ _ _ rfl rfl
      · rw [hm]
        simp only [countImplicit, onIntervalCounters, State.onInterval, frameClose_interval, u]
    · rw [hplace hlt, if_neg hnotmax, if_pos htakes, intake_eq hhas] at hexec
      obtain ⟨hentries, htimer, hleaves, hcounted⟩ := hclosed.intake (source := e.frame.source) hhas
      have hin := intake_intaken (source := e.frame.source) hhas hclosed.leaves.1
      obtain ⟨m, hm⟩ := hin.interval
      obtain ⟨hclose, hjumps⟩ := frameClose_jumpsTo (taken_ready s (s.rx.without e)) hcan (q := implied e.frame.source b) hlt
      refine ⟨_, hexec, hentries, htimer, hleaves, fun hq => hcounted (hq.resolve_left hplaced), fun _ hsource _ => ?_,
        fun _ _ _ => ⟨fun heq => by omega, fun _ => ⟨hin.closesTo hhas.records hne hclose, ?_⟩⟩, fun heq => by omega,
        fun _ _ hbusy => absurd hbusy hfree, fun h _ hsome => by simp [hnone] at hsome⟩
      · exact intake_taken hhas hclosed.leaves.1 (habsent hsource (.inl hlt)) hclosed.sumRefused
      · rw [hm]
        exact hjumps
  · have hbusy : s.interval.held = none → ¬ (s.interval.drain = false ∧ s.ring.records.length < 4) := fun hnone hfree =>
      htakes (takesNow_iff.mpr ⟨hfree.symm, hnone⟩)
    have hclosed : Closed s _ _ := holdClose_closed (s := s) (q := implied e.frame.source b) (s.rx.without e)
    obtain heq | hlt := hup.eq_or_lt
    · have hnone : s.interval.held = none := hheld.resolve_right (by omega)
      have hplaced : ¬ unplaced := fun ⟨hlt, _⟩ => by omega
      obtain ⟨older, r, hrec, -, hnum, -, hbelow⟩ := exists_open hs (hasRing_of_following hf)
      have hhas : Has (countImplicit (holdClose (implied e.frame.source b) u)) older r [] b.interval := by
        refine ⟨(congrArg Ring.records (holdClose_ring (implied e.frame.source b) u)).trans hrec, hnum.trans heq, fun z hz => ?_⟩
        have := hbelow z (by simpa using hz)
        omega
      rw [hopen heq.symm hnone, if_neg hnotmax, closedOrHeld, if_neg htakes, intake_eq hhas] at hexec
      obtain ⟨hentries, htimer, hleaves, hcounted⟩ := hclosed.implicit.intake (source := e.frame.source) hhas
      obtain ⟨m, hm⟩ := (intake_intaken (source := e.frame.source) hhas hclosed.implicit.leaves.1).interval
      obtain ⟨hhold, hcounters⟩ := implied_held_interval (source := e.frame.source) (b := b) (s.rx.without e) hnone
      refine ⟨_, hexec, hentries, htimer, hleaves, fun hq => hcounted (hq.resolve_left hplaced), fun _ _ hnew => ?_,
        fun _ hdrain hroom => absurd ⟨hdrain, hroom⟩ (hbusy hnone), fun _ _ => ⟨?_, ?_⟩, fun hlt => by omega, fun _ hlt => by omega⟩
      · exact intake_taken hhas hclosed.implicit.leaves.1 (hnew heq older r hrec) hclosed.implicit.sumRefused
      · rw [hm]
        exact hhold
      · rw [hm]
        simp only [countImplicit, onIntervalCounters, State.onInterval]
        rw [hcounters]
    · have hunplaced : unplaced := by
        refine ⟨hlt, ?_⟩
        by_cases hnone : s.interval.held = none
        · have hbusy := hbusy hnone
          by_cases hdrain : s.interval.drain = true
          · exact .inr (.inl hdrain)
          · exact .inr (.inr (by simpa [hdrain] using hbusy))
        · exact .inl hnone
      rw [hplace hlt, if_neg hnotmax, if_neg htakes] at hexec
      have hringed : (onRingCounters (fun c => { c with sumUnplaced := bump c.sumUnplaced })
          (holdClose (implied e.frame.source b) u)).ring = { s.ring with
            counters := { s.ring.counters with sumUnplaced := bump s.ring.counters.sumUnplaced } } := by
        simp only [onRingCounters, State.onRing, holdClose_ring]
        rfl
      refine ⟨_, hexec, hclosed.entries, hclosed.timer, hclosed.leaves, fun _ => hclosed.counted, fun hplaced => absurd hunplaced hplaced,
        fun hnone hdrain hroom => absurd ⟨hdrain, hroom⟩ (hbusy hnone), fun heq => by omega, fun _ hnone _ => ⟨?_, hringed⟩,
        fun h _ hsome => ⟨?_, hringed⟩⟩
      · exact (implied_held_interval (source := e.frame.source) (b := b) (s.rx.without e) hnone).1
      · exact implied_merged (s.rx.without e) hsome

end Sys2Proof.IntervalUnit

namespace Sys2Proof.IntervalUnit

open Sys2Proof Sys2Proof.Machine Sys2Proof.Notices Sys2Proof.ShareLine Sys2Proof.Reception Sys2Proof.RingUnit Sys2Proof.EngineUnit
open Sys2Proof.RingOrder Sys2Proof.Effects Sys2Proof.Cuts Sys2Proof.CrossChecks

/-! ## The digest that a SUMMARY hands (R174, R175, R178, R179) -/

/-- A SUMMARY placed between s and t: its digest judged, or refused with it. -/
def JudgedBy (s t : State) (source : Nat) (b : SummaryBody) : Prop :=
  (¬ t.refusesAtIntake source → s.digestJudged t source b) ∧ (t.refusesAtIntake source → t.check = s.check)

section
variable {s w : State} {source : Nat} {b : SummaryBody} {before after : List Record} {r : Record} (x : RxPool)

theorem hasRecord (hs : s.ringOrdered) (hr : r ∈ s.ring.records) : ∃ before after, Has s before r after r.number :=
  has_of_numbers hr (hs.2.1.imp fun hlt => hlt.ne)

theorem open_number_of_mem (hs : s.ringOrdered) (hring : s.hasRing) (hr : r ∈ s.ring.records) (hst : r.state = .opened) :
    r.number = s.interval.openNumber := by
  obtain ⟨older, r', hrec, -, hnum, hold, -⟩ := exists_open hs hring
  rw [hrec] at hr
  obtain hr | hr := List.mem_append.mp hr
  · exact absurd hst (hold r hr)
  · obtain rfl : r = r' := by simpa using hr
    exact hnum

/-- The record that a SUMMARY of the OPEN record goes into: the closed one, or the OPEN one where the close is held. -/
theorem closedOrHeld_has (hs : s.ringOrdered) (hring : s.hasRing) (hopen : b.interval = s.interval.openNumber) :
    ∃ before r after, Has (closedOrHeld (implied source b) { s with rx := x }) before r after b.interval := by
  unfold closedOrHeld
  split
  · next htakes =>
    obtain ⟨⟨hroom, -⟩, -⟩ := takesNow_iff.mp htakes
    obtain ⟨older, r, hcan⟩ := canClose hs hring (by exact hroom) hopen.ge
    obtain ⟨before, y, after, hhas, -⟩ := implied_taken (source := source) x hcan
    exact ⟨before, y, after, hhas⟩
  · obtain ⟨r, hr, -⟩ := findRecord_open hs hring hopen
    have hnum : r.number = b.interval := by simpa using List.find?_some hr
    obtain ⟨before, after, hhas⟩ := hasRecord hs (List.mem_of_find?_eq_some hr)
    refine ⟨before, r, after, ?_, hnum, by rw [← hnum]; exact hhas.others⟩
    rw [holdClose_ring]
    exact hhas.records

section
variable (hs : s.ringOrdered) (hf : s.following = true) (hmask : s.image.checkMask.has b.pool = false)
  (hmax : b.interval ≠ 4294967295)
include hs hf hmask hmax

/-- A SUMMARY of a record that the ring holds and that is not SETTLING. -/
theorem placeSummary_judged_held (hr : r ∈ s.ring.records) (hnum : r.number = b.interval) (hst : r.state ≠ .settling) :
    JudgedBy s (placeSummary source b { s with rx := x }) source b := by
  have hring := hasRing_of_following hf
  have hm : s.interval.membership ≠ .unconfigured := live_configured (live_of_following hf)
  obtain ⟨before, after, hhas⟩ := hasRecord hs hr
  rw [hnum] at hhas
  by_cases himplied : r.state = .opened ∧ s.interval.held = none
  · obtain ⟨hopened, hnone⟩ := himplied
    have hopen : b.interval = s.interval.openNumber := hnum.symm.trans (open_number_of_mem hs hring hr hopened)
    obtain ⟨before, y, after, hplaced⟩ := closedOrHeld_has (source := source) x hs hring hopen
    have hplaced' : Has (countImplicit (closedOrHeld (implied source b) { s with rx := x })) before y after b.interval :=
      ⟨hplaced.records, hplaced.number, hplaced.others⟩
    rw [placeSummary_open (by exact hs) (by exact hring) (by exact hopen) (by exact hnone), if_neg hmax, intake_eq hplaced']
    exact (closedOrHeld_closed x).implicit.judged hplaced' hm hmask
  · have hstate : r.state = .gathering ∨ r.state = .provisional ∨ r.state = .opened ∧ s.interval.held ≠ none := by
      cases hr : r.state with
      | opened => exact .inr (.inr ⟨rfl, fun hnone => himplied ⟨hr, hnone⟩⟩)
      | gathering => exact .inl rfl
      | provisional => exact .inr (.inl rfl)
      | settling => exact absurd hr hst
    have hplaced : Has { s with rx := x } before r after b.interval := ⟨hhas.records, hhas.number, hhas.others⟩
    rw [placeSummary_intake hplaced.find (by exact hstate)]
    obtain ⟨hjudged, hrefused⟩ := intake_judged (source := source) hplaced (by exact hm) (by exact hmask)
    rw [JudgedBy, refusesAtIntake_iff (intake_roster hplaced), Bool.not_eq_true]
    exact ⟨fun h => digestJudged_congr rfl rfl rfl (hjudged h), hrefused⟩

/-- A SUMMARY above the OPEN record: it closes by JUMP, or it is unplaced and hands nothing on. -/
theorem placeSummary_judged_above (habove : s.interval.openNumber < b.interval) :
    (s.interval.held = none ∧ s.interval.drain = false ∧ s.ring.records.length < 4 →
        JudgedBy s (placeSummary source b { s with rx := x }) source b)
      ∧ (¬ (s.interval.held = none ∧ s.interval.drain = false ∧ s.ring.records.length < 4) →
        (placeSummary source b { s with rx := x }).check = s.check) := by
  have hring := hasRing_of_following hf
  have htakes : ({ s with rx := x } : State).takesNow = true ↔
      s.interval.held = none ∧ s.interval.drain = false ∧ s.ring.records.length < 4 := by
    rw [takesNow_iff, and_comm, and_comm (a := ({ s with rx := x } : State).ring.records.length < 4)]
  rw [placeSummary_above (by exact hs) (by exact hring) (by exact habove), if_neg hmax]
  refine ⟨fun hroom => ?_, fun hno => ?_⟩
  · obtain ⟨older, r, hcan⟩ := canClose hs hring hroom.2.2 habove.le
    obtain ⟨before, y, after, hplaced, -⟩ := implied_taken (source := source) x hcan
    rw [if_pos (htakes.mpr hroom), intake_eq hplaced]
    exact (frameClose_closed x).judged hplaced (live_configured (live_of_following hf)) hmask
  · rw [if_neg (mt htakes.mp hno)]
    simp [onRingCounters]

end

/-- The digest of a SUMMARY that is too late for a node that does not hold its record. -/
theorem exec_takeSummary_tooLate {cls : SummaryClass} {e : RxEntry} (hf : s.following = true)
    (he : s.rxHead (rxClassOf cls) = some e) (hb : e.frame.body = .summary b) (hlt : b.interval < s.interval.openNumber)
    (hnone : ∀ r ∈ s.ring.records, r.number ≠ b.interval) :
    exec (.takeSummary cls) s = .next (handDigest b.interval b.pool e.frame.source b.digest { s with
      rx := s.rx.without e
      ring := { s.ring with counters := { s.ring.counters with sumTooLate := bump s.ring.counters.sumTooLate } } }) := by
  rw [exec_takeSummary hf he hb, placeSummary_tooLate (by exact .inr ⟨hlt, hnone⟩)]
  rfl

end

/-- Settles O60: the too late digest case by case, and the digest of a SUMMARY placed in a record. -/
theorem handedDigestIsCompared : Obligations.HandedDigestIsCompared := by
  refine ⟨fun cls e b s hf he hb hmask hlt hnone => ?_, fun cls e b s hf hs he hb hmask hmax => ?_⟩
  · intro taken c counted'
    have hexec : exec (.takeSummary cls) s = .next (handDigest b.interval b.pool e.frame.source b.digest taken) :=
      exec_takeSummary_tooLate hf he hb hlt hnone
    have hmask' : taken.image.checkMask.has b.pool = false := hmask
    refine ⟨fun h => ?_, fun h hk hh => ?_⟩
    · rw [hexec, handDigest_unheld hmask' (by exact h)]
      rfl
    have hh' : taken.settledEntry (b.interval - 3) = some h := hh
    refine ⟨fun hd => ?_, fun hd => ?_, fun d hd hne => ?_⟩
    · rw [hexec, hd, handDigest_absent hmask' hk hh']
      rfl
    · rw [hexec, hd, handDigest_compared hmask' hk hh']
      rfl
    intro m mismatch' next between
    rw [hd] at hexec
    have hrun : ∀ run runInterval, s.check.latch = false →
        nextRun s.ring.history s.check.run s.check.runInterval m = (run, runInterval) → run < 4 → next run runInterval := by
      intro run runInterval hlatch hnext hrun
      exact hexec.trans (congrArg Host.Outcome.next (handDigest_run hmask' hk hh' hne (by exact hlatch) (by exact hnext) hrun))
    refine ⟨fun hlatch => ?_, fun hlatch hr => hrun _ _ hlatch (nextRun_first hr) (by omega),
      fun hlatch hr hm hfour => hrun _ _ hlatch (nextRun_again hr hm) hfour,
      fun hlatch hr hm hgap => hrun _ _ hlatch (nextRun_restarts hr hm hgap) (by omega), fun hlatch hr hm hgap hlast => ?_⟩
    · exact hexec.trans (congrArg Host.Outcome.next (handDigest_latched hmask' hk hh' hne (by exact hlatch)))
    · have hnext := nextRun_continues (run := s.check.run) hr hm (exists_number_of_settledEntry hh') hgap hlast
      refine ⟨fun hthree => hrun _ _ hlatch hnext (by omega), fun hthree hrec => ?_⟩
      have hnext' : nextRun taken.ring.history taken.check.run taken.check.runInterval (b.interval - 3) = (4, m) :=
        hnext.trans (by rw [hthree])
      rw [hexec, handDigest_four hmask' hk hh' hne (by exact hlatch) hnext' le_rfl,
        raiseDisagreement_first (s := taken) (live_configured (live_of_following hf)) (by exact hrec)]
      rfl
  · intro room placed
    refine ⟨_, exec_takeSummary hf he hb, ?_⟩
    have habove := placeSummary_judged_above (source := e.frame.source) (s.rx.without e) hs hf hmask hmax
    have hplaced : placed → JudgedBy s (placeSummary e.frame.source b { s with rx := s.rx.without e }) e.frame.source b := by
      rintro (⟨r, hr, hnum, hst⟩ | ⟨hlt, hroom⟩)
      · exact placeSummary_judged_held (s.rx.without e) hs hf hmask hmax hr hnum hst
      · exact (habove hlt).1 hroom
    exact ⟨fun hp => (hplaced hp).1, fun hp => (hplaced hp).2, fun hlt hno => (habove hlt).2 hno⟩

end Sys2Proof.IntervalUnit

namespace Sys2Proof.Restoring

open Sys2Proof Sys2Proof.Machine Sys2Proof.Notices Sys2Proof.Reception Sys2Proof.Requests Sys2Proof.Cuts Sys2Proof.EngineUnit

/-! ## The requests for one record (R67, R68) -/

/-- The requests that wait for a record. -/
def requestsOf (n : Nat) (q : List StoreRequest) : List StoreRequest := q.filter (fun x => x.write.recordNumber == n)

theorem requestsOf_requested_other {n : Nat} {w : StoreWrite} (h : w.recordNumber ≠ n) (awaited : Bool) (q : List StoreRequest) :
    requestsOf n (requested w awaited q) = requestsOf n q := by
  rw [requestsOf, requested, List.filter_append, List.filter_cons_of_neg (by simpa using h), List.filter_nil, List.append_nil,
    List.filter_filter]
  refine List.filter_congr fun x _ => ?_
  by_cases hx : x.write.recordNumber = n
  · simp [hx, Ne.symm h]
  · simp [hx]

theorem requestsOf_requested {n : Nat} {w : StoreWrite} (h : w.recordNumber = n) {q : List StoreRequest} (hq : requestsOf n q = []) :
    requestsOf n (requested w false q) = [⟨w, false⟩] := by
  have hnone : ∀ x ∈ q, x.write.recordNumber ≠ n := by simpa [requestsOf] using hq
  have hany : q.any (fun x => x.write.recordNumber == n && x.awaited) = false := by
    simpa using fun x hx he => absurd he (hnone x hx)
  rw [requestsOf, requested, h, List.filter_append, List.filter_cons_of_pos (by simpa using h), List.filter_nil, hany, List.filter_filter,
    List.filter_eq_nil_iff.mpr fun x hx => by simp [hnone x hx]]
  rfl

/-! ## What restoring another account leaves (R70 to R73) -/

/-- The blocks that restore reads stay. -/
structure Steady (s t : State) : Prop where
  image : t.image = s.image
  contents : t.store.contents = s.store.contents
  writing : t.store.writing = s.store.writing

theorem Steady.refl (s : State) : Steady s s := ⟨rfl, rfl, rfl⟩

theorem Steady.trans {s t u : State} (h : Steady s t) (k : Steady t u) : Steady s u :=
  ⟨k.image.trans h.image, k.contents.trans h.contents, k.writing.trans h.writing⟩

/-- The account, the statement and the requests of account i are as before. -/
structure Apart (i : AccountId) (s t : State) : Prop where
  steady : Steady s t
  account : t.table.accounts.get i = s.table.accounts.get i
  slot : t.table.slots.get i = s.table.slots.get i
  accountWrites : requestsOf i.val t.store.queue = requestsOf i.val s.store.queue
  statementWrites : requestsOf (16 + i.val) t.store.queue = requestsOf (16 + i.val) s.store.queue

theorem Apart.refl (i : AccountId) (s : State) : Apart i s s := ⟨.refl s, rfl, rfl, rfl, rfl⟩

theorem Apart.trans {i : AccountId} {s t u : State} (h : Apart i s t) (k : Apart i t u) : Apart i s u :=
  ⟨h.steady.trans k.steady, k.account.trans h.account, k.slot.trans h.slot, k.accountWrites.trans h.accountWrites,
    k.statementWrites.trans h.statementWrites⟩

theorem Apart.of_blocks {i : AccountId} {s t : State} (himage : t.image = s.image) (htable : t.table = s.table)
    (hstore : t.store = s.store) : Apart i s t :=
  ⟨⟨himage, by rw [hstore], by rw [hstore]⟩, by rw [htable], by rw [htable], by rw [hstore], by rw [hstore]⟩

theorem requestWrite_steady (w : StoreWrite) (awaited : Bool) (s : State) : Steady s (requestWrite w awaited s) := by
  rw [requestWrite_eq]
  exact ⟨rfl, rfl, rfl⟩

theorem raiseNotice_apart (k : AccountId) (c : Cause) (p : Nat) (s : State) : Apart k s (raiseNotice c p s) :=
  .of_blocks (by simp) (by simp) (by simp)

section
variable {i h : AccountId} (hne : i ≠ h)
include hne

theorem requestWrite_account_apart (x : AccountRecord) (s : State) : Apart h s (requestWrite (.account i x) false s) := by
  have hval : i.val ≠ h.val := fun he => hne (Fin.ext he)
  rw [requestWrite_eq]
  exact ⟨⟨rfl, rfl, rfl⟩, rfl, rfl, requestsOf_requested_other (by exact hval) false _,
    requestsOf_requested_other (by simp only [StoreWrite.recordNumber]; omega) false _⟩

theorem requestWrite_statement_apart (x : Option Statement) (s : State) : Apart h s (requestWrite (.statement i x) false s) := by
  have hval : i.val ≠ h.val := fun he => hne (Fin.ext he)
  rw [requestWrite_eq]
  exact ⟨⟨rfl, rfl, rfl⟩, rfl, rfl, requestsOf_requested_other (by simp only [StoreWrite.recordNumber]; omega) false _,
    requestsOf_requested_other (by simp only [StoreWrite.recordNumber]; omega) false _⟩

theorem setSlot_apart (x : Option Statement) (s : State) : Apart h s (setSlot i x s) :=
  ⟨⟨rfl, rfl, rfl⟩, rfl, by simp [setSlot, Table.get_set, hne], rfl, rfl⟩

theorem onAccount_apart (f : Account → Account) (s : State) : Apart h s (onAccount i f s) :=
  ⟨⟨rfl, rfl, rfl⟩, by simp [onAccount, Table.get_modify, hne], rfl, rfl, rfl⟩

theorem restoreStatement_apart (s : State) : Apart h s (restoreStatement s i) := by
  unfold restoreStatement
  dsimp only
  split
  · split
    · exact setSlot_apart hne _ s
    · exact (setSlot_apart hne _ s).trans (requestWrite_statement_apart hne _ _)
  · exact setSlot_apart hne _ s

theorem freshAccount_apart (s : State) : Apart h s (freshAccount s i) :=
  (onAccount_apart hne _ s).trans ((raiseNotice_apart h _ _ _).trans (requestWrite_account_apart hne _ _))

theorem restoreAccount_apart (s : State) : Apart h s (restoreAccount s i) := by
  unfold restoreAccount
  split
  · split
    · exact onAccount_apart hne _ s
    · exact freshAccount_apart hne s
  · exact freshAccount_apart hne s
  · exact onAccount_apart hne _ s

theorem completeCut_apart (st : Statement) (s : State) : Apart h s (completeCut i st s) :=
  (onAccount_apart hne _ s).trans (requestWrite_account_apart hne _ _)

theorem restoreCut_apart (s : State) : Apart h s (restoreCut s i) := by
  unfold restoreCut
  split
  · split
    · exact completeCut_apart hne _ s
    · exact .refl h s
  · exact .refl h s

end

/-- One account among all: what its step finds is as at the start, and what it leaves stays. -/
theorem foldl_split {f : State → AccountId → State} (hf : ∀ i h, i ≠ h → ∀ s, Apart h s (f s i)) (i : AccountId) (s : State) :
    ∃ u, Apart i s u ∧ Apart i (f u i) (allAccounts.foldl f s) := by
  have hothers : ∀ l : List AccountId, i ∉ l → ∀ t, Apart i t (l.foldl f t) := by
    intro l
    induction l with
    | nil => exact fun _ t => .refl i t
    | cons x l ih =>
      intro hnot t
      obtain ⟨hne, hl⟩ := not_or.mp (mt List.mem_cons.mpr hnot)
      exact (hf x i (Ne.symm hne) t).trans (ih hl _)
  have hall : ∀ x : AccountId, x ∈ allAccounts := by decide
  have hnodup : allAccounts.Nodup := by decide
  obtain ⟨before, after, hsplit⟩ := List.append_of_mem (hall i)
  rw [hsplit, List.nodup_append, List.nodup_cons] at hnodup
  obtain ⟨-, ⟨hafter, -⟩, hcross⟩ := hnodup
  refine ⟨before.foldl f s, hothers before (fun hi => hcross i hi i (List.mem_cons_self ..) rfl) s, ?_⟩
  rw [hsplit, List.foldl_append, List.foldl_cons]
  exact hothers after hafter _

end Sys2Proof.Restoring

namespace Sys2Proof.Restoring

open Sys2Proof Sys2Proof.Machine Sys2Proof.Notices Sys2Proof.Reception Sys2Proof.Requests Sys2Proof.Cuts Sys2Proof.EngineUnit

/-! ## One account restored (R70 to R73) -/

/-- A step that leaves every other account also leaves what restore reads. -/
theorem steady_of_apart {f : State → AccountId → State} (hf : ∀ i h, i ≠ h → ∀ s, Apart h s (f s i)) (s : State) (i : AccountId) :
    Steady s (f s i) := by
  obtain ⟨h, hne⟩ := exists_ne i
  exact (hf i h (Ne.symm hne) s).steady

theorem foldl_steady {f : State → AccountId → State} (hf : ∀ i h, i ≠ h → ∀ s, Apart h s (f s i)) (s : State) :
    Steady s (allAccounts.foldl f s) :=
  Effects.foldl_induction (P := Steady s) (fun t i ht => ht.trans (steady_of_apart hf t i)) allAccounts (.refl s)

/-- The account's record is blank, or of another unit. -/
def Fresh (s : State) (i : AccountId) : Prop :=
  s.store.contents.accounts.get i = .blank
    ∨ ∃ r, s.store.contents.accounts.get i = .valid r ∧ r.unit ≠ (s.image.accounts.get i).unit

theorem Steady.fresh {s t : State} (h : Steady s t) (i : AccountId) : Fresh t i ↔ Fresh s i := by
  rw [Fresh, Fresh, h.image, h.contents]

section
variable {s : State} {i : AccountId}

/-! ### The statement (R71) -/

theorem restoreStatement_self (s : State) (i : AccountId) :
    (restoreStatement s i).table.slots.get i = restoredSlot (s.store.contents.statements.get i)
      ∧ requestsOf i.val (restoreStatement s i).store.queue = requestsOf i.val s.store.queue := by
  have hset : (setSlot i (restoredSlot (s.store.contents.statements.get i)) s).table.slots.get i =
      restoredSlot (s.store.contents.statements.get i) := by
    simp [setSlot]
  unfold restoreStatement
  dsimp only
  split
  · next st hcell =>
    split
    · exact ⟨hset, rfl⟩
    · rw [requestWrite_eq]
      exact ⟨hset, requestsOf_requested_other (by simp only [StoreWrite.recordNumber]; omega) false _⟩
  · exact ⟨hset, rfl⟩

theorem restoreStatement_rewritten {st : Statement} (hcell : s.store.contents.statements.get i = .valid (some st))
    (hfinal : st.final = false) (hq : requestsOf (16 + i.val) s.store.queue = []) :
    requestsOf (16 + i.val) (restoreStatement s i).store.queue =
      [⟨.statement i (restoredSlot (s.store.contents.statements.get i)), false⟩] := by
  simp only [restoreStatement, hcell, hfinal, Bool.false_eq_true, if_false, requestWrite_eq]
  exact requestsOf_requested (n := 16 + i.val) rfl hq

/-! ### The account (R70, R73) -/

theorem freshAccount_self (s : State) (i : AccountId) :
    (freshAccount s i).table.accounts.get i = ⟨s.freshTenancy i, .occupied, Settled.zero, none, false⟩
      ∧ (freshAccount s i).table.slots = s.table.slots
      ∧ requestsOf (16 + i.val) (freshAccount s i).store.queue = requestsOf (16 + i.val) s.store.queue
      ∧ (requestsOf i.val s.store.queue = [] → requestsOf i.val (freshAccount s i).store.queue =
          [⟨.account i ⟨(s.image.accounts.get i).unit, s.freshTenancy i, .occupied, Settled.zero⟩, false⟩]) := by
  simp only [freshAccount, requestWrite_eq, raiseNotice_keeps]
  refine ⟨by simp [onAccount], by simp [onAccount], ?_, fun hq => ?_⟩
  · exact requestsOf_requested_other (by simp only [StoreWrite.recordNumber]; omega) false _
  · rw [requestsOf_requested (n := i.val) rfl (by exact hq)]
    simp [State.accountRecord, onAccount]

/-- What a step makes of the account, where it leaves the statement and its requests. -/
structure Becomes (i : AccountId) (a : Account) (s t : State) : Prop where
  account : t.table.accounts.get i = a
  slot : t.table.slots.get i = s.table.slots.get i
  statementWrites : requestsOf (16 + i.val) t.store.queue = requestsOf (16 + i.val) s.store.queue

theorem onAccount_becomes (a : Account) (s : State) (i : AccountId) : Becomes i a s (onAccount i (fun _ => a) s) :=
  ⟨by simp [onAccount], rfl, rfl⟩

theorem restoreAccount_kept {r : AccountRecord} (hr : s.store.contents.accounts.get i = .valid r)
    (hunit : r.unit = (s.image.accounts.get i).unit) :
    Becomes i ⟨r.tenancy, r.status, ⟨r.settled.last, r.settled.figures.masked (s.image.accounts.get i).mask⟩, none, false⟩ s
        (restoreAccount s i)
      ∧ requestsOf i.val (restoreAccount s i).store.queue = requestsOf i.val s.store.queue := by
  simp only [restoreAccount, hr, if_pos hunit]
  exact ⟨onAccount_becomes .., rfl⟩

theorem restoreAccount_fresh (h : Fresh s i) : restoreAccount s i = freshAccount s i := by
  obtain hblank | ⟨r, hr, hunit⟩ := h
  · simp only [restoreAccount, hblank]
  · simp only [restoreAccount, hr, if_neg hunit]

theorem restoreAccount_damaged (h : s.store.contents.accounts.get i = .damaged) :
    Becomes i ⟨s.freshTenancy i, .occupied, Settled.zero, none, true⟩ s (restoreAccount s i)
      ∧ requestsOf i.val (restoreAccount s i).store.queue = requestsOf i.val s.store.queue := by
  simp only [restoreAccount, h]
  exact ⟨onAccount_becomes .., rfl⟩

/-! ### An interrupted cut (R72) -/

theorem restoreCut_none (h : ∀ r st, s.store.contents.accounts.get i = .valid r → r.unit = (s.image.accounts.get i).unit →
    s.table.slots.get i = some st → st.tenancy < r.tenancy) : restoreCut s i = s := by
  unfold restoreCut
  split
  · next r st hr hst =>
    refine if_neg fun hcut => ?_
    obtain ⟨hunit, hle⟩ : r.unit = (s.image.accounts.get i).unit ∧ r.tenancy ≤ st.tenancy := by simpa using hcut
    exact absurd hle (Nat.not_le.mpr (h r st hr hunit hst))
  · rfl

theorem restoreCut_completes {r : AccountRecord} {st : Statement} (hr : s.store.contents.accounts.get i = .valid r)
    (hunit : r.unit = (s.image.accounts.get i).unit) (hst : s.table.slots.get i = some st) (hle : r.tenancy ≤ st.tenancy) :
    restoreCut s i = completeCut i st s := by
  simp only [restoreCut, hr, hst]
  exact if_pos (by simp [hunit, hle])

theorem completeCut_self (st : Statement) (s : State) (i : AccountId) :
    Becomes i { s.table.accounts.get i with
        tenancy := st.tenancy + 1, status := st.newStatus, settled := ⟨st.settled.last, Figures.zero⟩ } s (completeCut i st s)
      ∧ (requestsOf i.val s.store.queue = [] → requestsOf i.val (completeCut i st s).store.queue =
          [⟨.account i ⟨(s.image.accounts.get i).unit, st.tenancy + 1, st.newStatus, ⟨st.settled.last, Figures.zero⟩⟩, false⟩]) := by
  simp only [completeCut, requestWrite_eq]
  refine ⟨⟨by simp [onAccount], rfl, ?_⟩, fun hq => ?_⟩
  · exact requestsOf_requested_other (by simp only [StoreWrite.recordNumber]; omega) false _
  · rw [requestsOf_requested (n := i.val) rfl (by exact hq)]
    simp [State.accountRecord, onAccount]

end

/-! ## The three passes of restore -/

/-- The state with statements, accounts and interrupted cuts restored. -/
def restoredAll (s : State) : State :=
  allAccounts.foldl restoreCut (allAccounts.foldl restoreAccount (allAccounts.foldl restoreStatement s))

theorem restoredAll_steady (s : State) : Steady s (restoredAll s) :=
  (foldl_steady (fun _ _ hne t => restoreStatement_apart hne t) s).trans <|
    (foldl_steady (fun _ _ hne t => restoreAccount_apart hne t) _).trans (foldl_steady (fun _ _ hne t => restoreCut_apart hne t) _)

/-- The states in which the account and its cut are restored. -/
structure Passes (i : AccountId) (s a b : State) : Prop where
  account : Steady s a
  cut : Steady s b
  slot : a.table.slots.get i = restoredSlot (s.store.contents.statements.get i)
  accountWrites : requestsOf i.val a.store.queue = requestsOf i.val s.store.queue
  statementWrites : ∀ st, s.store.contents.statements.get i = .valid (some st) → st.final = false →
    requestsOf (16 + i.val) s.store.queue = [] → requestsOf (16 + i.val) a.store.queue =
      [⟨.statement i (restoredSlot (s.store.contents.statements.get i)), false⟩]
  before : Apart i (restoreAccount a i) b
  after : Apart i (restoreCut b i) (restoredAll s)

theorem exists_passes (i : AccountId) (s : State) : ∃ a b, Passes i s a b := by
  obtain ⟨u, hu, hslots⟩ := foldl_split (fun _ _ hne t => restoreStatement_apart hne t) i s
  obtain ⟨a, ha, haccounts⟩ := foldl_split (fun _ _ hne t => restoreAccount_apart hne t) i (allAccounts.foldl restoreStatement s)
  obtain ⟨b, hb, hcuts⟩ := foldl_split (fun _ _ hne t => restoreCut_apart hne t) i
    (allAccounts.foldl restoreAccount (allAccounts.foldl restoreStatement s))
  obtain ⟨hslot, hwrites⟩ := restoreStatement_self u i
  have hua : Apart i (restoreStatement u i) a := hslots.trans ha
  have hsa : Steady s a := (foldl_steady (fun _ _ hne t => restoreStatement_apart hne t) s).trans ha.steady
  have hab : Apart i (restoreAccount a i) b := haccounts.trans hb
  refine ⟨a, b, hsa, (hsa.trans (steady_of_apart (fun _ _ hne t => restoreAccount_apart hne t) a i)).trans hab.steady, ?_, ?_,
    fun st hcell hfinal hq => ?_, hab, hcuts⟩
  · rw [hua.slot, hslot, hu.steady.contents]
  · rw [hua.accountWrites, hwrites, hu.accountWrites]
  · rw [hua.statementWrites, restoreStatement_rewritten (by rw [hu.steady.contents]; exact hcell) hfinal
      (by rw [hu.statementWrites]; exact hq), hu.steady.contents]

end Sys2Proof.Restoring

namespace Sys2Proof.Restoring

open Sys2Proof Sys2Proof.Machine Sys2Proof.Notices Sys2Proof.Reception Sys2Proof.Requests Sys2Proof.Cuts Sys2Proof.EngineUnit

/-! ## The start on a VALID image (R211) -/

/-- The state with the image held and its digest computed. -/
def loaded (img : Image) (s : State) : State := { s with
  image := img
  control := { s.control with load := .valid }
  roster := { s.roster with planDigest := planDigest img } }

/-- The state that restore starts from: RESTARTED raised. -/
def restarted (img : Image) (s : State) : State := raiseNotice .restarted s.control.resetCause.code (loaded img s)

section
variable {s : State} {bytes : List Byte}

theorem exec_loadComplete (hpower : s.control.power = .running) (hm : s.interval.membership = .starting) (hload : s.control.load = .reading) :
    exec (.loadComplete bytes) s = .next (finishLoad bytes s) := by
  show execLoadComplete bytes s = _
  rw [execLoadComplete, if_pos (by simp [State.powered, hpower, hm, hload])]

theorem exec_loadComplete_valid (hpower : s.control.power = .running) (hm : s.interval.membership = .starting)
    (hload : s.control.load = .reading) (hvalid : firstFailed bytes = none) :
    exec (.loadComplete bytes) s = .next (enterListening (restore (restarted (parseImage bytes) s))) := by
  rw [exec_loadComplete hpower hm hload, finishLoad, hvalid]
  rfl

/-- What restore leaves, before its fault. -/
def undamaged (s : State) : State := { restoredAll s with
  table := { (restoredAll s).table with holdsAccounts := true, nodeLast := restoredNode s.store.contents.node }
  channels := Table.ofFn (fun ch => Channel.fresh (restoredLifetime (s.store.contents.lifetimes.get ch))) }

theorem restore_eq (s : State) : restore s = raiseDamaged (undamaged s) := by
  simp only [restore, undamaged, restoredAll, State.onTable]

theorem restored_accounts (s : State) : (enterListening (restore s)).table.accounts = (restoredAll s).table.accounts
    ∧ (enterListening (restore s)).table.slots = (restoredAll s).table.slots
    ∧ (enterListening (restore s)).store = (restoredAll s).store ∧ (enterListening (restore s)).image = s.image := by
  refine ⟨?_, ?_, ?_, ?_⟩
  · simp [enterListening, setMonitor, restore_eq, undamaged]
  · simp [enterListening, setMonitor, restore_eq, undamaged]
  · simp [enterListening, setMonitor, restore_eq, undamaged]
  · simp [enterListening, setMonitor]

theorem restarted_apart (img : Image) (s : State) : (restarted img s).image = img ∧ (restarted img s).table = s.table
    ∧ (restarted img s).store = s.store := by
  simp [restarted, loaded]

end

/-- The statement restored from its record. -/
theorem restoredSlot_eq (cell : Cell (Option Statement)) : restoredSlot cell = match cell with
    | .valid (some st) => some (if st.final then st else { st with final := true, incomplete := true })
    | _ => none := by
  cases cell with
  | blank => rfl
  | damaged => rfl
  | valid x =>
    cases x with
    | none => rfl
    | some st => cases hfinal : st.final <;> simp [restoredSlot, hfinal]

/-- The tenancy number above a statement's, 1 where there is none. -/
def numberAfter : Option Statement → Nat
  | some st => st.tenancy + 1
  | none => 1

theorem freshTenancy_eq (s : State) (i : AccountId) : s.freshTenancy i = numberAfter (s.table.slots.get i) := by
  unfold State.freshTenancy
  cases s.table.slots.get i <;> rfl

/-! ## One account after restore -/

section
variable {i : AccountId} {s : State}

theorem restoreAccount_slot (s : State) (i : AccountId) : (restoreAccount s i).table.slots.get i = s.table.slots.get i
    ∧ requestsOf (16 + i.val) (restoreAccount s i).store.queue = requestsOf (16 + i.val) s.store.queue := by
  by_cases hfresh : Fresh s i
  · obtain ⟨-, hslots, hwrites, -⟩ := freshAccount_self s i
    rw [restoreAccount_fresh hfresh, hslots]
    exact ⟨rfl, hwrites⟩
  · cases hcell : s.store.contents.accounts.get i with
    | blank => exact absurd (.inl hcell) hfresh
    | damaged =>
      obtain ⟨h, -⟩ := restoreAccount_damaged hcell
      exact ⟨h.slot, h.statementWrites⟩
    | valid r =>
      by_cases hunit : r.unit = (s.image.accounts.get i).unit
      · obtain ⟨h, -⟩ := restoreAccount_kept hcell hunit
        exact ⟨h.slot, h.statementWrites⟩
      · exact absurd (.inr ⟨r, hcell, hunit⟩) hfresh

theorem restoreCut_slot (s : State) (i : AccountId) : (restoreCut s i).table.slots.get i = s.table.slots.get i
    ∧ requestsOf (16 + i.val) (restoreCut s i).store.queue = requestsOf (16 + i.val) s.store.queue := by
  unfold restoreCut
  split
  · next r st _ _ =>
    split
    · obtain ⟨h, -⟩ := completeCut_self st s i
      exact ⟨h.slot, h.statementWrites⟩
    · exact ⟨rfl, rfl⟩
  · exact ⟨rfl, rfl⟩

section
variable {a b : State} (h : Passes i s a b)
include h

theorem Passes.cutSlot : b.table.slots.get i = restoredSlot (s.store.contents.statements.get i) := by
  rw [h.before.slot, (restoreAccount_slot a i).1, h.slot]

/-- The account that no interrupted cut concerns stays as its record gives it. -/
theorem Passes.uncut (hno : ∀ r st, s.store.contents.accounts.get i = .valid r → r.unit = (s.image.accounts.get i).unit →
      restoredSlot (s.store.contents.statements.get i) = some st → st.tenancy < r.tenancy) :
    (restoredAll s).table.accounts.get i = (restoreAccount a i).table.accounts.get i
      ∧ requestsOf i.val (restoredAll s).store.queue = requestsOf i.val (restoreAccount a i).store.queue := by
  have hcut : restoreCut b i = b := restoreCut_none fun r st hr hunit hst => by
    rw [h.cut.contents] at hr
    rw [h.cut.image] at hunit
    exact hno r st hr hunit (h.cutSlot.symm.trans hst)
  rw [h.after.account, h.after.accountWrites, hcut, h.before.account, h.before.accountWrites]
  exact ⟨rfl, rfl⟩

end

theorem restoredAll_slot (s : State) (i : AccountId) :
    (restoredAll s).table.slots.get i = restoredSlot (s.store.contents.statements.get i) := by
  obtain ⟨a, b, h⟩ := exists_passes i s
  rw [h.after.slot, (restoreCut_slot b i).1, h.cutSlot]

theorem restoredAll_rewritten {st : Statement} (hcell : s.store.contents.statements.get i = .valid (some st)) (hfinal : st.final = false)
    (hq : s.store.queue = []) : requestsOf (16 + i.val) (restoredAll s).store.queue =
      [⟨.statement i (restoredSlot (s.store.contents.statements.get i)), false⟩] := by
  obtain ⟨a, b, h⟩ := exists_passes i s
  rw [h.after.statementWrites, (restoreCut_slot b i).2, h.before.statementWrites, (restoreAccount_slot a i).2]
  exact h.statementWrites st hcell hfinal (by rw [hq]; rfl)

/-- A record of the unit, above its statement's tenancy. -/
theorem restoredAll_kept {r : AccountRecord} (hr : s.store.contents.accounts.get i = .valid r)
    (hunit : r.unit = (s.image.accounts.get i).unit)
    (habove : ∀ st, restoredSlot (s.store.contents.statements.get i) = some st → st.tenancy < r.tenancy) :
    (restoredAll s).table.accounts.get i =
      ⟨r.tenancy, r.status, ⟨r.settled.last, r.settled.figures.masked (s.image.accounts.get i).mask⟩, none, false⟩ := by
  obtain ⟨a, b, h⟩ := exists_passes i s
  obtain ⟨hkept, -⟩ := restoreAccount_kept (s := a) (i := i) (by rw [h.account.contents]; exact hr) (by rw [h.account.image]; exact hunit)
  have hno : ∀ r' st, s.store.contents.accounts.get i = .valid r' → r'.unit = (s.image.accounts.get i).unit →
      restoredSlot (s.store.contents.statements.get i) = some st → st.tenancy < r'.tenancy := fun r' st hr' _ hst => by
    obtain rfl : r = r' := by simpa [hr] using hr'
    exact habove st hst
  rw [(h.uncut hno).1, hkept.account, h.account.image]

/-- A record of the unit that a statement has overtaken: the cut is completed. -/
theorem restoredAll_cut {r : AccountRecord} {st : Statement} (hr : s.store.contents.accounts.get i = .valid r)
    (hunit : r.unit = (s.image.accounts.get i).unit) (hst : restoredSlot (s.store.contents.statements.get i) = some st)
    (hle : r.tenancy ≤ st.tenancy) :
    (restoredAll s).table.accounts.get i = ⟨st.tenancy + 1, st.newStatus, ⟨st.settled.last, Figures.zero⟩, none, false⟩
      ∧ (s.store.queue = [] → requestsOf i.val (restoredAll s).store.queue =
          [⟨.account i ⟨(s.image.accounts.get i).unit, st.tenancy + 1, st.newStatus, ⟨st.settled.last, Figures.zero⟩⟩, false⟩]) := by
  obtain ⟨a, b, h⟩ := exists_passes i s
  obtain ⟨hkept, hwrites⟩ := restoreAccount_kept (s := a) (i := i) (by rw [h.account.contents]; exact hr)
    (by rw [h.account.image]; exact hunit)
  have hcut : restoreCut b i = completeCut i st b :=
    restoreCut_completes (by rw [h.cut.contents]; exact hr) (by rw [h.cut.image]; exact hunit) (h.cutSlot.trans hst) hle
  obtain ⟨hdone, hrequests⟩ := completeCut_self st b i
  rw [h.after.account, h.after.accountWrites, hcut, hdone.account, h.before.account, hkept.account]
  refine ⟨rfl, fun hq => ?_⟩
  rw [hrequests (by rw [h.before.accountWrites, hwrites, h.accountWrites, hq]; rfl), h.cut.image]

theorem Passes.freshTenancy {a b : State} (h : Passes i s a b) : a.freshTenancy i =
    numberAfter (restoredSlot (s.store.contents.statements.get i)) := by
  rw [freshTenancy_eq, h.slot]

theorem restoredAll_fresh (hfresh : Fresh s i) {next : Nat} (hnext : next = numberAfter (restoredSlot (s.store.contents.statements.get i))) : (restoredAll s).table.accounts.get i = ⟨next, .occupied, Settled.zero, none, false⟩
      ∧ (s.store.queue = [] → requestsOf i.val (restoredAll s).store.queue =
          [⟨.account i ⟨(s.image.accounts.get i).unit, next, .occupied, Settled.zero⟩, false⟩]) := by
  obtain ⟨a, b, h⟩ := exists_passes i s
  obtain ⟨haccount, -, -, hwrites⟩ := freshAccount_self a i
  have hno : ∀ r st, s.store.contents.accounts.get i = .valid r → r.unit = (s.image.accounts.get i).unit →
      restoredSlot (s.store.contents.statements.get i) = some st → st.tenancy < r.tenancy := fun r st hr hunit _ => by
    obtain hblank | ⟨r', hr', hunit'⟩ := hfresh
    · simp [hblank] at hr
    · obtain rfl : r' = r := by simpa [hr'] using hr
      exact absurd hunit hunit'
  obtain ⟨hsame, hsameWrites⟩ := h.uncut hno
  rw [hsame, hsameWrites, restoreAccount_fresh ((h.account.fresh i).mpr hfresh), haccount, h.freshTenancy.trans hnext.symm]
  refine ⟨rfl, fun hq => ?_⟩
  rw [hwrites (by rw [h.accountWrites, hq]; rfl), h.account.image, h.freshTenancy.trans hnext.symm]

theorem restoredAll_damaged (hdamaged : s.store.contents.accounts.get i = .damaged) {next : Nat}
    (hnext : next = numberAfter (restoredSlot (s.store.contents.statements.get i))) : (restoredAll s).table.accounts.get i = ⟨next, .occupied, Settled.zero, none, true⟩
      ∧ (s.store.queue = [] → requestsOf i.val (restoredAll s).store.queue = []) := by
  obtain ⟨a, b, h⟩ := exists_passes i s
  obtain ⟨hbecomes, hwrites⟩ := restoreAccount_damaged (s := a) (i := i) (by rw [h.account.contents]; exact hdamaged)
  obtain ⟨hsame, hsameWrites⟩ := h.uncut fun r st hr _ _ => by simp [hdamaged] at hr
  rw [hsame, hsameWrites, hbecomes.account, hwrites, h.freshTenancy.trans hnext.symm, h.accountWrites]
  exact ⟨rfl, fun hq => by rw [hq]; rfl⟩

end

/-- Settles O12: the statement, the account by its record, and what is written. -/
theorem restoreBuildsAccountsAndStatements : Obligations.RestoreBuildsAccountsAndStatements := by
  intro bytes s i hpower hm hload hvalid
  let u := restarted (parseImage bytes) s
  obtain ⟨himage, htable, hstore⟩ := restarted_apart (parseImage bytes) s
  obtain ⟨haccounts, hslots, hkept, hheld⟩ := restored_accounts u
  refine ⟨_, exec_loadComplete_valid hpower hm hload hvalid, ?_⟩
  have hcontents : u.store.contents = s.store.contents := by rw [hstore]
  have hcell := restoredSlot_eq (s.store.contents.statements.get i)
  rw [haccounts, hslots, hkept, hheld, himage]
  intro slot next unit becomes requested' fresh
  have hslot : restoredSlot (u.store.contents.statements.get i) = slot :=
    (congrArg (fun c : StoreContents => restoredSlot (c.statements.get i)) hcontents).trans hcell
  have hunit : ∀ r : AccountRecord, r.unit = (u.image.accounts.get i).unit ↔ r.unit = unit := fun r => by rw [himage]
  have hfresh : Fresh u i ↔ fresh := by rw [Fresh, hcontents, himage]
  have hnext : next = numberAfter (restoredSlot (u.store.contents.statements.get i)) := (congrArg numberAfter hslot).symm
  have hqueue : s.store.queue = [] → u.store.queue = [] := fun hq => by rw [hstore, hq]
  refine ⟨(restoredAll_slot u i).trans hslot, fun r hr hr' habove => ?_, fun r st hr hr' hst hle => ?_, fun hf => ?_, fun hd => ?_,
    fun hq => ⟨fun st hst hfinal => ?_, fun hf => ?_, fun r st hr hr' hst hle => ?_, fun hd => ?_⟩⟩
  · have hkept := restoredAll_kept (s := u) (by rw [hcontents]; exact hr) ((hunit r).mpr hr') fun st hst => habove st (hslot.symm.trans hst)
    rw [himage] at hkept
    exact hkept
  · exact (restoredAll_cut (s := u) (by rw [hcontents]; exact hr) ((hunit r).mpr hr') (hslot.trans hst) hle).1
  · exact (restoredAll_fresh (hfresh.mpr hf) hnext).1
  · exact (restoredAll_damaged (s := u) (by rw [hcontents]; exact hd) hnext).1
  · have hwrites := restoredAll_rewritten (s := u) (by rw [hcontents]; exact hst) hfinal (hqueue hq)
    rw [hslot] at hwrites
    exact hwrites
  · have hwrites := (restoredAll_fresh (hfresh.mpr hf) hnext).2 (hqueue hq)
    rw [himage] at hwrites
    exact hwrites
  · have hwrites := (restoredAll_cut (s := u) (by rw [hcontents]; exact hr) ((hunit r).mpr hr') (hslot.trans hst) hle).2 (hqueue hq)
    rw [himage] at hwrites
    exact hwrites
  · exact (restoredAll_damaged (s := u) (by rw [hcontents]; exact hd) hnext).2 (hqueue hq)

end Sys2Proof.Restoring

namespace Sys2Proof.Restoring

open Sys2Proof Sys2Proof.Machine Sys2Proof.Notices Sys2Proof.ShareLine Sys2Proof.Reception Sys2Proof.Requests Sys2Proof.CrossChecks
open Sys2Proof.EngineUnit Sys2Proof.RingUnit

/-! ## The notices of restore (R70) -/

/-- The account's record is blank, or of another unit, as a test. -/
def freshIn (c : StoreContents) (img : Image) (i : AccountId) : Bool :=
  match c.accounts.get i with
  | .valid r => r.unit != (img.accounts.get i).unit
  | .blank => true
  | .damaged => false

theorem freshIn_iff {s : State} {i : AccountId} : freshIn s.store.contents s.image i = true ↔ Fresh s i := by
  unfold freshIn Fresh
  cases s.store.contents.accounts.get i <;> simp

/-- What is shown of the notice of a fresh account. -/
def freshNotice (img : Image) (openNumber : Nat) (i : AccountId) : Cause × Nat × Nat × CondSending :=
  (.accountFresh, i.val * 4096 + (img.accounts.get i).unit, openNumber, .unsent)

/-- A step raises notices at most: the fault record and the count of faults stay. -/
structure Faultless (s t : State) : Prop where
  record : t.cond.record = s.cond.record
  raised : t.cond.counters.faultsRaised = s.cond.counters.faultsRaised

theorem Faultless.trans {s t u : State} (h : Faultless s t) (k : Faultless t u) : Faultless s u :=
  ⟨k.record.trans h.record, k.raised.trans h.raised⟩

theorem Faultless.of_cond {s t : State} (h : t.cond = s.cond) : Faultless s t := ⟨by rw [h], by rw [h]⟩

theorem raiseNotice_faultless (c : Cause) (p : Nat) (s : State) : Faultless s (raiseNotice c p s) := by
  refine ⟨raiseNotice_record .., ?_⟩
  have hdisplace : (displaceNotice s).cond.counters.faultsRaised = s.cond.counters.faultsRaised := by
    unfold displaceNotice releaseLatch
    (repeat' split) <;> rfl
  unfold raiseNotice raiseNoticeAt
  split
  · rfl
  · exact hdisplace

theorem freshAccount_cond (s : State) (i : AccountId) : ∃ u : State, u.cond = s.cond ∧ u.interval = s.interval
    ∧ (freshAccount s i).cond = (raiseNotice .accountFresh (i.val * 4096 + (s.image.accounts.get i).unit) u).cond :=
  ⟨onAccount i (fun _ => ⟨s.freshTenancy i, .occupied, Settled.zero, none, false⟩) s, rfl, rfl, by simp [freshAccount]⟩

theorem restoreAccount_old {s : State} {i : AccountId} (h : ¬ Fresh s i) : (restoreAccount s i).cond = s.cond := by
  unfold restoreAccount
  split
  · next r hr =>
    split
    · rfl
    · next hunit => exact absurd (.inr ⟨r, hr, hunit⟩) h
  · next hr => exact absurd (.inl hr) h
  · rfl

theorem restoreAccount_faultless (s : State) (i : AccountId) : Faultless s (restoreAccount s i) := by
  by_cases hfresh : Fresh s i
  · obtain ⟨u, hu, -, hcond⟩ := freshAccount_cond s i
    rw [restoreAccount_fresh hfresh]
    exact (Faultless.of_cond hu).trans ((raiseNotice_faultless _ _ u).trans (.of_cond hcond))
  · exact .of_cond (restoreAccount_old hfresh)

/-- A fresh account shows one notice more, any other none. -/
theorem restoreAccount_shown {s : State} {i : AccountId} (hm : s.interval.membership ≠ .unconfigured)
    (hroom : freshIn s.store.contents s.image i = true → s.cond.notices.length < 8) :
    (restoreAccount s i).cond.notices.map shown = s.cond.notices.map shown
      ++ if freshIn s.store.contents s.image i then [freshNotice s.image s.interval.openNumber i] else [] := by
  by_cases hfresh : freshIn s.store.contents s.image i = true
  · obtain ⟨u, hu, hi, hcond⟩ := freshAccount_cond s i
    rw [restoreAccount_fresh (freshIn_iff.mp hfresh), hcond, raiseNotice_of_room (by rw [hi]; exact hm) (by rw [hu]; exact hroom hfresh),
      if_pos hfresh]
    simp [hu, hi, shown, freshNotice]
  · rw [restoreAccount_old (mt freshIn_iff.mpr hfresh), if_neg hfresh, List.append_nil]

theorem restoreAccounts_shown (l : List AccountId) {s : State} (hm : s.interval.membership ≠ .unconfigured)
    (hroom : s.cond.notices.length + (l.filter (freshIn s.store.contents s.image)).length ≤ 8) :
    (l.foldl restoreAccount s).cond.notices.map shown = s.cond.notices.map shown
      ++ (l.filter (freshIn s.store.contents s.image)).map (freshNotice s.image s.interval.openNumber) := by
  induction l generalizing s with
  | nil => simp
  | cons i l ih =>
    have hsteady : Steady s (restoreAccount s i) := steady_of_apart (fun _ _ hne t => restoreAccount_apart hne t) s i
    have hfirst := restoreAccount_shown (i := i) hm fun hfresh => by
      rw [List.filter_cons_of_pos hfresh, List.length_cons] at hroom
      omega
    have hlength := congrArg List.length hfirst
    rw [List.length_append, List.length_map, List.length_map] at hlength
    have hinterval : (restoreAccount s i).interval = s.interval := by simp
    have hrest := ih (s := restoreAccount s i) (by rw [hinterval]; exact hm)
    rw [hsteady.contents, hsteady.image, hinterval, hfirst] at hrest
    rw [List.foldl_cons]
    by_cases hfresh : freshIn s.store.contents s.image i = true
    · rw [if_pos hfresh] at hrest hlength
      rw [List.filter_cons_of_pos hfresh] at hroom ⊢
      rw [hrest (by simp only [List.length_cons, List.length_nil] at hroom hlength; omega), List.map_cons, List.append_assoc]
      rfl
    · rw [if_neg hfresh] at hrest hlength
      rw [List.filter_cons_of_neg hfresh] at hroom ⊢
      rw [hrest (by simp only [List.length_nil] at hlength; omega), List.append_nil]

/-! ## The fault of damaged records (R74) -/

theorem isDamaged_eq {α : Type} [DecidableEq α] (x : Cell α) : x.isDamaged = decide (x = .damaged) := by
  cases x <;> simp [Cell.isDamaged]

theorem damagedRecords_eq (c : StoreContents) : c.damagedRecords =
    (allAccounts.filter (fun i => c.accounts.get i = .damaged)).map (fun i => i.val)
      ++ (allAccounts.filter (fun i => c.statements.get i = .damaged)).map (fun i => 16 + i.val)
      ++ (allChannels.filter (fun ch => c.lifetimes.get ch = .damaged)).map (fun ch => 32 + ch.val)
      ++ (if c.node = .damaged then [40] else []) := by
  simp only [StoreContents.damagedRecords, isDamaged_eq, decide_eq_true_eq]

/-- What the fault of damaged records changes, in a node that is starting. -/
theorem raiseDamaged_starting {s : State} (hm : s.interval.membership = .starting) :
    ∃ x, raiseDamaged s = { s with cond := x } ∧ x.notices = s.cond.notices
      ∧ (s.store.contents.damagedRecords = [] → x = s.cond)
      ∧ ∀ lowest others, s.store.contents.damagedRecords = lowest :: others → s.cond.record = none →
          x.counters.faultsRaised = bump s.cond.counters.faultsRaised
            ∧ ∃ n, x.record = some ⟨⟨n, .storeDamaged, (others.length + 1) * 256 + lowest, s.interval.openNumber, .unsent⟩, none, none⟩ := by
  have hconfigured : s.interval.membership ≠ .unconfigured := by simp [hm]
  cases hdamaged : s.store.contents.damagedRecords with
  | nil => exact ⟨s.cond, by simp only [raiseDamaged, hdamaged], rfl, fun _ => rfl, by simp⟩
  | cons lowest others =>
    have hraise : raiseDamaged s = placeFault .storeDamaged ((others.length + 1) * 256 + lowest)
        (onCondCounters (fun k => { k with faultsRaised := bump k.faultsRaised }) s) := by
      simp only [raiseDamaged, hdamaged]
      exact raiseFault_of_configured hconfigured ..
    cases hrec : s.cond.record with
    | none =>
      rw [placeFault_first (by exact hrec)] at hraise
      refine ⟨_, hraise, rfl, by simp, fun l o hl _ => ?_⟩
      obtain ⟨rfl, rfl⟩ := List.cons.inj hl
      exact ⟨rfl, _, rfl⟩
    | some r =>
      have hlater : raiseDamaged s = { s with cond := (raiseDamaged s).cond } ∧ (raiseDamaged s).cond.notices = s.cond.notices := by
        rw [hraise, placeFault]
        simp only [onCondCounters, State.onCond, hrec, hm]
        rw [if_neg (by simp), if_neg (by simp)]
        exact ⟨rfl, rfl⟩
      exact ⟨_, hlater.1, hlater.2, by simp, by simp⟩

end Sys2Proof.Restoring

namespace Sys2Proof.Restoring

open Sys2Proof Sys2Proof.Machine Sys2Proof.Notices Sys2Proof.ShareLine Sys2Proof.Reception Sys2Proof.Requests Sys2Proof.CrossChecks
open Sys2Proof.EngineUnit Sys2Proof.RingUnit

/-! ## The blocks after a start (R211) -/

theorem restoredAll_keeps (s : State) :
    (restoredAll s).pending = s.pending ∧ (restoredAll s).control = s.control ∧ (restoredAll s).image = s.image
      ∧ (restoredAll s).interval = s.interval ∧ (restoredAll s).ring = s.ring ∧ (restoredAll s).engine = s.engine
      ∧ (restoredAll s).roster = s.roster ∧ (restoredAll s).line = s.line ∧ (restoredAll s).rx = s.rx
      ∧ (restoredAll s).check = s.check ∧ (restoredAll s).resp = s.resp := by
  simp [restoredAll]

theorem restoredAll_cond (s : State) :
    (restoredAll s).cond = (allAccounts.foldl restoreAccount (allAccounts.foldl restoreStatement s)).cond := by
  simp [restoredAll]

theorem restoredAll_faultless (s : State) : Faultless s (restoredAll s) := by
  have hstatements : Faultless s (allAccounts.foldl restoreStatement s) := .of_cond (by simp)
  have haccounts : Faultless s (allAccounts.foldl restoreAccount (allAccounts.foldl restoreStatement s)) :=
    Effects.foldl_induction (P := Faultless s) (fun t i ht => ht.trans (restoreAccount_faultless t i)) allAccounts hstatements
  exact haccounts.trans (.of_cond (restoredAll_cond s))

theorem restoredAll_shown {s : State} (hm : s.interval.membership ≠ .unconfigured)
    (hroom : s.cond.notices.length + (allAccounts.filter (freshIn s.store.contents s.image)).length ≤ 8) :
    (restoredAll s).cond.notices.map shown = s.cond.notices.map shown
      ++ (allAccounts.filter (freshIn s.store.contents s.image)).map (freshNotice s.image s.interval.openNumber) := by
  have hsteady : Steady s (allAccounts.foldl restoreStatement s) := foldl_steady (fun _ _ hne t => restoreStatement_apart hne t) s
  have hshown := restoreAccounts_shown allAccounts (s := allAccounts.foldl restoreStatement s)
  simp only [restoreStatements_keeps, hsteady.contents] at hshown
  rw [restoredAll_cond]
  exact hshown hm hroom

/-- Every block after restore and the entry to LISTENING, but for the conditions. -/
theorem started_blocks (s : State) (x : CondUnit) :
    let t := enterListening { undamaged s with cond := x }
    t.pending = s.pending ∧ t.control = s.control ∧ t.image = s.image
      ∧ t.interval = { s.interval with membership := .listening, listen := some (s.image.lengthMs + s.image.gatherMs) }
      ∧ t.ring = s.ring ∧ t.engine = s.engine ∧ t.roster = s.roster
      ∧ t.line = { s.line with monitor := .gap, recessive := 0, dominant := 0 }
      ∧ t.rx = s.rx ∧ t.check = s.check ∧ t.resp = s.resp ∧ t.cond = x
      ∧ t.table.holdsAccounts = true ∧ t.table.nodeLast = restoredNode s.store.contents.node
      ∧ t.store = (restoredAll s).store
      ∧ ∀ ch, t.channels.get ch = Channel.fresh (restoredLifetime (s.store.contents.lifetimes.get ch)) := by
  simp only [enterListening, setMonitor, State.onLine, State.onInterval, undamaged, restoredAll_keeps, Table.get_ofFn, implies_true,
    and_self]

theorem restarted_blocks (img : Image) (s : State) :
    let u := restarted img s
    u.pending = s.pending ∧ u.control = { s.control with load := .valid } ∧ u.interval = s.interval ∧ u.ring = s.ring
      ∧ u.engine = s.engine ∧ u.roster = { s.roster with planDigest := planDigest img } ∧ u.line = s.line ∧ u.rx = s.rx
      ∧ u.check = s.check ∧ u.resp = s.resp ∧ Faultless s u := by
  have hfault : Faultless s (restarted img s) :=
    (Faultless.of_cond (s := s) (t := loaded img s) rfl).trans (raiseNotice_faultless _ _ _)
  simp [restarted, loaded] at hfault ⊢
  exact hfault

theorem restarted_shown {img : Image} {s : State} (hm : s.interval.membership ≠ .unconfigured) (hroom : s.cond.notices.length < 8) :
    (restarted img s).cond.notices.map shown = s.cond.notices.map shown
      ++ [(.restarted, s.control.resetCause.code, s.interval.openNumber, .unsent)] := by
  rw [restarted, raiseNotice_of_room (by exact hm) (by exact hroom)]
  simp [loaded, shown]

/-- The notices after a start: RESTARTED, and one for each fresh account. -/
theorem started_shown {img : Image} {s : State} (hm : s.interval.membership ≠ .unconfigured)
    (hroom : s.cond.notices.length + 1 + (allAccounts.filter (freshIn s.store.contents img)).length ≤ 8) :
    (restoredAll (restarted img s)).cond.notices.map shown = s.cond.notices.map shown
      ++ (.restarted, s.control.resetCause.code, s.interval.openNumber, .unsent)
        :: (allAccounts.filter (freshIn s.store.contents img)).map (freshNotice img s.interval.openNumber) := by
  obtain ⟨himage, -, hstore⟩ := restarted_apart img s
  have hinterval : (restarted img s).interval = s.interval := by simp [restarted, loaded]
  have hfirst := restarted_shown (img := img) hm (by omega)
  have hlength := congrArg List.length hfirst
  simp only [List.length_append, List.length_map, List.length_cons, List.length_nil] at hlength
  have hrest := restoredAll_shown (s := restarted img s) (by rw [hinterval]; exact hm)
  rw [hstore, himage, hinterval, hfirst, List.append_assoc] at hrest
  exact hrest (by omega)

/-! ## The start on an INVALID image (R210, R211) -/

theorem firstFailed_range {bytes : List Byte} {n : Nat} (h : firstFailed bytes = some n) : 1 ≤ n ∧ n ≤ 12 := by
  have hlength : ((imageChecks bytes).takeWhile id).length ≤ (imageChecks bytes).length := (List.takeWhile_sublist id).length_le
  have htwelve : (imageChecks bytes).length = 12 := rfl
  unfold firstFailed at h
  dsimp only at h
  split at h
  · cases h
  · have hn := Option.some.inj h
    omega

theorem startInvalid_eq {s : State} {n : Nat} (hm : s.interval.membership = .starting) (hrec : s.cond.record = none) :
    startInvalid n s = { s with
      control := { s.control with load := .invalid n }
      interval := { s.interval with membership := .unconfigured }
      table := { s.table with holdsAccounts := false }
      cond := { s.cond with
        seq := s.nextSeq
        record := some ⟨⟨s.nextSeq, .configInvalid, n, s.interval.openNumber, .unsent⟩, none, none⟩
        counters := { s.cond.counters with faultsRaised := bump s.cond.counters.faultsRaised } } } := by
  have hconfigured : (setLoad (.invalid n) s).interval.membership ≠ .unconfigured := by
    show s.interval.membership ≠ _
    simp [hm]
  rw [startInvalid, raiseFault_of_configured hconfigured, placeFault_first (by exact hrec)]
  rfl

/-- Settles O11: the blocks after a start on a VALID image, and the fault of an INVALID one. -/
theorem loadCompleteStartsOrUnconfigures : Obligations.LoadCompleteStartsOrUnconfigures := by
  refine ⟨fun bytes s hpower hm hload hvalid => ?_, fun bytes n s hpower hm hload hinvalid hrec => ?_⟩
  · obtain ⟨img, himg⟩ : ∃ img, parseImage bytes = img := ⟨_, rfl⟩
    obtain ⟨u, hu⟩ : ∃ u, restarted img s = u := ⟨_, rfl⟩
    have hconfigured : s.interval.membership ≠ .unconfigured := by simp [hm]
    obtain ⟨himage, -, hstore⟩ := restarted_apart img s
    obtain ⟨hpending, hcontrol, hinterval, hring, hengine, hroster, hline, hrx, hcheck, hresp, hbegun⟩ := restarted_blocks img s
    have hshow := started_shown (img := img) hconfigured
    rw [hu] at himage hstore hpending hcontrol hinterval hring hengine hroster hline hrx hcheck hresp hbegun hshow
    have hcontents : u.store.contents = s.store.contents := congrArg Store.contents hstore
    have hrecords : (undamaged u).store.contents = s.store.contents := by
      simp only [undamaged]
      exact (restoredAll_steady u).contents.trans hcontents
    have hunit : (undamaged u).interval = s.interval := by simp only [undamaged, restoredAll_keeps, hinterval]
    have hcond : (undamaged u).cond = (restoredAll u).cond := by simp only [undamaged]
    obtain ⟨x, hx, hnotices, hsound, hfault⟩ := raiseDamaged_starting (s := undamaged u) (by rw [hunit]; exact hm)
    rw [hrecords, damagedRecords_eq, hcond] at hsound hfault
    rw [hcond] at hnotices
    rw [hunit] at hfault
    have hfaultless : Faultless s (restoredAll u) := hbegun.trans (restoredAll_faultless u)
    obtain ⟨tpending, tcontrol, timage, tinterval, tring, tengine, troster, tline, trx, tcheck, tresp, tcond, tholds, tlast, tstore,
      tchannels⟩ := started_blocks u x
    have hstarted := exec_loadComplete_valid hpower hm hload hvalid
    rw [himg, hu, restore_eq, hx] at hstarted
    rw [hcontents] at tlast
    refine ⟨_, hstarted, (timage.trans himage).trans himg.symm, tcontrol.trans hcontrol, ?_, troster.trans (hroster.trans ?_), ?_, fun ch => ?_,
      tlast.trans ?_, ?_, ?_, tpending.trans hpending, tring.trans hring, tengine.trans hengine, trx.trans hrx, tcheck.trans hcheck,
      tresp.trans hresp, tholds, ?_, ?_⟩
    · rw [tinterval, timage, hinterval]
    · rw [timage, himage]
    · rw [tline, hline]
    · rw [tchannels, hcontents]
      cases s.store.contents.lifetimes.get ch <;> rfl
    · cases s.store.contents.node <;> rfl
    · rw [tstore, (restoredAll_steady u).contents, hcontents]
    · rw [tstore, (restoredAll_steady u).writing, hstore]
    · intro unit fresh shown' hroom
      have hunits : ∀ i, unit i = (img.accounts.get i).unit := fun i =>
        congrArg (fun x : Image => (x.accounts.get i).unit) (timage.trans himage)
      have hfresh : fresh = allAccounts.filter (freshIn s.store.contents img) := List.filter_congr fun i _ => by
        cases hcell : s.store.contents.accounts.get i <;> simp only [freshIn, hcell, hunits]
      rw [hfresh] at hroom ⊢
      have hsame : shown' = shown := rfl
      rw [tcond, hnotices, hsame, hshow hroom]
      simp only [hunits]
      cases s.control.resetCause <;> rfl
    · intro damaged
      rw [tcond]
      refine ⟨fun hnone => ?_, fun lowest others hsome hrec => ?_⟩
      · rw [hsound hnone]
        exact ⟨hfaultless.record, hfaultless.raised⟩
      · obtain ⟨hraised, hrecord⟩ := hfault lowest others hsome (hfaultless.record.trans hrec)
        exact ⟨hraised.trans (congrArg bump hfaultless.raised), hrecord⟩
  · rw [exec_loadComplete hpower hm hload, finishLoad, hinvalid]
    refine ⟨_, rfl, startInvalid_eq hm hrec, ?_, firstFailed_range hinvalid⟩
    simp only [startInvalid_eq hm hrec]
    simp [State.faultOutput, State.powered, hpower]

end Sys2Proof.Restoring

namespace Sys2Proof.LineCoding

open Sys2Proof Sys2Proof.Machine

/-! ## Numbers as bits and bytes (R215) -/

theorem length_natBits (n v : Nat) : (natBits n v).length = n := by
  induction n with
  | zero => rfl
  | succ n ih => simp [natBits, ih]

theorem length_beBytes (n v : Nat) : (beBytes n v).length = n := by
  induction n with
  | zero => rfl
  | succ n ih => simp [beBytes, ih]

theorem natOfBits_foldl (a : Nat) (l : List Bool) :
    l.foldl (fun a b => 2 * a + b.toNat) a = a * 2 ^ l.length + natOfBits l := by
  induction l generalizing a with
  | nil => simp [natOfBits]
  | cons b l ih =>
    have hcons : natOfBits (b :: l) = l.foldl (fun a b => 2 * a + b.toNat) (2 * 0 + b.toNat) := rfl
    rw [hcons, ih, List.foldl_cons, ih, List.length_cons, Nat.pow_succ]
    ring

theorem natOfBits_cons (b : Bool) (l : List Bool) : natOfBits (b :: l) = b.toNat * 2 ^ l.length + natOfBits l :=
  (natOfBits_foldl (2 * 0 + b.toNat) l).trans (by simp)

theorem natOfBits_append (l m : List Bool) : natOfBits (l ++ m) = natOfBits l * 2 ^ m.length + natOfBits m := by
  rw [natOfBits, List.foldl_append, natOfBits_foldl]
  rfl

theorem natOfBytes_foldl (a : Nat) (l : List Byte) :
    l.foldl (fun a b => a * 256 + b.toNat) a = a * 256 ^ l.length + natOfBytes l := by
  induction l generalizing a with
  | nil => simp [natOfBytes]
  | cons b l ih =>
    have hcons : natOfBytes (b :: l) = l.foldl (fun a b => a * 256 + b.toNat) (0 * 256 + b.toNat) := rfl
    rw [hcons, ih, List.foldl_cons, ih, List.length_cons, Nat.pow_succ]
    ring

theorem natOfBytes_cons (b : Byte) (l : List Byte) : natOfBytes (b :: l) = b.toNat * 256 ^ l.length + natOfBytes l :=
  (natOfBytes_foldl (0 * 256 + b.toNat) l).trans (by simp)

/-- The lowest bits of a number are what its bits spell. -/
theorem natOfBits_natBits (n v : Nat) : natOfBits (natBits n v) = v % 2 ^ n := by
  induction n with
  | zero => simp [natBits, natOfBits, Nat.mod_one]
  | succ n ih =>
    rw [natBits, natOfBits_cons, length_natBits, ih, Nat.testBit_eq_decide_div_mod_eq, Nat.pow_succ, Nat.mod_mul]
    obtain hbit | hbit : v / 2 ^ n % 2 = 0 ∨ v / 2 ^ n % 2 = 1 := by omega
    · simp [hbit]
    · simp [hbit, Nat.add_comm]

theorem natOfBytes_beBytes (n v : Nat) : natOfBytes (beBytes n v) = v % 256 ^ n := by
  induction n with
  | zero => simp [beBytes, natOfBytes, Nat.mod_one]
  | succ n ih =>
    rw [beBytes, natOfBytes_cons, length_beBytes, ih, BitVec.toNat_ofNat, Nat.pow_succ 256, Nat.mod_mul (a := 256 ^ n), Nat.add_comm,
      Nat.mul_comm]

/-! ## Bytes as bits -/

theorem length_byteBits (b : Byte) : (byteBits b).length = 8 := length_natBits ..

theorem natOfBits_byteBits (b : Byte) : natOfBits (byteBits b) = b.toNat := by
  rw [byteBits, natOfBits_natBits]
  exact Nat.mod_eq_of_lt b.isLt

theorem bytesBits_cons (b : Byte) (l : List Byte) : bytesBits (b :: l) = byteBits b ++ bytesBits l := List.flatMap_cons ..

theorem bytesBits_append (l m : List Byte) : bytesBits (l ++ m) = bytesBits l ++ bytesBits m := List.flatMap_append ..

theorem length_bytesBits (l : List Byte) : (bytesBits l).length = 8 * l.length := by
  induction l with
  | nil => rfl
  | cons b l ih =>
    rw [bytesBits_cons, List.length_append, length_byteBits, ih, List.length_cons]
    omega

theorem natOfBits_bytesBits (l : List Byte) : natOfBits (bytesBits l) = natOfBytes l := by
  induction l with
  | nil => rfl
  | cons b l ih =>
    rw [bytesBits_cons, natOfBits_append, natOfBytes_cons, natOfBits_byteBits, length_bytesBits, ih, Nat.pow_mul]

theorem bytesOfBits_bytesBits (l : List Byte) : bytesOfBits l.length (bytesBits l) = l := by
  induction l with
  | nil => rfl
  | cons b l ih =>
    have htake : (bytesBits (b :: l)).take 8 = byteBits b := by
      rw [bytesBits_cons]
      exact List.take_left' (length_byteBits b)
    have hdrop : (bytesBits (b :: l)).drop 8 = bytesBits l := by
      rw [bytesBits_cons]
      exact List.drop_left' (length_byteBits b)
    rw [List.length_cons, bytesOfBits, htake, hdrop, ih, natOfBits_byteBits, BitVec.ofNat_toNat, BitVec.setWidth_eq]

/-! ## Fields (R217) -/

/-- A field that begins the bytes. -/
theorem fieldAt_head (n v : Nat) (rest : List Byte) : fieldAt (beBytes n v ++ rest) 0 n = v % 256 ^ n := by
  rw [fieldAt, List.drop_zero, List.take_left' (length_beBytes n v), natOfBytes_beBytes]

theorem fieldAt_whole (n v : Nat) : fieldAt (beBytes n v) 0 n = v % 256 ^ n := by
  have h := fieldAt_head n v []
  rwa [List.append_nil] at h

/-- A field behind another. -/
theorem fieldAt_behind (n v : Nat) (rest : List Byte) (off len : Nat) :
    fieldAt (beBytes n v ++ rest) (n + off) len = fieldAt rest off len := by
  rw [fieldAt, ← List.drop_drop, List.drop_left' (length_beBytes n v)]
  rfl

/-- A field that lies wholly behind the first. -/
theorem fieldAt_skip {n off : Nat} (h : n ≤ off) (v : Nat) (rest : List Byte) (len : Nat) :
    fieldAt (beBytes n v ++ rest) off len = fieldAt rest (off - n) len := by
  obtain ⟨m, rfl⟩ := Nat.exists_eq_add_of_le h
  rw [fieldAt_behind, Nat.add_sub_cancel_left]

/-! ## Fill bits (R139) -/

theorem putBits_append (r : Run) (l m : List Bool) : putBits r (l ++ m) =
    ((putBits r l).1 ++ (putBits (putBits r l).2 m).1, (putBits (putBits r l).2 m).2) := by
  induction l generalizing r with
  | nil => rfl
  | cons b l ih =>
    rw [List.cons_append, putBits, putBits]
    split
    · simp only [ih, List.cons_append]
    · simp only [ih, List.cons_append]

/-- The bits put on the line are read back, and the reader's run is the sender's. -/
theorem getBits_putBits (r : Run) (l rest : List Bool) :
    getBits l.length r ((putBits r l).1 ++ rest) = some (l, (putBits r l).2, rest) := by
  induction l generalizing r with
  | nil => rfl
  | cons b l ih =>
    by_cases hfull : r.len = 7
    · have hput : putBits r (b :: l) = ((!r.last) :: b :: (putBits ⟨b, 1⟩ l).1, (putBits ⟨b, 1⟩ l).2) := by
        rw [putBits, if_pos (by simpa using hfull)]
      have hget : getBit r ((putBits r (b :: l)).1 ++ rest) = some (b, ⟨b, 1⟩, (putBits ⟨b, 1⟩ l).1 ++ rest) := by
        rw [hput, getBit, if_pos (by simpa using hfull), if_neg (by simp)]
        rfl
      rw [hput] at hget
      rw [hput, List.length_cons, getBits]
      simp only [hget, ih]
    · have hput : putBits r (b :: l) = (b :: (putBits (r.push b) l).1, (putBits (r.push b) l).2) := by
        rw [putBits, if_neg (by simpa using hfull)]
      have hget : getBit r ((putBits r (b :: l)).1 ++ rest) = some (b, r.push b, (putBits (r.push b) l).1 ++ rest) := by
        rw [hput, getBit, if_neg (by simpa using hfull)]
        rfl
      rw [hput] at hget
      rw [hput, List.length_cons, getBits]
      simp only [hget, ih]

/-- The end bits are read behind the fill bit that may follow the last check bit. -/
theorem readEnd_endBits (r : Run) : readEnd r ((if r.endFill then [!r.last] else []) ++ [true, true]) = some true := by
  unfold readEnd
  cases r.endFill
  · rfl
  · cases r.last <;> rfl

end Sys2Proof.LineCoding

namespace Sys2Proof.LineCoding

open Sys2Proof Sys2Proof.Machine

/-! ## A frame received (R140, R147) -/

/-- The first two bytes of a frame as a number (R216). -/
def heading (source : Nat) (body : FrameBody) : Nat := body.kind * 4096 + source * 64 + body.payload.length

section
variable {source : Nat} {body : FrameBody}

theorem kind_range (body : FrameBody) : 1 ≤ body.kind ∧ body.kind ≤ 7 := by
  cases body <;> simp [FrameBody.kind]

/-- The fields of the heading, in their ranges. -/
theorem heading_fields (hsource : source ≤ 62) (hlength : body.payload.length ≤ 32) : heading source body < 65536
    ∧ heading source body / 4096 = body.kind ∧ heading source body / 64 % 64 = source
    ∧ heading source body % 64 = body.payload.length := by
  obtain ⟨-, hkind⟩ := kind_range body
  unfold heading
  omega

theorem natOfBits_heading (hsource : source ≤ 62) (hlength : body.payload.length ≤ 32) :
    natOfBits (bytesBits (beBytes 2 (heading source body))) = heading source body := by
  rw [natOfBits_bytesBits, natOfBytes_beBytes]
  exact Nat.mod_eq_of_lt (heading_fields hsource hlength).1

/-- The bits of a frame: the start bit and the heading, the payload, the check. -/
theorem getBits_frame (head payload check rest : List Bool) :
    ∃ r line1 line2, getBits head.length Run.start ((putBits Run.start (head ++ (payload ++ check))).1 ++ rest) =
        some (head, (putBits Run.start head).2, line1)
      ∧ getBits payload.length (putBits Run.start head).2 line1 = some (payload, r, line2)
      ∧ getBits check.length r line2 = some (check, (putBits Run.start (head ++ (payload ++ check))).2, rest) := by
  rw [putBits_append, putBits_append, List.append_assoc, List.append_assoc]
  exact ⟨_, _, _, getBits_putBits .., getBits_putBits .., getBits_putBits ..⟩

/-- The checks at the end pass for the bits that were sent. -/
theorem endChecks_sent (h1 : 1 ≤ source) (hsource : source ≤ 62) (hlength : body.payload.length ≤ 32)
    (hallowed : lengthAllowed body.kind body.payload.length = true) :
    endChecks true (bytesBits (beBytes 2 (heading source body))) (bytesBits body.payload)
      (natBits 16 (crc16 (beBytes 2 (heading source body) ++ body.payload)).toNat) = .ok ⟨source, parseBody body.kind body.payload⟩ := by
  obtain ⟨-, hkind, hfrom, hlen⟩ := heading_fields hsource hlength
  have hcheck : (crcBits 0x8005#16 0xFFFF#16 (bytesBits (beBytes 2 (heading source body)) ++ bytesBits body.payload)).toNat =
      natOfBits (natBits 16 (crc16 (beBytes 2 (heading source body) ++ body.payload)).toNat) := by
    rw [natOfBits_natBits, crc16, bytesBits_append]
    exact (Nat.mod_eq_of_lt (BitVec.isLt _)).symm
  unfold endChecks
  simp only [natOfBits_heading hsource hlength, hkind, hfrom, hlen, hcheck, hallowed, kind_range body, bytesOfBits_bytesBits, h1, hsource,
    bne_self_eq_false, Bool.not_true, Bool.false_eq_true, if_false, and_self, decide_true]

/-- The levels of a frame give its source and its payload, read as its kind lays it out. -/
theorem receive_lineBits (h1 : 1 ≤ source) (hsource : source ≤ 62) (hlength : body.payload.length ≤ 32)
    (hallowed : lengthAllowed body.kind body.payload.length = true) :
    receive (lineBits source body) = .ok ⟨source, parseBody body.kind body.payload⟩ := by
  let check := natBits 16 (crc16 (beBytes 2 (heading source body) ++ body.payload)).toNat
  let bits := (false :: bytesBits (beBytes 2 (heading source body))) ++ (bytesBits body.payload ++ check)
  let t := putBits Run.start bits
  have hline : lineBits source body = t.1 ++ ((if t.2.endFill then [!t.2.last] else []) ++ [true, true]) := by
    have hbits : false :: bytesBits (checkedBytes body.kind source body.payload)
        ++ natBits 16 (crc16 (checkedBytes body.kind source body.payload)).toNat = bits := by
      rw [checkedBytes, bytesBits_append]
      simp only [bits, List.cons_append, List.append_assoc]
      rfl
    rw [lineBits]
    simp only [hbits, List.append_assoc]
    rfl
  obtain ⟨r, line1, line2, hhead, hpayload, hchecked⟩ := getBits_frame
    (false :: bytesBits (beBytes 2 (heading source body))) (bytesBits body.payload) check
    ((if t.2.endFill then [!t.2.last] else []) ++ [true, true])
  rw [List.length_cons, length_bytesBits, length_beBytes] at hhead
  rw [length_bytesBits] at hpayload
  rw [length_natBits] at hchecked
  have hlen : natOfBits (bytesBits (beBytes 2 (heading source body))) % 64 = body.payload.length := by
    obtain ⟨-, -, -, hlen⟩ := heading_fields hsource hlength
    rw [natOfBits_heading hsource hlength, hlen]
  have hend := readEnd_endBits t.2
  rw [hline, receive]
  simp only [t, bits, hhead, List.tail_cons, hlen, if_neg (Nat.not_lt.mpr hlength), hpayload, hchecked]
  simp only [t, bits] at hend
  simp only [hend]
  exact endChecks_sent h1 hsource hlength hallowed

end

end Sys2Proof.LineCoding

namespace Sys2Proof.LineCoding

open Sys2Proof Sys2Proof.Machine

/-! ## The payload of each kind read back (R217, R220) -/

/-- The flags of a SUMMARY lie in a byte, each in its bit. -/
theorem flags_read : ∀ (p : PoolId) (e t r d : Bool),
    let f := p.val + flagBit 2 e + flagBit 3 t + flagBit 4 r + flagBit 5 d
    f % 256 = f ∧ lowTwo f = p ∧ f.testBit 2 = e ∧ f.testBit 3 = t ∧ f.testBit 4 = r ∧ f.testBit 5 = d := by
  decide

/-- The first byte of an ANNOUNCE: the role and the membership. -/
theorem announceFlags_read (role : Role) (m : Option Membership) :
    let f := flagBit 7 (role == .reader) + (match m with | some m => m.code | none => 7)
    f % 256 = f ∧ (if f.testBit 7 then Role.reader else .node) = role ∧ Membership.ofCode (f % 8) = m := by
  cases role <;> cases m with
  | none => decide
  | some m => cases m <;> decide

theorem lowTwo_val (p : Fin 4) : lowTwo (p.val % 256) = p := by
  revert p
  decide

theorem digest_read (d : Option Digest) : (if d.isNone then none else
    some (BitVec.ofNat 32 ((match d with | some d => d.toNat | none => 0) % 256 ^ 4))) = d := by
  cases d with
  | none => rfl
  | some d => simp [Nat.mod_eq_of_lt (show d.toNat < 4294967296 from d.isLt)]

theorem interval_read {k : Nat} (hk : k ≤ maxInterval) : k % 256 ^ 4 = k := Nat.mod_eq_of_lt (Nat.lt_succ_of_le hk)

/-! ### The fields at their places -/

section
variable (i f d k e c u m a : Nat)

theorem parse_close_fields : parseBody 1 (beBytes 4 i ++ beBytes 1 f) = .close (i % 256 ^ 4) (lowTwo (f % 256 ^ 1)) := by
  simp only [parseBody, fieldAt_head, fieldAt_whole, fieldAt_skip, Nat.le_refl, Nat.sub_self]

theorem parse_recall_fields : parseBody 3 (beBytes 4 i ++ beBytes 1 f ++ beBytes 8 d) =
    .recall (i % 256 ^ 4) (lowTwo (f % 256 ^ 1)) (BitVec.ofNat 64 (d % 256 ^ 8)) := by
  simp only [parseBody, List.append_assoc, fieldAt_head, fieldAt_whole, fieldAt_skip, Nat.le_refl, Nat.sub_self, Nat.reduceLeDiff,
    Nat.reduceSub]

theorem parse_announce_fields : parseBody 5 (beBytes 1 f ++ beBytes 1 m ++ beBytes 4 d ++ beBytes 4 k) =
    .announce (if (f % 256 ^ 1).testBit 7 then .reader else .node) (Membership.ofCode (f % 256 ^ 1 % 8))
      (BitVec.ofNat 4 (m % 256 ^ 1)) (BitVec.ofNat 32 (d % 256 ^ 4)) (k % 256 ^ 4) none := by
  simp only [parseBody, List.append_assoc, fieldAt_head, fieldAt_whole, fieldAt_skip, Nat.le_refl, Nat.sub_self, Nat.reduceLeDiff,
    Nat.reduceSub]

theorem parse_summary_fields : parseBody 4 (beBytes 4 i ++ beBytes 1 f ++ beBytes 4 e ++ beBytes 5 c ++ beBytes 4 u ++ beBytes 4 m
      ++ beBytes 3 a ++ beBytes 4 d) = .summary
    { interval := i % 256 ^ 4
      pool := lowTwo (f % 256 ^ 1)
      values := ⟨e % 256 ^ 4, c % 256 ^ 5, u % 256 ^ 4, m % 256 ^ 4, a % 256 ^ 3⟩
      estimated := (f % 256 ^ 1).testBit 2
      tampered := (f % 256 ^ 1).testBit 3
      resend := (f % 256 ^ 1).testBit 4
      digest := if (f % 256 ^ 1).testBit 5 then none else some (BitVec.ofNat 32 (d % 256 ^ 4)) } := by
  simp only [parseBody, List.append_assoc, fieldAt_head, fieldAt_whole, fieldAt_skip, Nat.le_refl, Nat.sub_self, Nat.reduceLeDiff,
    Nat.reduceSub]

end

/-! ### Each kind -/

theorem parse_close {k : Nat} (band : Band) (hk : k ≤ maxInterval) :
    parseBody 1 (FrameBody.payload (.close k band)) = .close k band := by
  refine (parse_close_fields k band.val).trans ?_
  rw [interval_read hk]
  exact congrArg (FrameBody.close k) (lowTwo_val band)

theorem parse_recall {k : Nat} (p : PoolId) (missing : BitVec 64) (hk : k ≤ maxInterval) :
    parseBody 3 (FrameBody.payload (.recall k p missing)) = .recall k p missing := by
  have hmissing : BitVec.ofNat 64 (missing.toNat % 256 ^ 8) = missing := by
    rw [Nat.mod_eq_of_lt (by exact missing.isLt), BitVec.ofNat_toNat, BitVec.setWidth_eq]
  refine (parse_recall_fields k p.val missing.toNat).trans ?_
  rw [interval_read hk, hmissing]
  exact congrArg (fun x => FrameBody.recall k x missing) (lowTwo_val p)

theorem parse_announce (role : Role) (m : Option Membership) (mask : PoolMask) (digest : Digest) {k : Nat} (v : Option UnitFigures)
    (hk : k ≤ maxInterval) :
    parseBody 5 (FrameBody.payload (.announce role m mask digest k v)) = .announce role m mask digest k none := by
  obtain ⟨hbyte, hrole, hmembership⟩ := announceFlags_read role m
  have hmask : BitVec.ofNat 4 (mask.toNat % 256 ^ 1) = mask := by
    rw [Nat.mod_eq_of_lt (by have := mask.isLt; omega), BitVec.ofNat_toNat, BitVec.setWidth_eq]
  have hdigest : BitVec.ofNat 32 (digest.toNat % 256 ^ 4) = digest := by
    rw [Nat.mod_eq_of_lt (by exact digest.isLt), BitVec.ofNat_toNat, BitVec.setWidth_eq]
  refine (parse_announce_fields ..).trans ?_
  rw [interval_read hk, hmask, hdigest, Nat.pow_one]
  refine (congrArg (fun f : Nat => FrameBody.announce (if f.testBit 7 then .reader else .node) (Membership.ofCode (f % 8)) mask digest k
    none) hbyte).trans ?_
  exact (congrArg (fun x => FrameBody.announce x _ mask digest k none) hrole).trans
    (congrArg (fun x => FrameBody.announce role x mask digest k none) hmembership)

theorem parse_summary (b : SummaryBody) (hk : b.interval ≤ maxInterval) (hv : b.values.inRange) :
    parseBody 4 (FrameBody.payload (.summary b)) = .summary b := by
  obtain ⟨interval, pool, ⟨e, c, u, m, a⟩, estimated, tampered, resend, digest⟩ := b
  obtain ⟨he, hc, hu, hm, ha⟩ := hv
  obtain ⟨hbyte, hpool, hestimated, htampered, hresend, hdigest⟩ := flags_read pool estimated tampered resend digest.isNone
  have hread := digest_read digest
  have he' : e % 256 ^ 4 = e := Nat.mod_eq_of_lt (Nat.lt_succ_of_le he)
  have hc' : c % 256 ^ 5 = c := Nat.mod_eq_of_lt (Nat.lt_succ_of_le hc)
  have hu' : u % 256 ^ 4 = u := Nat.mod_eq_of_lt (Nat.lt_succ_of_le hu)
  have hm' : m % 256 ^ 4 = m := Nat.mod_eq_of_lt (Nat.lt_succ_of_le hm)
  have ha' : a % 256 ^ 3 = a := Nat.mod_eq_of_lt (Nat.lt_succ_of_le ha)
  have hinterval : interval % 256 ^ 4 = interval := interval_read hk
  refine (parse_summary_fields ..).trans ?_
  rw [Nat.pow_one, hbyte, hpool, hestimated, htampered, hresend, hdigest]
  dsimp only
  rw [hinterval, he', hc', hu', hm', ha']
  exact congrArg (fun x => FrameBody.summary ⟨interval, pool, ⟨e, c, u, m, a⟩, estimated, tampered, resend, x⟩) hread

/-- Every kind's payload has a length that the kind allows, and reads back as the frame's contents. -/
theorem payload_read {body : FrameBody} (h : body.wf) : body.payload.length ≤ 32 ∧ lengthAllowed body.kind body.payload.length = true
    ∧ parseBody body.kind body.payload = body.onLine := by
  match body, h with
  | .close k band, h => exact ⟨by simp [FrameBody.payload, length_beBytes], by simp [FrameBody.payload, length_beBytes, lengthAllowed,
      FrameBody.kind], parse_close band h⟩
  | .condition p, h =>
    have hlength : p.length = 9 := h
    exact ⟨by simp [FrameBody.payload, hlength], by simp [FrameBody.payload, FrameBody.kind, lengthAllowed, hlength], rfl⟩
  | .recall k p missing, h => exact ⟨by simp [FrameBody.payload, length_beBytes], by simp [FrameBody.payload, length_beBytes, lengthAllowed,
      FrameBody.kind], parse_recall p missing h⟩
  | .summary b, h => exact ⟨by simp [FrameBody.payload, length_beBytes], by simp [FrameBody.payload, length_beBytes, lengthAllowed,
      FrameBody.kind], parse_summary b h.1 h.2⟩
  | .announce role m mask digest k v, h => exact ⟨by simp [FrameBody.payload, length_beBytes], by simp [FrameBody.payload, length_beBytes,
      lengthAllowed, FrameBody.kind], parse_announce role m mask digest v h⟩
  | .request p, h =>
    obtain ⟨hlow, hhigh⟩ : 3 ≤ p.length ∧ p.length ≤ 6 := h
    exact ⟨hhigh.trans (by omega), by simp [FrameBody.payload, FrameBody.kind, lengthAllowed, hlow, hhigh], rfl⟩
  | .reply p, h =>
    obtain ⟨hlow, hhigh⟩ : 4 ≤ p.length ∧ p.length ≤ 32 := h
    exact ⟨hhigh, by simp [FrameBody.payload, FrameBody.kind, lengthAllowed, hlow, hhigh], rfl⟩

/-- Settles O4: the bits are read back, the checks pass, and the payload reads as it was laid out. -/
theorem receiveReadsBackLineBits : Obligations.ReceiveReadsBackLineBits := by
  intro source body h1 hsource hwf
  obtain ⟨hlength, hallowed, hread⟩ := payload_read hwf
  rw [receive_lineBits h1 hsource hlength hallowed, hread]

end Sys2Proof.LineCoding
